-- ==== Sys2Proof/Word.lean ====
section
/-! DEFINITION. The word types of the NVH-384 and the byte of its memories (00_scope R9). -/

namespace Sys2Proof

/-- A register of BAR0 is 32 bits wide (R9). -/
abbrev Word := BitVec 32

/-- One byte of a record, a descriptor or the boot flash. -/
abbrev Byte := BitVec 8

end Sys2Proof
end

