-- ==== Sys2Proof/Syntax.lean ====
section
/-! DEFINITION. The commands of the block: one constructor of `Instr` per row of the opcode table, and the operands
the rows' rules name. Events carry what the manual says arrives with them; descriptor commands carry the
header fields of R387 and the PARAMS of R396 to R398, each field as the number it encodes (R390). -/

namespace Sys2Proof

/-- The three requesters of registers (R368). -/
inductive Requester where
  | pcie | service | controller
  deriving DecidableEq, Repr

/-- The two ring ports (R65, R311). -/
inductive Port where
  | a | b
  deriving DecidableEq, Repr

/-- The two leased ring roles (R333). -/
inductive Role where
  | gateway | arbiter
  deriving DecidableEq, Repr

/-- Pair P0 or pair P1 (R409). -/
inductive Pair where
  | p0 | p1
  deriving DecidableEq, Repr

/-- The three open-wire monitors (R108, R143), coded 0, 1 and 2 in the event (R408). -/
inductive Monitor where
  | tap | sense | input
  deriving DecidableEq, Repr

/-- The source kinds of R235. -/
inductive ChanKind where
  | dynamic | scanned | polled | gpio
  deriving DecidableEq, Repr

/-- A channel: its kind and number (R17, R235). -/
structure Chan where
  kind : ChanKind
  num  : Nat
  deriving DecidableEq, Repr

/-- Where a monitor sits: one channel, or the sense pair of a rail or of a course (R108, R143). -/
inductive WireSite where
  | channel (c : Chan)
  | rail (e : Nat)
  | course (c : Nat)
  deriving DecidableEq, Repr

/-- A factor set of a slice, a spare or a course (R181, R191); trims are signed taps. -/
structure FactorSet where
  thresh   : List Int
  delay    : List Nat
  offset   : List Int
  gain     : List Nat
  verified : List Nat
  temp     : Int
  result   : Nat
  failGain : Nat
  deriving DecidableEq, Repr

/-- What a course's converter, monitors and period counter measured in the slot that ends (R131, R139, R150 to R152). -/
structure SlotMeas where
  /-- the converter's result before factors (R183); for a VW entry unused -/
  raw : Int
  /-- the driver was out of regulation during settle or conversion (R139) -/
  outOfReg : Bool
  /-- the driver was in current limit throughout the slot (R140) -/
  limited : Bool
  /-- rising zero crossings that pass the comparator, in CCLK after the slot start, rising (R151) -/
  crossings : List Nat
  /-- the ring-down at 40 kS/s over the first 25.6 ms of the measurement window, 1,024 samples (R152) -/
  samples : List Int
  /-- the coil measured above 10 kΩ (R150) -/
  coilOpen : Bool
  deriving DecidableEq, Repr

/-- What the levels of R186 read at one gain, as means in 2^-8 code: ZERO, POS90 and NEG90 before correction, ZERO, POS45 and NEG45
in the verify step; the path delay without trim, on EDGE, in ps (R185, R196). -/
structure GainReading where
  zero    : Int
  pos90   : Int
  neg90   : Int
  delayPs : Int
  zeroV   : Int
  pos45   : Int
  neg45   : Int
  deriving DecidableEq, Repr

/-- What a slice, spare or course reads in a calibration or a slice test (R185, R196): per threshold the tap at which it splits the
modulator's levels evenly about ZERO, the gains that ran, in order, and the tone over its expected amplitude in 16.16. -/
structure CalReading where
  splits : List Int
  gains  : List GainReading
  tone   : Nat
  deriving DecidableEq, Repr

/-- What a burst of DRAM gives when read (R306, R309). -/
inductive BurstOutcome where
  | clean
  | corrected (syndrome : Nat)
  | uncorrectable (syndrome : Nat)
  deriving DecidableEq, Repr

/-- What one burst of a record's read gives: the record in the order of the read, the burst in it, and the outcome (R306, R309). -/
structure ReadError where
  rcd : Nat
  burst : Nat
  found : BurstOutcome
  deriving DecidableEq, Repr

/-- A frame at a ring port (R312, R314, R317). -/
structure RingFrame where
  /-- destination and source address -/
  dstAddr : Nat
  srcAddr : Nat
  /-- the HSR tag: present, path identifier, LSDU size, sequence number (R314) -/
  tagged : Bool
  path : Nat
  lsdu : Nat
  hsrSeq : Nat
  etherType : Nat
  /-- bytes from destination address to FCS, and whether the FCS holds -/
  length : Nat
  fcsOk : Bool
  /-- the 16 bytes after the EtherType: the Jorva header (R318), or the first 16 of a PTP message -/
  head : List Byte
  /-- the payload that follows a Jorva header, padding included -/
  payload : List Byte
  /-- hop count of a BEACON (R335), and correctionField of a PTP message in 2^-4 ns (R58) -/
  hops : Nat
  correction16 : Int
  deriving DecidableEq, Repr

/-- A Sync (R57, R58): times in units of 2^-4 ns; `ingress16` is its arrival as the port takes it, before the corrections of R58
and R349. -/
structure PtpSync where
  domain : Nat
  twoStep : Bool
  seqId : Nat
  master : Nat
  origin16 : Int
  correction16 : Int
  ingress16 : Int
  deriving DecidableEq, Repr

/-- An Announce and the data set it carries (R57, R62). -/
structure PtpAnnounce where
  domain : Nat
  master : Nat
  priority1 : Nat
  clockQuality : Nat
  priority2 : Nat
  stepsRemoved : Nat
  deriving DecidableEq, Repr

/-- What a beacon carries (R335). -/
structure Beacon where
  hub : Nat
  joining : Bool
  hops : Nat
  version : Nat
  rate : Nat
  etherType : Nat
  reserve : Nat
  rosterCrc : Nat
  gateway : Bool
  arbiter : Bool
  master : Bool
  gatewayTerm : Nat
  arbiterTerm : Nat
  rho : Nat
  sigma : Nat
  deriving DecidableEq, Repr

/-- The budget messages of R330; `hub` is the asking hub. -/
inductive BudgetMsg where
  | request (hub stream rho sigma : Nat)
  | granted (hub stream : Nat)
  | refused (hub stream : Nat) (resource : Nat) (excess : Nat)
  deriving DecidableEq, Repr

/-- The lease messages of R333; `sent` is the hub time in ns at which the message was sent. -/
inductive LeaseMsg where
  | claim (role : Role) (hub term priority sent : Nat)
  | renew (role : Role) (hub term sent : Nat)
  | ack (role : Role) (hub term sent : Nat) (renewal : Bool)
  deriving DecidableEq, Repr

/-- The credit messages of R332. -/
inductive CreditMsg where
  | grant (hub bytes : Nat)
  | giveBack (hub bytes : Nat)
  deriving DecidableEq, Repr

/-- Why a lane leaves UP (R350). -/
inductive LaneLoss where
  | blockLock | signal | cdr | errorRate
  deriving DecidableEq, Repr

/-- What the checker of a lane under test receives, oldest bit first (R356). -/
structure PrbsBits where
  lane : Nat
  bits : List Bool
  deriving DecidableEq, Repr

/-- What a lane stage reports as it completes (R347, R348). -/
structure LaneAlign where
  slip : Nat
  inverted : Bool
  deriving DecidableEq, Repr

/-- The clocks the safety monitor watches (R29). -/
inductive ClockName where
  | refclk | cclk
  deriving DecidableEq, Repr

/-- How a pair reads its saved state at a takeover (R417, R418). -/
structure TakeoverRead where
  newestWhole : Bool
  olderWhole : Bool
  /-- the steps of R418 passed -/
  stepsOk : Bool
  /-- microseconds from the fence or halt to step 5 -/
  micros : Nat
  deriving DecidableEq, Repr

/-- The self-test of a pair (R422): passed, or the part that failed (0 logic, 1 comparator, 2 SRAM). -/
inductive SelfTest where
  | pass
  | fail (part : Nat)
  deriving DecidableEq, Repr

/-- The board table of a boot image (R406, R486): the fitted DRAM (R290), the address order (R302), ring settings, the default VEXC_NOM of
each die in 0.1 V, and the boot flash: clock divider, strobe search range in taps, opcode, dummy clocks and select delays (R442 to R445). -/
structure BoardTable where
  dramMib : Nat
  mts : Nat
  ranks : Nat
  x16 : Bool
  order : Nat
  hubId : Nat
  rate10G : Bool
  fecA : Bool
  fecB : Bool
  etherType : Nat
  reserve : Nat
  roster : List Nat
  gwElig : Bool
  gwPri : Nat
  arbElig : Bool
  arbPri : Nat
  autoJoin : Bool
  vexc : List Nat
  ospiDiv : Nat
  strobeFrom : Nat
  strobeTo : Nat
  ospiOpcode : Nat
  ospiDummies : Nat
  tCss : Nat
  tCsh : Nat
  tCsd : Nat
  deriving DecidableEq, Repr

/-- What boot finds (R485, R487, R488, R303, R503). -/
structure BootFindings where
  p0Passes : Bool
  p1Passes : Bool
  /-- the copies of the boot control block that are whole, and whether the last write was cut before it reached copy 1 (R483, R521) -/
  copy0Whole : Bool
  copy1Whole : Bool
  copy1Old : Bool
  slotAValid : Bool
  slotBValid : Bool
  /-- of the image booted: version, highest Jorva version, microcode interface, checkpoint format (R484), its board table -/
  clesinVer : Nat
  jorvaHi : Nat
  feIf : Nat
  ckptFmt : Nat
  board : BoardTable
  dramTrains : Bool
  /-- the passing range of the boot flash's strobe, first and last tap, over all 64 (R442) -/
  strobeLow : Nat
  strobeHigh : Nat
  /-- FE supplies out of their window (numbers of R482, 6 to 13) with what is measured, in units of 10 mV (R503) -/
  feSuppliesOut : List (Nat × Nat)
  deriving DecidableEq, Repr

/-- A flash operation's end (R379, R493): done, or the cause in a FLASH_ERROR entry. -/
inductive FlashEnd where
  | done
  | failed (cause : Nat) (addr : Nat)
  deriving DecidableEq, Repr

/-- What the commit's verification finds beyond the header, which it reads from the flash (R485, R494): whether the signature
verifies, and the dies whose microcode differs. -/
structure ImageFacts where
  signed : Bool
  diesChanged : List Nat
  deriving DecidableEq, Repr

/-- The value-output findings of R457. -/
inductive FbFinding where
  | openLoad | stuckOn
  deriving DecidableEq, Repr

/-- The fields of a command descriptor that every opcode uses (R387), and where the descriptor stood. -/
structure CmdHdr where
  tag : Nat
  idem : Bool
  fence : Bool
  force : Bool
  parallel : Bool
  update : Bool
  cplRing : Nat
  cmdRing : Nat
  descIdx : Nat
  dataLen : Nat
  /-- none for this hub's own host; the gateway hub for a forwarded command (R336) -/
  gateway : Option Nat
  /-- re-executed by a new pair (R407) -/
  reexec : Bool
  deriving DecidableEq, Repr

/-- A COMPLETION frame (R336, R392): the executing hub and the fields of its completion. -/
structure RemoteCompletion where
  hub : Nat
  tag : Nat
  opcode : Nat
  status : Nat
  reexecuted : Bool
  repeated : Bool
  effectFret : Nat
  result : List Byte
  data : List Byte
  deriving DecidableEq, Repr

/-- PARAMS of DYN_CHAN_SET (R396, R98). `chans` names channels by number. -/
structure DynChanP where
  chans : List Nat
  enable : Nat
  mode : Nat
  gain : Nat
  ref : Nat
  tap : Nat
  iMin : Nat
  openWire : Nat
  tone : Nat
  deriving DecidableEq, Repr

/-- PARAMS of DYN_CHAIN_SET (R396, R159, R160). -/
structure DynChainP where
  chans : List Nat
  chain : Nat
  osr : Nat
  m : Nat
  r : Nat
  notch : Nat
  width : Nat
  deriving DecidableEq, Repr

/-- PARAMS of COURSE_SET (R396, R125); `scan` is SCAN_LIST, 16 bytes, 0xFF ending it. -/
structure CourseP where
  course : Nat
  scan : List Nat
  slot : Nat
  vwSlot : Nat
  iLim : Nat
  rounding : Nat
  realign : Nat
  driver : Nat
  deriving DecidableEq, Repr

/-- PARAMS of SCAN_CHAN_SET (R396, R126). -/
structure ScanChanP where
  course : Nat
  positions : List Nat
  enable : Nat
  kind : Nat
  gain : Nat
  ref : Nat
  exc : Nat
  iMin : Nat
  d : Nat
  s : Nat
  openWire : Nat
  sweepLo : Nat
  sweepHi : Nat
  listen : Nat
  deriving DecidableEq, Repr

/-- PARAMS of SUBSCRIBE (R397, R324); `select` is the selection: channel numbers, or the one set or unit. -/
structure SubscribeP where
  stream : Nat
  type : Nat
  events : Nat
  align : Nat
  level : Nat
  hostRing : Nat
  ring : Nat
  select : List Nat
  deriving DecidableEq, Repr

/-- PARAMS of RETRIEVE (R397, R403), and what its reads of the history meet (R306, R309). -/
structure RetrieveP where
  stream : Nat
  dest : Nat
  hostRing : Nat
  firstSeq : Nat
  count : Nat
  found : List ReadError
  deriving DecidableEq, Repr

/-- PARAMS of RING_CONFIG (R397, R370). -/
structure RingConfigP where
  ring : Nat
  type : Nat
  mode : Nat
  groups : Nat
  log2Size : Nat
  base : Nat
  level : Nat
  deriving DecidableEq, Repr

/-- One condition entry as it is written (R235): SRC, KIND, ENABLE, COMB, A, B, H; `reserved` the offset in
the entry of the first field with a reserved bit set, if any. -/
structure CondP where
  src : Chan
  kind : Nat
  enable : Bool
  comb : Nat
  a : Int
  b : Int
  h : Nat
  reserved : Option Nat
  deriving DecidableEq, Repr

/-- PARAMS of COMB_SET (R397, R239). -/
structure CombP where
  comb : Nat
  mode : Nat
  k : Nat
  w : Nat
  anchor : Nat
  holdoff : Nat
  sympGroup : Nat
  event : Nat
  deriving DecidableEq, Repr

/-- PARAMS of UNIT_SET (R397, R242). -/
structure UnitP where
  unit : Nat
  source : Nat
  select : Nat
  pre : Nat
  post : Nat
  quota : Nat
  repeating : Nat
  auto : Nat
  policy : Nat
  chainMask : Nat
  stream : Nat
  autoRelease : Nat
  deriving DecidableEq, Repr

/-- PARAMS of CAPTURE_TRIGGER (R397, R256). -/
structure CapTrigP where
  target : Nat
  index : Nat
  hasTime : Nat
  sec : Nat
  ns : Nat
  deriving DecidableEq, Repr

/-- One channel of RAINFLOW_SET (R397, R272). -/
structure RainChanP where
  chan : Chan
  lo : Int
  hi : Int
  gate : Nat
  mode : Nat
  deriving DecidableEq, Repr

/-- PARAMS of SPECTRAL_SET (R397, R276). -/
structure SpectralP where
  set : Nat
  log2n : Nat
  window : Nat
  overlap : Nat
  a : Nat
  stream : Nat
  chans : List Nat
  pairs : List (Nat × Nat)
  deriving DecidableEq, Repr

/-- PARAMS of RING_PORT_SET (R397, R311). -/
structure RingPortP where
  hubId : Nat
  rate : Nat
  fecA : Nat
  fecB : Nat
  etherType : Nat
  streamReserve : Nat
  deriving DecidableEq, Repr

/-- PARAMS of LANE_TEST (R397, R358). -/
structure LaneTestP where
  lane : Nat
  role : Nat
  pattern : Nat
  inj : Nat
  injK : Nat
  duration : Nat
  hasTarget : Nat
  target : Nat
  deriving DecidableEq, Repr

/-- PARAMS of FP_PORT_SET (R428). -/
structure FpPortP where
  port : Nat
  enable : Nat
  baud : Nat
  parity : Nat
  slot : Nat
  timeout : Nat
  retries : Nat
  downAfter : Nat
  deriving DecidableEq, Repr

/-- A partner directory entry (R430). -/
structure DirEntry where
  enable : Bool
  port : Nat
  unit : Nat
  func : Nat
  type : Nat
  lowFirst : Bool
  reg : Nat
  scale : Int
  age : Nat
  wdata : Nat
  deriving DecidableEq, Repr

/-- PARAMS of VAL_OUT_SET (R452). -/
structure ValOutP where
  out : Nat
  mode : Nat
  safety : Nat
  src : Chan
  comb : Nat
  hold : Nat
  lo : Int
  hi : Int
  pulse : Nat
  fail : Nat
  stale : Nat
  deriving DecidableEq, Repr

/-- PARAMS of SYNC_RESET (R396, R170). -/
structure SyncResetP where
  scope : Nat
  die : Nat
  hasTarget : Nat
  target : Nat
  chans : List Nat
  deriving DecidableEq, Repr

/-- PARAMS of PTP_SET (R396, R57). -/
structure PtpSetP where
  domain : Nat
  logSync : Int
  logAnnounce : Int
  logPdelay : Int
  priority1 : Nat
  priority2 : Nat
  deriving DecidableEq, Repr

/-- A factor-set block as CAL_WRITE carries it (R191): header fields, the set, and whether CHECK holds. -/
structure CalBlock where
  format : Nat
  kind : Nat
  die : Nat
  index : Nat
  uid : Nat
  set : FactorSet
  checkOk : Bool
  deriving DecidableEq, Repr

/-- The commands of the block: each row of the opcode table, by its mnemonic. -/
inductive Instr where
  -- FRET AND RECORDS (03, 08)
  /-- FRET_BOUNDARY (R81); an engine had not finished its work (R87) -/
  | fretBoundary (late : Bool)
  -- FRONT ENDS (04)
  /-- DECIMATOR_OUTPUT (R81); slice 0 to 127, spares 128 to 131; quantiser levels, newest first (R182) -/
  | decimatorOutput (slice : Nat) (levels : List Int)
  /-- MODULATOR_OVERLOAD (R113) -/
  | modulatorOverload (slice : Nat)
  -- TRIGGERS (09)
  /-- GPIO_EDGE (R233) -/
  | gpioEdge (pin : Nat) (level : Bool)
  /-- TERM_EXPIRY (R240) -/
  | termExpiry (comb : Nat)
  /-- CAPTURE_CLOSE (R250) -/
  | captureClose (unit : Nat)
  /-- REARM_END (R251) -/
  | rearmEnd (unit : Nat)
  /-- FULL_TO_ARMED (R251) -/
  | fullToArmed (unit : Nat)
  /-- AUTO_TRIGGER (R252) -/
  | autoTrigger (unit : Nat)
  /-- SYMPATHETIC_RX (R258) -/
  | sympatheticRx (port : Port) (payload : List Byte)
  /-- MERGE_WINDOW_END (R259) -/
  | mergeWindowEnd (group : Nat)
  /-- SYMPATHETIC_FALLBACK (R259) -/
  | sympatheticFallback (group : Nat)
  -- DELIVERY (08, 09)
  /-- CAPTURE_DATA_DELIVER (R261); the read met an uncorrectable error (R309) -/
  | captureDataDeliver (stream : Nat) (found : List ReadError)
  /-- REPLAY_DELIVER (R222) -/
  | replayDeliver (stream : Nat) (found : List ReadError)
  -- EXCITATION AND MONITORS (04, 05, 21)
  /-- RAIL_REGULATION_CHANGE (R103) -/
  | railRegulationChange (rail : Nat) (vsnsMv : Nat) (limiting : Bool)
  /-- RAIL_CURRENT_LIMIT_TIMEOUT (R104) -/
  | railCurrentLimitTimeout (rail : Nat)
  /-- VEXC_HIGH (R105) -/
  | vexcHigh (die : Nat) (tenMv : Nat)
  /-- VEXC_LOW (R505) -/
  | vexcLow (die : Nat) (tenMv : Nat)
  /-- VEXC_RECOVERED (R505) -/
  | vexcRecovered (die : Nat) (tenMv : Nat)
  /-- OPEN_WIRE_DETECT (R108) -/
  | openWireDetect (monitor : Monitor) (site : WireSite)
  /-- OPEN_WIRE_CLEAR_TIMEOUT (R111) -/
  | openWireClearTimeout (monitor : Monitor) (site : WireSite)
  /-- TONE_WINDOW_END (R114); measured over expected amplitude, 16.16 (R114, R408) -/
  | toneWindowEnd (slice : Nat) (ratio : Nat)
  /-- LEARNING_RUN_END (R118) -/
  | learningRunEnd (die : Nat)
  /-- SLICE_TEST_END (R196) -/
  | sliceTestEnd (die : Nat) (measured : CalReading)
  /-- ROTATION_CYCLE_START (R197) -/
  | rotationCycleStart (die : Nat)
  /-- ROTATION_OUT_PERIOD_END (R197) -/
  | rotationOutPeriodEnd (die : Nat)
  /-- SLOT_END (R132) -/
  | slotEnd (course : Nat) (meas : SlotMeas)
  /-- SYNC_IN_EDGE (R169) -/
  | syncInEdge (rising : Bool)
  /-- CAL_SELF_END (R188); 33 slices and 8 courses, in that order (R181) -/
  | calSelfEnd (die : Nat) (measured : List CalReading)
  /-- MICROCODE_RELOAD_END (R494) -/
  | microcodeReloadEnd (die : Nat)
  /-- TEMP_DRIFT (R195) -/
  | tempDrift (die : Nat) (temp : Int)
  -- REDUCTION (10)
  /-- STATS_RECORD_CLOSE (R271); ue: the burst of its accumulators that a read found uncorrectable, if any (R309); so in the next two -/
  | statsRecordClose (set : Nat) (ue : Option Nat)
  /-- RAINFLOW_RECORD_CLOSE (R275) -/
  | rainflowRecordClose (set : Nat) (ue : Option Nat)
  /-- SPECTRUM_RECORD_CLOSE (R280) -/
  | spectrumRecordClose (set : Nat) (ue : Option Nat)
  /-- RED_SELFTEST_END (R289) -/
  | redSelftestEnd (pass : Bool)
  -- DRAM (11)
  /-- RETRAIN_PAUSE (R305) -/
  | retrainPause (above85 : Bool) (move : Int) (edgeNear : Bool)
  /-- SCRUB_READ (R308) -/
  | scrubRead (found : BurstOutcome)
  /-- DRAM_PARITY_ERROR (R307); failures: how many of the reissues failed, 0 to 3 (R307) -/
  | dramParityError (addr : Nat) (requester : Nat) (failures : Nat)
  -- RING (12, 02)
  /-- RING_FRAME_RX (R314) -/
  | ringFrameRx (port : Port) (frame : RingFrame)
  /-- EGRESS_FRAME_TX (R321) -/
  | egressFrameTx (port : Port)
  /-- PTP_SYNC_RX (R56) -/
  | ptpSyncRx (port : Port) (msg : PtpSync)
  /-- PTP_ANNOUNCE_RX (R62) -/
  | ptpAnnounceRx (port : Port) (msg : PtpAnnounce)
  /-- PDELAY_REQ_RX (R58); its arrival in 2^-4 ns as the port takes it -/
  | pdelayReqRx (port : Port) (domain seqId requestor : Nat) (ingress16 : Int)
  /-- PDELAY_RESP_RX (R57); the turnaround in its correctionField, and its arrival as the port takes it, in 2^-4 ns -/
  | pdelayRespRx (port : Port) (domain seqId : Nat) (turnaround16 ingress16 : Int)
  /-- PDELAY_REQ_TX (R57) -/
  | pdelayReqTx (port : Port)
  /-- JORVA_RECORD_RX (R326) -/
  | jorvaRecordRx (hub stream : Nat) (record : List Byte) (retrieval : Bool)
  /-- REASSEMBLY_TIMEOUT (R319) -/
  | reassemblyTimeout (port : Port) (hub stream tag : Nat)
  /-- BEACON_RX (R335) -/
  | beaconRx (port : Port) (msg : Beacon)
  /-- HUB_ABSENT_TIMEOUT (R335) -/
  | hubAbsentTimeout (hub : Nat)
  /-- RING_HOLD_RESEND (R328) -/
  | ringHoldResend (stream : Nat)
  /-- CREDIT_RX (R332) -/
  | creditRx (msg : CreditMsg)
  /-- CREDIT_RETURN_TIMEOUT (R332) -/
  | creditReturnTimeout (hub : Nat)
  /-- BUDGET_MSG_RX (R330) -/
  | budgetMsgRx (msg : BudgetMsg)
  /-- LEASE_MSG_RX (R333) -/
  | leaseMsgRx (msg : LeaseMsg)
  /-- ROLE_VACANT_TIMEOUT (R333) -/
  | roleVacantTimeout (role : Role)
  /-- CLAIM_WINDOW_END (R333) -/
  | claimWindowEnd (role : Role)
  /-- LEASE_RENEW_TX (R333) -/
  | leaseRenewTx (role : Role)
  /-- LEASE_EXPIRY (R333) -/
  | leaseExpiry (role : Role)
  /-- COMMAND_FRAME_RX (R336) -/
  | commandFrameRx (gateway term opcode : Nat) (hdr : CmdHdr)
  /-- COMPLETION_FRAME_RX (R336) -/
  | completionFrameRx (c : RemoteCompletion)
  /-- FORWARD_RETRY_TIMEOUT (R336) -/
  | forwardRetryTimeout (hub tag : Nat)
  /-- LEAVE_MSG_RX (R341) -/
  | leaveMsgRx (hub : Nat)
  /-- HSR_SUPERVISION_RX (R316) -/
  | hsrSupervisionRx (node : Nat)
  /-- NODE_FORGET (R316) -/
  | nodeForget (node : Nat)
  /-- LINK_UP (R338) -/
  | linkUp (port : Port)
  /-- LINK_DOWN (R342) -/
  | linkDown (port : Port)
  -- LANES (13)
  /-- LANE_STAGE_ADVANCE (R346) -/
  | laneStageAdvance (lane : Nat) (align : LaneAlign)
  /-- LANE_STAGE_TIMEOUT (R346) -/
  | laneStageTimeout (lane : Nat)
  /-- LANE_FAULT_RETRY (R346) -/
  | laneFaultRetry (lane : Nat)
  /-- LANE_LOCK_LOSS (R350) -/
  | laneLockLoss (lane : Nat) (loss : LaneLoss)
  /-- EYE_SCAN_COMPLETE (R353) -/
  | eyeScanComplete (lane width height : Nat)
  /-- LANE_TEST_END (R358) -/
  | laneTestEnd (lane bits errors : Nat)
  -- HOST INTERFACE (14)
  /-- RING_DOORBELL (R371) -/
  | ringDoorbell (ring idx : Nat)
  /-- DESCRIPTOR_FETCH (R374) -/
  | descriptorFetch (ring : Nat) (descriptor data : List Byte) (readable : Bool)
  /-- QUEUE_ENTRY_DMA (R375) -/
  | queueEntryDma (ring : Nat)
  /-- RING_POP (R382) -/
  | ringPop (req : Requester) (ring : Nat)
  /-- RING_FLUSH_REQUEST (R381) -/
  | ringFlushRequest (ring : Nat)
  /-- RING_FLUSH_COMPLETE (R381) -/
  | ringFlushComplete (ring : Nat)
  /-- EVT_MASK_WRITE (R384) -/
  | evtMaskWrite (group : Nat) (value : Word)
  /-- DMA_READ_FAILURE (R381) -/
  | dmaReadFailure (ring : Nat)
  /-- READ_TIME_NOW_NS (R73) -/
  | readTimeNowNs (req : Requester)
  /-- READ_TIME_DCO_INC_LO (R73) -/
  | readTimeDcoIncLo (req : Requester)
  /-- READ_LANE_ERR_LO (R361) -/
  | readLaneErrLo (req : Requester) (lane : Nat)
  /-- SHADOW_READ (R368) -/
  | shadowRead (req : Requester) (offset : Nat)
  /-- REGISTER_WRITE (R13); enables: the byte enables in [3:0], and in [4] that the PCIe write came poisoned (R365) -/
  | registerWrite (req : Requester) (offset : Nat) (value : Word) (enables : Nat)
  -- SAFETY (19)
  /-- CLOCK_LOSS (R29) -/
  | clockLoss (clock : ClockName)
  /-- CLOCK_RESTORED (R469) -/
  | clockRestored (clock : ClockName)
  /-- HUB_SUPPLY_FAULT (R472) -/
  | hubSupplyFault (supply tenMv : Nat)
  /-- FE_SUPPLY_FAULT (R472); supply 6 to 13 (R482) -/
  | feSupplyFault (supply tenMv : Nat)
  /-- DIE_LINK_FAULT (R472) -/
  | dieLinkFault (die : Nat)
  /-- TEMP_HIGH (R472); die 4 is the hub die (R482) -/
  | tempHigh (die : Nat) (temp : Int)
  /-- SRAM_UE (R472) -/
  | sramUe (which : Nat)
  /-- TIME_XCHECK_WINDOW (R476); CCLK edges in 1,000,000 REFCLK periods (R476) -/
  | timeXcheckWindow (edges : Nat)
  -- CONTROLLER PAIRS (16)
  /-- TAKEOVER (R418) -/
  | takeover (read : TakeoverRead)
  /-- FENCE_HOLD_END (R422) -/
  | fenceHoldEnd (pair : Pair)
  /-- PAIR_SELFTEST_END (R422) -/
  | pairSelftestEnd (pair : Pair) (outcome : SelfTest)
  /-- CHECKPOINT (R414) -/
  | checkpoint (written : Bool) (badAddr : Nat)
  -- FIELD PORTS (17)
  /-- FP_REQUEST_SEND (R434) -/
  | fpRequestSend (port : Nat) (idle : Bool)
  /-- FP_RESPONSE_COMPLETE (R434) -/
  | fpResponseComplete (port : Nat) (chars : List Byte) (framingOk : Bool)
  /-- FP_RESPONSE_TIMEOUT (R434) -/
  | fpResponseTimeout (port : Nat)
  /-- FP_SLOT_END (R436) -/
  | fpSlotEnd (port : Nat)
  -- LOCAL PORTS (18)
  /-- SERVICE_READ_FRAME (R449); early: data words clocked while SVC_RDY was low (R451) -/
  | serviceReadFrame (header : Word) (early : List Nat)
  /-- SERVICE_WRITE_FRAME (R450) -/
  | serviceWriteFrame (header : Word) (data : List Word) (crc : Nat) (whole early : Bool)
  /-- OSPI_LINE_READ (R443) -/
  | ospiLineRead (addr : Nat)
  /-- OSPI_WINDOW_WRITE (R443) -/
  | ospiWindowWrite (addr : Nat)
  /-- VAL_PERIOD_START (R454) -/
  | valPeriodStart (out : Nat)
  /-- VAL_STALE_TIMEOUT (R455) -/
  | valStaleTimeout (out : Nat)
  /-- VAL_TRIP_HOLD_END (R456) -/
  | valTripHoldEnd (out : Nat)
  /-- VAL_FB_FINDING (R457) -/
  | valFbFinding (out : Nat) (finding : FbFinding)
  /-- VAL_DIAG_CLEAR (R457) -/
  | valDiagClear (out : Nat) (finding : FbFinding)
  /-- RESERVE_PWR (R463) -/
  | reservePwr (level : Bool)
  -- BOOT AND UPDATE (20, 21)
  /-- RESET_RELEASE (R487) -/
  | resetRelease (found : BootFindings)
  /-- UPD_CMD_OPEN (R497) -/
  | updCmdOpen (req : Requester)
  /-- UPD_CMD_WRITE (R497) -/
  | updCmdWrite (req : Requester) (words : Nat)
  /-- UPD_CMD_COMMIT (R497) -/
  | updCmdCommit (req : Requester) (image : ImageFacts)
  /-- UPD_CMD_ABORT (R497) -/
  | updCmdAbort (req : Requester)
  /-- UPD_CMD_HEALTH_CONFIRM (R497) -/
  | updCmdHealthConfirm (req : Requester)
  /-- UPD_CMD_UNLOCK (R497) -/
  | updCmdUnlock (req : Requester)
  /-- UPD_CMD_DONE (R497) -/
  | updCmdDone (req : Requester)
  -- COMMANDS OF THE HUB, TIME AND FRET FAMILIES (15, R396)
  /-- NOP (R396) -/
  | nop (h : CmdHdr)
  /-- HUB_INFO (R396) -/
  | hubInfo (h : CmdHdr)
  /-- ACQ_START (R400) -/
  | acqStart (h : CmdHdr) (hasTarget target : Nat)
  /-- ACQ_STOP (R401) -/
  | acqStop (h : CmdHdr)
  /-- RESET_HUB (R396) -/
  | resetHub (h : CmdHdr) (key : Nat)
  /-- COUNTER_READ (R402) -/
  | counterRead (h : CmdHdr) (group : Nat)
  /-- TIME_SET (R396) -/
  | timeSet (h : CmdHdr) (sec ns : Nat)
  /-- TIME_ADJUST (R396) -/
  | timeAdjust (h : CmdHdr) (step freq : Int)
  /-- TIME_ASYM (R65) -/
  | timeAsym (h : CmdHdr) (port : Nat) (asym : Int)
  /-- PTP_SET (R57) -/
  | ptpSet (h : CmdHdr) (p : PtpSetP)
  /-- FRET_SET (R78) -/
  | fretSet (h : CmdHdr) (period : Nat)
  -- COMMANDS OF THE FRONT ENDS (R396)
  /-- DYN_CHAN_SET (R98) -/
  | dynChanSet (h : CmdHdr) (p : DynChanP)
  /-- RAIL_SET (R106) -/
  | railSet (h : CmdHdr) (rail voltage iLim : Nat)
  /-- VEXC_SET (R102) -/
  | vexcSet (h : CmdHdr) (die nom : Nat)
  /-- DYN_CHAIN_SET (R172) -/
  | dynChainSet (h : CmdHdr) (p : DynChainP)
  /-- COURSE_SET (R125) -/
  | courseSet (h : CmdHdr) (p : CourseP)
  /-- SCAN_CHAN_SET (R126) -/
  | scanChanSet (h : CmdHdr) (p : ScanChanP)
  /-- COURSE_REALIGN (R135) -/
  | courseRealign (h : CmdHdr) (course : Nat)
  /-- URGENT_READ (R147) -/
  | urgentRead (h : CmdHdr) (chan : Chan)
  /-- COURSE_RESULT_READ (R154) -/
  | courseResultRead (h : CmdHdr) (course : Nat)
  /-- SYNC_RESET_CMD (R170) -/
  | syncResetCmd (h : CmdHdr) (p : SyncResetP)
  /-- SPARE_SET (R116) -/
  | spareSet (h : CmdHdr) (die auto rotation : Nat)
  /-- SPARE_SUBST (R117) -/
  | spareSubst (h : CmdHdr) (chan : Chan) (action : Nat)
  /-- SLICE_TEST (R196) -/
  | sliceTest (h : CmdHdr) (chan : Chan) (keep : Nat)
  /-- DIE_ISOLATE (R21) -/
  | dieIsolate (h : CmdHdr) (die action : Nat)
  /-- BANK_WRITE (R175) -/
  | bankWrite (h : CmdHdr) (chan : Chan) (bank : Nat) (gain offset : Int) (label : Nat)
  /-- BANK_SWAP (R176) -/
  | bankSwap (h : CmdHdr) (chan : Chan) (target fade : Nat)
  /-- CAL_SELF (R184) -/
  | calSelf (h : CmdHdr) (dies : List Nat)
  /-- CAL_READ (R192) -/
  | calRead (h : CmdHdr) (die : Nat) (sets : List Nat)
  /-- CAL_WRITE (R193) -/
  | calWrite (h : CmdHdr) (die : Nat) (sets : List Nat) (blocks : List (List Byte))
  -- STREAMS AND HOST RINGS (R397)
  /-- SUBSCRIBE (R324) -/
  | subscribe (h : CmdHdr) (p : SubscribeP)
  /-- UNSUBSCRIBE (R399) -/
  | unsubscribe (h : CmdHdr) (stream : Nat)
  /-- RECV_SUBSCRIBE (R326) -/
  | recvSubscribe (h : CmdHdr) (srcHub stream hostRing action : Nat)
  /-- RETRIEVE (R403) -/
  | retrieve (h : CmdHdr) (p : RetrieveP)
  /-- STREAM_STATE_READ (R286) -/
  | streamStateRead (h : CmdHdr) (stream seq : Nat)
  /-- RING_CONFIG (R370) -/
  | ringConfig (h : CmdHdr) (p : RingConfigP)
  -- TRIGGERS AND CAPTURE (R397)
  /-- COND_WRITE (R237) -/
  | condWrite (h : CmdHdr) (first : Nat) (entries : List CondP)
  /-- COMB_SET (R239) -/
  | combSet (h : CmdHdr) (p : CombP)
  /-- UNIT_SET (R242) -/
  | unitSet (h : CmdHdr) (p : UnitP)
  /-- ARM (R244) -/
  | arm (h : CmdHdr) (unit : Nat)
  /-- DISARM (R243) -/
  | disarm (h : CmdHdr) (unit : Nat)
  /-- CAPTURE_TRIGGER (R256) -/
  | captureTrigger (h : CmdHdr) (p : CapTrigP)
  /-- CAPTURE_RELEASE (R249) -/
  | captureRelease (h : CmdHdr) (unit captureNo : Nat)
  /-- SYMP_GROUP_SET (R259) -/
  | sympGroupSet (h : CmdHdr) (group mode wG : Nat)
  -- REDUCTION AND MEMORY (R397)
  /-- STATS_SET (R269) -/
  | statsSet (h : CmdHdr) (set interval stream : Nat) (entries : List Chan)
  /-- RAINFLOW_SET (R272) -/
  | rainflowSet (h : CmdHdr) (set interval stream : Nat) (chans : List RainChanP)
  /-- SPECTRAL_SET (R276) -/
  | spectralSet (h : CmdHdr) (p : SpectralP)
  /-- RED_SELFTEST (R289) -/
  | redSelftest (h : CmdHdr)
  /-- MEM_PARTITION (R294) -/
  | memPartition (h : CmdHdr) (hist capo : Nat)
  /-- MEM_STATUS (R397) -/
  | memStatus (h : CmdHdr)
  -- RING AND LANES (R397)
  /-- RING_PORT_SET (R311) -/
  | ringPortSet (h : CmdHdr) (p : RingPortP)
  /-- ROSTER_SET (R333) -/
  | rosterSet (h : CmdHdr) (hubs : List Nat)
  /-- ROLE_SET (R333) -/
  | roleSet (h : CmdHdr) (gwElig gwPri arbElig arbPri : Nat)
  /-- JOIN (R338) -/
  | join (h : CmdHdr)
  /-- LEAVE (R341) -/
  | leave (h : CmdHdr)
  /-- TOPOLOGY_READ (R397) -/
  | topologyRead (h : CmdHdr)
  /-- LANE_TEST (R358) -/
  | laneTest (h : CmdHdr) (p : LaneTestP)
  /-- LANE_INJECT (R357) -/
  | laneInject (h : CmdHdr) (lane : Nat)
  /-- LANE_ADAPT (R352) -/
  | laneAdapt (h : CmdHdr) (lane freeze : Nat)
  /-- LANE_TX_SET (R352) -/
  | laneTxSet (h : CmdHdr) (lane : Nat) (pre main post : Int) (txInv : Nat)
  -- THE REMAINING FAMILIES (R398)
  /-- FP_PORT_SET (R428) -/
  | fpPortSet (h : CmdHdr) (p : FpPortP)
  /-- FP_DIR_WRITE (R430) -/
  | fpDirWrite (h : CmdHdr) (first : Nat) (entries : List DirEntry)
  /-- VAL_OUT_SET (R452) -/
  | valOutSet (h : CmdHdr) (p : ValOutP)
  /-- GPIO_SET (R460) -/
  | gpioSet (h : CmdHdr) (dir out od : Nat)
  /-- SYNC_IN_SET (R169) -/
  | syncInSet (h : CmdHdr) (enable edge : Nat)
  /-- SWAP_DRILL (R424) -/
  | swapDrill (h : CmdHdr)
  /-- SAFE_RECOVER (R471) -/
  | safeRecover (h : CmdHdr) (key : Nat)
  /-- OWNER_LOCK (R490) -/
  | ownerLock (h : CmdHdr) (lock capoGuard key : Nat)
  /-- UPD_OPEN (R493) -/
  | updOpen (h : CmdHdr) (length : Nat)
  /-- UPD_WRITE (R493) -/
  | updWrite (h : CmdHdr) (offset : Nat) (data : List Byte)
  /-- UPD_COMMIT (R494) -/
  | updCommit (h : CmdHdr) (activate : Nat) (image : ImageFacts)
  /-- UPD_ABORT (R493) -/
  | updAbort (h : CmdHdr)
  /-- HEALTH_CONFIRM (R495) -/
  | healthConfirm (h : CmdHdr)
  -- READ TWINS (R391)
  /-- TIME_ASYM_READ_TWIN (R391) -/
  | timeAsymTwin (h : CmdHdr) (port : Nat)
  /-- PTP_SET_READ_TWIN (R391) -/
  | ptpSetTwin (h : CmdHdr)
  /-- FRET_SET_READ_TWIN (R391) -/
  | fretSetTwin (h : CmdHdr)
  /-- DYN_CHAN_SET_READ_TWIN (R391) -/
  | dynChanSetTwin (h : CmdHdr) (chans : List Nat)
  /-- RAIL_SET_READ_TWIN (R391) -/
  | railSetTwin (h : CmdHdr) (rail : Nat)
  /-- VEXC_SET_READ_TWIN (R391) -/
  | vexcSetTwin (h : CmdHdr) (die : Nat)
  /-- DYN_CHAIN_SET_READ_TWIN (R391) -/
  | dynChainSetTwin (h : CmdHdr) (chans : List Nat)
  /-- COURSE_SET_READ_TWIN (R391) -/
  | courseSetTwin (h : CmdHdr) (course : Nat)
  /-- SCAN_CHAN_SET_READ_TWIN (R391) -/
  | scanChanSetTwin (h : CmdHdr) (course : Nat) (positions : List Nat)
  /-- SPARE_SET_READ_TWIN (R391) -/
  | spareSetTwin (h : CmdHdr) (die : Nat)
  /-- BANK_WRITE_READ_TWIN (R391) -/
  | bankWriteTwin (h : CmdHdr) (chan : Chan) (bank : Nat)
  /-- SUBSCRIBE_READ_TWIN (R391) -/
  | subscribeTwin (h : CmdHdr) (stream : Nat)
  /-- RING_CONFIG_READ_TWIN (R391) -/
  | ringConfigTwin (h : CmdHdr) (ring : Nat)
  /-- COND_WRITE_READ_TWIN (R391) -/
  | condWriteTwin (h : CmdHdr) (first count : Nat)
  /-- COMB_SET_READ_TWIN (R391) -/
  | combSetTwin (h : CmdHdr) (comb : Nat)
  /-- UNIT_SET_READ_TWIN (R391) -/
  | unitSetTwin (h : CmdHdr) (unit : Nat)
  /-- SYMP_GROUP_SET_READ_TWIN (R391) -/
  | sympGroupSetTwin (h : CmdHdr) (group : Nat)
  /-- STATS_SET_READ_TWIN (R391) -/
  | statsSetTwin (h : CmdHdr) (set : Nat)
  /-- RAINFLOW_SET_READ_TWIN (R391) -/
  | rainflowSetTwin (h : CmdHdr) (set : Nat)
  /-- SPECTRAL_SET_READ_TWIN (R391) -/
  | spectralSetTwin (h : CmdHdr) (set : Nat)
  /-- MEM_PARTITION_READ_TWIN (R391) -/
  | memPartitionTwin (h : CmdHdr)
  /-- RING_PORT_SET_READ_TWIN (R391) -/
  | ringPortSetTwin (h : CmdHdr)
  /-- ROSTER_SET_READ_TWIN (R391) -/
  | rosterSetTwin (h : CmdHdr)
  /-- ROLE_SET_READ_TWIN (R391) -/
  | roleSetTwin (h : CmdHdr)
  /-- LANE_TX_SET_READ_TWIN (R391) -/
  | laneTxSetTwin (h : CmdHdr) (lane : Nat)
  /-- FP_PORT_SET_READ_TWIN (R391) -/
  | fpPortSetTwin (h : CmdHdr) (port : Nat)
  /-- FP_DIR_WRITE_READ_TWIN (R391) -/
  | fpDirWriteTwin (h : CmdHdr) (first count : Nat)
  /-- VAL_OUT_SET_READ_TWIN (R391) -/
  | valOutSetTwin (h : CmdHdr) (out : Nat)
  /-- GPIO_SET_READ_TWIN (R391) -/
  | gpioSetTwin (h : CmdHdr)
  /-- SYNC_IN_SET_READ_TWIN (R391) -/
  | syncInSetTwin (h : CmdHdr)
  /-- OWNER_LOCK_READ_TWIN (R391) -/
  | ownerLockTwin (h : CmdHdr)
  -- EVENTS AT THE END OF THE TABLE
  /-- PRBS_CHECKER_LOCK (R356) -/
  | prbsCheckerLock (received : PrbsBits)
  /-- PRBS_LOCK_LOST (R356); compared bits and errors up to the loss (R356) -/
  | prbsLockLost (lane bits errors : Nat)
  /-- PCIE_LINK_TRAINED (R351) -/
  | pcieLinkTrained (rate : Nat) (lanes : List Nat) (reversed : Bool) (inverted : List Nat)
  /-- HUB_SUPPLY_RESTORED (R467) -/
  | hubSupplyRestored (supply : Nat)
  /-- TEMP_RECOVERED (R467) -/
  | tempRecovered (die : Nat) (temp : Int)
  /-- FLASH_PROGRAM_DONE (R493) -/
  | flashProgramDone (outcome : FlashEnd)
  -- COMMANDS WITHOUT OPERANDS, OF ALL FAMILIES
  /-- RECORD_CLOSE (R81) -/
  | recordClose
  /-- EPOCH_DUE (R71) -/
  | epochDue
  /-- SAFE_STATE_CLOSE (R468) -/
  | safeStateClose
  /-- TRIGGER_WORD_ARRIVAL (R236) -/
  | triggerWordArrival
  /-- STAGING_EVENT_POST (R421) -/
  | stagingEventPost
  /-- REFRESH_DUE (R304) -/
  | refreshDue
  /-- ANNOUNCE_RECEIPT_TIMEOUT (R57) -/
  | announceReceiptTimeout
  /-- PTP_SYNC_TX (R57) -/
  | ptpSyncTx
  /-- PTP_ANNOUNCE_TX (R57) -/
  | ptpAnnounceTx
  /-- PREFERRED_PORT_TIMEOUT (R61) -/
  | preferredPortTimeout
  /-- OVERLAP_TIMEOUT (R63) -/
  | overlapTimeout
  /-- CLOSURE_UPDATE (R66) -/
  | closureUpdate
  /-- SYNC_LOSS_TIMEOUT (R69) -/
  | syncLossTimeout
  /-- BEACON_TX (R335) -/
  | beaconTx
  /-- RETRIEVAL_RECORD_TX (R332) -/
  | retrievalRecordTx
  /-- JOIN_LISTEN_END (R339) -/
  | joinListenEnd
  /-- HSR_SUPERVISION_TX (R316) -/
  | hsrSupervisionTx
  /-- DUPLICATE_ENTRY_EXPIRY (R315) -/
  | duplicateEntryExpiry
  /-- PERST_RELEASE (R351) -/
  | perstRelease
  /-- PCIE_RESET (R366) -/
  | pcieReset
  /-- COMPLETION_WRITE (R374) -/
  | completionWrite
  /-- HIF_START (R370) -/
  | hifStart
  /-- SAFE_FORCE (R467) -/
  | safeForce
  /-- CONFIG_PARITY_ERROR (R474) -/
  | configParityError
  /-- RESIDUE_MISMATCH (R474) -/
  | residueMismatch
  /-- LOCKSTEP_DIVERGENCE (R411) -/
  | lockstepDivergence
  /-- WATCHDOG_EXPIRY (R411) -/
  | watchdogExpiry
  /-- PAIR_SRAM_UE (R411) -/
  | pairSramUe
  /-- BUS_ERROR_TIMEOUT (R411) -/
  | busErrorTimeout
  /-- CLESIN_FATAL_CHECK (R411) -/
  | clesinFatalCheck
  /-- STARTING_TIMEOUT (R413) -/
  | startingTimeout
  /-- DRILL_QUIESCED (R424) -/
  | drillQuiesced
  /-- OSPI_RDY_TIMEOUT (R444) -/
  | ospiRdyTimeout
  /-- PPS_RISE (R461) -/
  | ppsRise
  /-- PPS_FALL (R461) -/
  | ppsFall
  /-- POWER_ON_RESET (R504) -/
  | powerOnReset
  /-- RESET_ASSERT (R504) -/
  | resetAssert
  /-- BOOT_COMPLETE (R487) -/
  | bootComplete
  /-- TRIAL_EXPIRY (R495) -/
  | trialExpiry
  /-- UPD_SESSION_EXPIRY (R491) -/
  | updSessionExpiry
  /-- DRILL_QUIESCE_TIMEOUT (R424) -/
  | drillQuiesceTimeout
  deriving DecidableEq, Repr

end Sys2Proof
end

