-- ==== Sys2Proof/Config.lean ====
section
/-! DEFINITION. What an implementation or its fuses fix, and the free values: constants without a body, so that no
proof can rest on one of their values. A free value is applied to the state's counter `fresh` (DESIGN CHOICE, log 2). -/

namespace Sys2Proof

/-- GRADE of `ID_PART`, fused: 0 -I, 1 -X (14, ID_PART). Only its low bit is read. -/
opaque Config.grade : Nat

/-- The fused EUI-64 (14, ID_EUI), read modulo 2^64. -/
opaque Config.eui : Nat

/-- DIE_UID of each front-end die, fused (R191), read modulo 2^64. -/
opaque Config.feUid : Nat → Nat

/-- The hub's own clock quality for the best master clock algorithm (R62), in the order of IEEE 1588-2019. -/
opaque Config.clockQuality : Nat

/-- SVN of the image the board maker programmed (R521), read modulo 256. -/
opaque Config.factorySvn : Nat

/-- A byte of the boot flash as it left the board maker (R521), read modulo 256 (DEDUCED, log 5). -/
opaque Config.flashByte : Nat → Nat

/-- Units in the last place by which a binary32 bin of a spectrum differs from the exact value: the order in which the engine sums in
binary64 is open (R278). -/
opaque Config.spectrumUlp : Nat → Nat → Int

/-- Bytes of accumulator memory that the reduction engine gives one statistics entry (0), one rainflow channel (1) or one
spectral bin of a channel or pair (2): the manual states that sets must fit (R268), not what they take. -/
opaque Config.accumUnit : Nat → Nat

/-- The alarm code of an alarm for which the manual names a source, or none (0), but no code. -/
opaque Config.alarmCode : Nat → Nat

/-- MEM_STATUS's training result for a DRAM not yet trained (0), trained (1) or failed (2): the manual gives no coding. -/
opaque Config.trainingCode : Nat → Nat

/-- A hub holds a receive subscription for a stream of this hub, at the time of the counter: no message of the manual tells the
source (R326, R328). Arguments: the counter, the hub, the stream. -/
opaque Config.subscribed : Nat → Nat → Nat → Bool

/-- The oldest number that a RETRIEVE names at a CCLK when its stream holds no record (R394). -/
opaque Config.noneHeld : Nat → Nat

/-- TAG of a Jorva message that is neither a record, a command nor a completion (R318), by its HSR sequence number. -/
opaque Config.messageTag : Nat → Nat

/-- Fixed latencies of a ring port's receive and transmit path in 2^-4 ns, by mode: 2 at 10G, 1 more with RS-FEC (R58). -/
opaque Config.phyRx : Nat → Nat
opaque Config.phyTx : Nat → Nat

/-- The delay that initial training gives a byte lane, rank and direction of the DRAM, in taps (R303). -/
opaque Config.trainedTap : Nat → Nat → Int

/-- The value a word takes where the manual states no value for it. -/
opaque Config.freeCode : Nat → Int

/-- A count or code that the manual leaves to the implementation. -/
opaque Config.freeNat : Nat → Nat

end Sys2Proof
end

