-- ==== Sys2Proof/Machine/Table.lean ====
section
/-! DEFINITION. Tables of numbered resources, kept sparse and canonical: an entry that holds the default value is
not listed, and the listed keys rise. -/

namespace Sys2Proof.Machine

/-- A table of numbered things: the entries that differ from the table's default, by rising number. -/
abbrev Table (α : Type) := List (Nat × α)

/-- Entry `k` of a table, or the default `d` where none is listed. -/
def tget {α : Type} (d : α) (t : Table α) (k : Nat) : α :=
  match t with
  | [] => d
  | (j, v) :: rest => if j = k then v else tget d rest k

/-- Insert in rising order. -/
def tinsert {α : Type} (k : Nat) (v : α) : Table α → Table α
  | [] => [(k, v)]
  | (j, w) :: rest => if k < j then (k, v) :: (j, w) :: rest else (j, w) :: tinsert k v rest

/-- Remove entry `k`. -/
def tdrop {α : Type} (t : Table α) (k : Nat) : Table α := t.filter (fun e => decide (e.1 ≠ k))

/-- Write entry `k`; the default value is not listed. -/
def tput {α : Type} [DecidableEq α] (d : α) (t : Table α) (k : Nat) (v : α) : Table α :=
  if v = d then tdrop t k else tinsert k v (tdrop t k)

/-- Write the same function's value to each of several entries. -/
def tputAll {α : Type} [DecidableEq α] (d : α) (t : Table α) (ks : List Nat) (f : Nat → α) : Table α :=
  ks.foldl (fun acc k => tput d acc k (f k)) t

/-- Change entry `k` by a function. -/
def tmod {α : Type} [DecidableEq α] (d : α) (t : Table α) (k : Nat) (f : α → α) : Table α :=
  tput d t k (f (tget d t k))

end Sys2Proof.Machine
end

