-- ==== Sys2Proof/Machine/Types.lean ====
section
/-! DEFINITION. The parts of the hub's state, chapter by chapter. Hub time is kept in half nanoseconds (a CCLK of
2.5 ns is five of them), the CCLK count since reset in `cclk`. -/

namespace Sys2Proof.Machine

/-! ### Time (02) -/

/-- The time counter, the DCO and the time registers (R42, R47, R52, R74). Offsets are in units of 2^-4 ns. -/
structure TimeUnit where
  /-- hub time T in half nanoseconds (R42, R43) -/
  half : Nat
  /-- CCLK since reset -/
  cclk : Nat
  /-- TIME_DCO_INC in effect, and one written and waiting for the boundary (R47) -/
  inc : Nat
  incNext : Option Nat
  /-- TIME_STEP in CCLK, and a TIME_SET reload waiting (R52) -/
  step : Int
  reload : Option Nat
  /-- CCLK count of an edge of MCLK, and the lengths of the MCLK periods after it that a small step changes (R50, R53) -/
  mclkEdge : Nat
  walk : List Nat
  stepBig : Bool
  dcoClamp : Bool
  overlap : Bool
  master : Bool
  syncLost : Bool
  holdover : Bool
  locked : Bool
  portB : Bool
  offset16 : Int
  masterId : Nat
  asymA : Int
  asymB : Int
  closure : Int
  closureCal : Int
  /-- the servo's frequency offset, in 10^-12 (R396) -/
  freq : Int
  deriving DecidableEq, Repr

/-- What the IEEE 1588 engine holds of one port (R57, R61, R65). -/
structure PtpPort where
  lastSync : Option Nat
  validSyncs : Nat
  offset16 : Int
  missed : Nat
  good : Nat
  delays : List Int
  reqOut : Option Nat
  reqSeq : Nat
  /-- egress stamp of the request out, in 2^-4 ns, once it has left; CCLK from which the next is due -/
  reqTx : Option Int
  reqDue : Nat
  deriving DecidableEq, Repr

/-- PTP settings of R57. -/
structure PtpSet where
  domain : Nat
  logSync : Int
  logAnnounce : Int
  logPdelay : Int
  priority1 : Nat
  priority2 : Nat
  deriving DecidableEq, Repr

/-- The IEEE 1588 engine and the servo (R56 to R70). -/
structure Ptp where
  set : PtpSet
  portA : PtpPort
  portB : PtpPort
  goodSyncs : Nat
  sentSyncs : Nat
  /-- the servo's frequency estimate, as an increment (R56) -/
  estimate : Nat
  /-- CCLK from which the next Sync, Announce and closure reading are due (R57, R66) -/
  syncDue : Nat
  annDue : Nat
  closureDue : Nat
  /-- increments written, with the CCLK count at which each was, of the last 64 s (R69) -/
  incHist : List (Nat × Nat)
  /-- the last Announce of each master heard, with its CCLK count -/
  heard : List (PtpAnnounce × Nat)
  /-- a second master sending Sync: its identity, the CCLK of its first and of its last Sync (R63) -/
  second : Option (Nat × Nat × Nat)
  /-- CCLK of the last Sync of the master followed -/
  followedAt : Nat
  overlapAlarm : Bool
  syncSeq : Nat
  annSeq : Nat
  discards : Nat
  announces : Nat
  portChanges : Nat
  largeSteps : Nat
  deriving DecidableEq, Repr

/-! ### Settings -/

/-- Dynamic channel settings (R98) with the chain and notch of R158 to R160, each as its list position. -/
structure DynSet where
  enable : Bool
  se : Bool
  gain : Nat
  ratio : Bool
  tap : Bool
  iMin : Nat
  openWire : Bool
  tone : Bool
  chain : Nat
  osr : Nat
  m : Nat
  r : Nat
  notch : Nat
  width : Nat
  deriving DecidableEq, Repr

/-- Rail settings (R99): voltage 0 off, 1 to 3; current limit position 0 to 5. -/
structure RailSet where
  voltage : Nat
  iLim : Nat
  deriving DecidableEq, Repr

/-- Course settings (R125) as list positions; `scan` holds the positions of the scan list. -/
structure CourseSet where
  scan : List Nat
  slot : Nat
  vwSlot : Nat
  iLim : Nat
  rounding : Nat
  realign : Nat
  driver : Bool
  deriving DecidableEq, Repr

/-- Scanned channel settings (R126) as list positions and step counts. -/
structure ScanSet where
  enable : Bool
  kind : Nat
  gain : Nat
  ratio : Bool
  exc : Nat
  iMin : Nat
  d : Nat
  s : Nat
  openWire : Bool
  sweepLo : Nat
  sweepHi : Nat
  listen : Nat
  deriving DecidableEq, Repr

/-- Sparing of a die: automatic substitution (R114) and background rotation (R197). -/
structure SpareSet where
  auto : Bool
  rotation : Bool
  deriving DecidableEq, Repr

/-- A coefficient bank (R173). -/
structure Bank where
  gain : Int
  offset : Int
  label : Nat
  deriving DecidableEq, Repr

/-- The two banks of a channel (R173). -/
structure BankPair where
  a : Bank
  b : Bank
  deriving DecidableEq, Repr

/-- A condition entry (R235). -/
structure CondSet where
  src : Chan
  kind : Nat
  enable : Bool
  comb : Nat
  a : Int
  b : Int
  h : Nat
  deriving DecidableEq, Repr

/-- Combiner settings (R239). -/
structure CombSet where
  mode : Nat
  k : Nat
  w : Nat
  anchor : Nat
  holdoff : Nat
  group : Option Nat
  event : Bool
  deriving DecidableEq, Repr

/-- Capture unit settings (R242); SOURCE as R397 encodes it. -/
structure UnitSet where
  source : Nat
  select : Nat
  pre : Nat
  post : Nat
  quota : Nat
  repeating : Bool
  auto : Nat
  policy : Nat
  chainMask : Nat
  stream : Nat
  autoRelease : Bool
  deriving DecidableEq, Repr

/-- Sympathetic group settings (R259): ARBITRATED, and W_g in microseconds. -/
structure GroupSet where
  arbitrated : Bool
  wG : Nat
  deriving DecidableEq, Repr

/-- A statistics set (R269): interval in microseconds (0 where none is set), stream, entries in order. -/
structure StatsSet where
  interval : Nat
  stream : Nat
  entries : List Chan
  deriving DecidableEq, Repr

/-- A rainflow set (R272): interval in seconds (0 where none is set). -/
structure RainSet where
  interval : Nat
  stream : Nat
  chans : List RainChanP
  deriving DecidableEq, Repr

/-- A spectral set (R276); A is 0 where none is set. -/
structure SpecSet where
  log2n : Nat
  window : Nat
  overlap : Nat
  a : Nat
  stream : Nat
  chans : List Nat
  pairs : List (Nat × Nat)
  deriving DecidableEq, Repr

/-- DRAM shares (R293): h in steps of 5 % from 50, c in percent. -/
structure MemSet where
  h : Nat
  c : Nat
  deriving DecidableEq, Repr

/-- Ring port settings (R311, R313, R322). -/
structure RingPortSet where
  hubId : Nat
  rate10G : Bool
  fecA : Bool
  fecB : Bool
  etherType : Nat
  reserve : Nat
  deriving DecidableEq, Repr

/-- Role eligibility and priorities (R333). -/
structure RoleSet where
  gwElig : Bool
  gwPri : Nat
  arbElig : Bool
  arbPri : Nat
  deriving DecidableEq, Repr

/-- A ring lane's transmitter (R352). -/
structure LaneTx where
  pre : Int
  main : Int
  post : Int
  inv : Bool
  deriving DecidableEq, Repr

/-- Field-port settings (R428) as list positions. -/
structure FpSet where
  enable : Bool
  baud : Nat
  parity : Nat
  slot : Nat
  timeout : Nat
  retries : Nat
  downAfter : Nat
  deriving DecidableEq, Repr

/-- Value-output settings (R452). -/
structure ValSet where
  mode : Nat
  safety : Bool
  src : Chan
  comb : Option Nat
  hold : Nat
  lo : Int
  hi : Int
  pulse : Nat
  fail : Nat
  stale : Nat
  deriving DecidableEq, Repr

/-- GPIO settings (R460), 16-bit masks. -/
structure GpioSet where
  dir : Nat
  out : Nat
  od : Nat
  deriving DecidableEq, Repr

/-- All settings that commands write. The hub holds two copies: as accepted, and in effect (R23). -/
structure Settings where
  /-- fret period in ns (R75) -/
  period : Nat
  dyn : Table DynSet
  rails : Table RailSet
  vexc : Table Nat
  courses : Table CourseSet
  scan : Table ScanSet
  spare : Table SpareSet
  banks : Table BankPair
  syncEnable : Bool
  syncFalling : Bool
  conds : Table CondSet
  combs : Table CombSet
  units : Table UnitSet
  groups : Table GroupSet
  stats : Table StatsSet
  rain : Table RainSet
  spec : Table SpecSet
  mem : MemSet
  ring : RingPortSet
  roster : List Nat
  roles : RoleSet
  laneTx : Table LaneTx
  fp : Table FpSet
  dir : Table DirEntry
  val : Table ValSet
  gpio : GpioSet
  deriving DecidableEq, Repr

/-! ### Records (08) -/

/-- A block of a record (R207): KIND, SOURCE, BFLAGS, SELECT, the payload before padding and its check. -/
structure Block where
  kind : Nat
  source : Nat
  bflags : Nat
  select : Nat
  payload : List Byte
  check : Word
  /-- payload as coded (R227); the check stays that of the original payload -/
  coded : Option (List Byte)
  /-- its sample words are right-aligned (R201) -/
  right : Bool
  deriving DecidableEq, Repr

/-- A record (R203). `fret` is the full fret index whose low word the header carries. -/
structure Record where
  type : Nat
  hub : Nat
  stream : Nat
  seq : Nat
  stamp : Nat
  fret : Nat
  flags : Nat
  aux : Nat
  blocks : List Block
  deriving DecidableEq, Repr

/-- A loss held for delivery (R224, R226). -/
structure LostRange where
  firstSeq : Nat
  count : Nat
  firstFret : Nat
  lastFret : Nat
  reason : Nat
  reasons : Nat
  stamp : Nat
  deriving DecidableEq, Repr

/-- Coder state (R285). -/
structure Coder where
  lastWord : Nat
  deltas : List Nat
  words : Nat
  level : Nat
  deriving DecidableEq, Repr

/-- A slice of the history: its page, its byte address and its length (R295). -/
structure Slice where
  page : Nat
  addr : Nat
  len : Nat
  deriving DecidableEq, Repr

/-- A closed record as the history holds it: its slices and the coder state stored with it (R286, R296). -/
structure Stored where
  rcd : Record
  slices : List Slice
  /-- CCLK at its close -/
  closedAt : Nat
  /-- lost with the staging buffer at a fence (R421) -/
  failover : Bool
  coder : Option Coder
  deriving DecidableEq, Repr

/-- An event or alarm (R228, R378). -/
structure Event where
  code : Nat
  source : Nat
  stamp : Nat
  count : Nat
  args : List Byte
  deriving DecidableEq, Repr

/-- A stream context (R218, R222, R226, R324, R328). -/
structure StreamCtx where
  isOpen : Bool
  type : Nat
  events : Bool
  right : Bool
  level : Nat
  hostRing : Option Nat
  ring : Bool
  select : List Nat
  nextSeq : Nat
  started : Bool
  /-- the next number due at the host ring, and whether the stream is in replay (R222, R225) -/
  point : Nat
  replay : Bool
  ranges : List LostRange
  /-- closed records the history still holds, oldest first -/
  stored : List Stored
  /-- LOST_RANGE records of frets that never closed, in the history (R468) -/
  notices : List Stored
  coder : Coder
  noGain : Nat
  /-- ring hold and the ring delivery point (R328) -/
  hold : Bool
  /-- hubs whose absence brought the hold (R328); none where the records wait for the ring itself -/
  holders : List Nat
  /-- the next number to hand to the egress, and the first not yet delivered (R325) -/
  ringNext : Nat
  ringPoint : Nat
  ringRanges : List LostRange
  /-- numbers overwritten before a delivery point has come to them, with fret and stamp (R225, R299) -/
  gone : List (Nat × Nat × Nat)
  /-- LOST_RANGEs of frets that never closed, until the delivery points come to their place (R225, R468) -/
  safeDue : List LostRange
  ringSafe : List LostRange
  /-- EVENT records held because they exceed the stream's allowance, and the CCLK count up to which it is spent (R329) -/
  heldEvents : List Event
  allowAt : Nat
  deriving DecidableEq, Repr

/-- A sinc3 output of a slice waiting in a fret buffer (R81, R156): the slice and the channel it stands for, the corrected
value in signed form, its tags, its completion instant, its number since the reset (0: a start word, R168), and the
settings it was made under. -/
structure DynOut where
  slice : Nat
  chan : Nat
  x : Int
  /-- the value is 0 by rule, whatever the chain makes (R104, R202) -/
  zero : Bool
  tags : Nat
  done : Nat
  nth : Nat
  set : DynSet
  deriving DecidableEq, Repr

/-- A word that left the post-filter engine (R179): the 24-bit field, its tags, its instants. -/
structure OutWord where
  chan : Chan
  field : Nat
  signed : Int
  tags : Nat
  done : Nat
  inst : Nat
  deriving DecidableEq, Repr

/-- A scanned result waiting in a fret buffer (R132). -/
structure ScanOut where
  course : Nat
  pos : Nat
  x : Int
  /-- the value is 0 by rule, past the bank stage (R140, R142, R152, R202) -/
  zero : Bool
  vw : Bool
  offsetBin : Bool
  tags : Nat
  stamp : Nat
  slotEnd : Nat
  urgent : Bool
  redone : Bool
  slipped : Bool
  status : Nat
  aux : Nat
  deriving DecidableEq, Repr

/-- A polled result (R437). -/
structure PollOut where
  port : Nat
  p : Nat
  write : Bool
  retried : Bool
  field : Nat
  signed : Int
  tags : Nat
  inst : Nat
  /-- the slot end, in half ns -/
  ready : Nat
  status : Nat
  attempts : Nat
  exc : Nat
  deriving DecidableEq, Repr

/-- The buffer of one fret (R81). -/
structure FretBuf where
  idx : Nat
  start : Nat
  /-- outputs gathered, and the same after the post-filter engine -/
  dyn : List DynOut
  words : List OutWord
  /-- settings in force in the fret -/
  dynSet : Table DynSet
  scanSet : Table ScanSet
  scans : List ScanOut
  scanWords : List OutWord
  polls : List PollOut
  /-- dies isolated for the fret -/
  offline : List Nat
  stepShort : Bool
  /-- channels of a chain change at the fret's start: the first word is the old chain's last output (R215) -/
  chainFirst : List Nat
  /-- channels that a spare serves in the fret, with its die (R119) -/
  served : List (Nat × Nat)
  /-- acquisition runs in the fret; a record close is due for it -/
  gathered : Bool
  due : Bool
  /-- streams that the fret opens (R219), and the EPOCHs that fall in it: time in ns and cause (R55, R221) -/
  opened : List Nat
  epochs : List (Nat × Nat)
  /-- events that hardware raises in the fret, each with a stream that carries it (R218) -/
  events : List (Nat × Event)
  /-- large steps before the fret: a fret index is unique between two of them (R299) -/
  era : Nat
  deriving DecidableEq, Repr

/-- A completion waiting to be written (R392). -/
structure Completion where
  ring : Nat
  tag : Nat
  opcode : Nat
  hub : Nat
  forwarded : Bool
  status : Nat
  cmdRing : Nat
  reexecuted : Bool
  repeated : Bool
  descIdx : Nat
  effectFret : Nat
  data : List Byte
  result : List Byte
  deriving DecidableEq, Repr

/-! ### The fret machine (03) -/

/-- The fret machine and its buffers (R76, R78, R81, R90). -/
structure FretMachine where
  idx : Nat
  boundary : Nat
  acquiring : Bool
  /-- ACQ_START commands waiting, each with the first boundary at which it may take effect, in half ns (R400) -/
  startAt : List (Nat × CmdHdr)
  stopAt : Bool
  /-- a large step was applied: the next boundary resets every decimator (R54) -/
  regrid : Bool
  /-- CCLK before which frets closed by a large step may not close (R90) -/
  holdClose : Nat
  gather : Option FretBuf
  closing : List FretBuf
  /-- hardware events raised while no fret gathers, for the next one -/
  early : List (Nat × Event)
  /-- completions that wait for the boundary at which their change takes effect (R392) -/
  atBoundary : List (CmdHdr × Nat)
  /-- streams whose UNSUBSCRIBE waits for the boundary -/
  closeStreams : List Nat
  /-- a close is due at a CCLK count, 128 after the last boundary -/
  closeDue : Bool
  closeAt : Nat
  deriving DecidableEq, Repr

/-! ### Front ends (04, 05, 06, 07) -/

/-- A pending or running bank swap (R175 to R177): target bank is B, fade length, frets processed. -/
structure Swap where
  toB : Bool
  fade : Nat
  done : Nat
  started : Bool
  deriving DecidableEq, Repr

/-- A mains notch's last two inputs and outputs, in 2^-64 code (R161, R163). -/
structure Notch where
  x1 : Int
  x2 : Int
  y1 : Int
  y2 : Int
  deriving DecidableEq, Repr

/-- What runs in one dynamic channel's slice and filters, or in a spare slice (numbers 128 to 131). -/
structure DynRun where
  /-- reset boundary at which the run began, in half ns; none where no run delivers -/
  runStart : Option Nat
  /-- the chain of the run -/
  set : DynSet
  /-- sinc3 outputs delivered since the reset -/
  outs : Nat
  /-- a reset at its reset boundary: the boundary, the last instant at which the old run delivers, its causes (R167, R171) -/
  resetAt : Option Nat
  oldUntil : Nat
  causes : Nat
  /-- SYNC_IN edges of the reset (R171), and a run without a start word: large step, spare, swap back (R168, R172) -/
  edges : Nat
  noStart : Bool
  /-- a reset that falls due later, at b + P of a rail or channel change (R106, R107), and its causes -/
  dueAt : Option Nat
  /-- values before the moving average in 2^-24 code, newest first, with their tags (R165) -/
  window : List (Int × Nat)
  notches : List Notch
  /-- open-wire state: monitors reporting, consecutive tagged outputs, first tagged stamp, event raised (R108 to R111) -/
  openMon : List Monitor
  owRun : Nat
  owFirst : Nat
  owRaised : Bool
  /-- sinc3 outputs since the channel's last one with OPEN_WIRE, while its moving average still holds it, and that fault's monitor (R110, R165) -/
  owAge : Option Nat
  owMon : Nat
  /-- monitors whose 1 ms without fault has ended, and the instant up to which outputs still carry OPEN_WIRE (R111) -/
  owClear : List Monitor
  owUntil : Option Nat
  /-- instants of overload edges (R113) -/
  overload : List Nat
  /-- outputs completing up to here carry VALID = 0 after a change, with EXC_EVENT for a rail change (R106, R107) -/
  badUntil : Option Nat
  excUntil : Option Nat
  stuck : Bool
  stuckDue : Bool
  /-- the tone ratio of the last window (R114) -/
  tone : Nat
  deriving DecidableEq, Repr

/-- Bank state of a dynamic (0 to 127) or scanned (128 to 383) channel. -/
structure BankRun where
  activeB : Bool
  swap : Option Swap
  queued : Option (Bool × Nat)
  deriving DecidableEq, Repr

/-- A rail in operation (R103, R104, R106). -/
structure RailRun where
  outOfReg : Bool
  limitSince : Option Nat
  /-- switched off by R104, or by a command -/
  tripped : Bool
  offCmd : Bool
  /-- the boundary b + P at which the channels of a changed rail are reset -/
  changeEnd : Option Nat
  deriving DecidableEq, Repr

/-- Why a die is isolated (R211). -/
inductive Isolation where
  | command | calibration | microcode | supply | link | unpowered
  deriving DecidableEq, Repr

/-- A front-end die. -/
structure DieRun where
  isolated : Option Isolation
  /-- calibration handed and waiting for its boundary, then its end in half ns (R185) -/
  calWait : Bool
  calEnd : Option Nat
  calRestarts : Nat
  /-- microcode reload waiting, and its end (R494) -/
  loadWait : Bool
  loadEnd : Option Nat
  /-- isolation ordered by command or by a link fault, for the next boundary; a return likewise -/
  isoWait : Option Isolation
  returnWait : Bool
  temp : Int
  vexc : Nat
  vexcLow : Bool
  vexcHigh : Bool
  linkErrors : Nat
  tempHigh : Bool
  feIf : Nat
  deriving DecidableEq, Repr

/-- What a spare slice is doing (R116 to R121, R196, R197). -/
inductive SpareUse where
  | replace | command | test | rotation
  deriving DecidableEq, Repr

/-- The phase of a substitution. -/
inductive SparePhase where
  | idle | waiting | learning | swapDue | serving | testing | backWait | backLearning | backDue
  deriving DecidableEq, Repr

/-- A spare slice in use. -/
structure SpareRun where
  phase : SparePhase
  use : SpareUse
  chan : Nat
  /-- learning pairs: spare value and channel value (R117) -/
  pairs : List (Int × Int)
  firstLearn : Option Nat
  g : Int
  o : Int
  /-- the last fit of R117: g in 2^-24, o in 2^-8 code, its RMS residual in 2^-8 code -/
  fitG : Int
  fitO : Int
  resid : Nat
  matchFail : Bool
  /-- the swap or test end, in half ns -/
  dueAt : Nat
  keep : Bool
  update : Bool
  hdr : Option CmdHdr
  tested : Option FactorSet
  deriving DecidableEq, Repr

/-- Background rotation on a die (R197). -/
structure RotationRun where
  running : Bool
  start : Nat
  j : Nat
  /-- a replacement waits for the out-period's end (R116) -/
  replaceNext : Option Nat
  deriving DecidableEq, Repr

/-- A factor set in force, and the one its trims are walking to (R194). -/
structure Factors where
  set : FactorSet
  target : Option FactorSet
  deriving DecidableEq, Repr

/-- The slot a course is running (R129, R142, R147). -/
structure Slot where
  entry : Nat
  pos : Nat
  start : Nat
  len : Nat
  urgent : Option CmdHdr
  redo : Bool
  slipped : Bool
  deriving DecidableEq, Repr

/-- A result entry (R155). -/
structure ResultEntry where
  word : Nat
  stamp : Nat
  fret : Nat
  chan : Nat
  flags : Nat
  status : Nat
  aux : Nat
  deriving DecidableEq, Repr

/-- An urgent request: position, the boundary from which it may run, whether it is a redo (R142, R147). -/
structure UrgentReq where
  pos : Nat
  due : Nat
  redo : Bool
  hdr : CmdHdr
  deriving DecidableEq, Repr

/-- A course in operation. -/
structure CourseRun where
  slot : Option Slot
  /-- waiting to start a cycle at a multiple of T_cyc, and the entry at which the sequence stands -/
  waiting : Bool
  entry : Nat
  /-- positions of the running cycle; none until the configuration has been reported (R136) -/
  list : List Nat
  slip : Nat
  realignOnce : Bool
  redoNext : Bool
  limits : Nat
  driverOff : Bool
  /-- a command has set the excitation again: the driver comes back at the next slot boundary (R140) -/
  driverOn : Bool
  /-- forced changes that wait for the next fret boundary: of the course itself, or of a position (R141) -/
  forced : List (Option Nat)
  urgents : List UrgentReq
  /-- open-wire faults present, of one position or of the course's sense pair, and monitors seen from settle to the end of conversion of the
  running slot (R143, R144) -/
  breaks : List (Monitor × Option Nat)
  seen : List Monitor
  buffer : List ResultEntry
  overwrites : Nat
  deriving DecidableEq, Repr

/-- Runs of open-wire results and of VW failures of one scanned channel (R145, R153). -/
structure ScanRun where
  owRun : Nat
  owFirst : Nat
  owRaised : Bool
  vwFails : Nat
  deriving DecidableEq, Repr

/-- A CAL_SELF command at work: the dies named, those not yet finished, taken one at a time or not (R184). -/
structure CalJob where
  hdr : CmdHdr
  dies : List Nat
  left : List Nat
  single : Bool
  deriving DecidableEq, Repr

/-- Everything the front ends hold. -/
structure FrontEnds where
  dyn : Table DynRun
  bank : Table BankRun
  rails : Table RailRun
  dies : Table DieRun
  spares : Table SpareRun
  rotation : Table RotationRun
  factors : Table Factors
  courses : Table CourseRun
  scan : Table ScanRun
  /-- SYNC_IN edges waiting for their boundary, and the boundary (R169) -/
  syncEdges : Nat
  syncAt : Option Nat
  syncIgnored : Nat
  /-- command resets waiting: boundary, channels and command (R170) -/
  resets : List (Nat × List Nat × CmdHdr)
  calJobs : List CalJob
  /-- CAL_WRITE commands whose sets are still moving (R194), by factor-set number -/
  calWrites : List (CmdHdr × List Nat)
  deriving DecidableEq, Repr

/-! ### History (11) -/

/-- A page of the history (R295): its number in order of age, the frame of DRAM it lies in, its lane, first fret, bytes and
slices used and the frets it holds slices of. -/
structure Page where
  no : Nat
  frame : Nat
  lane : Nat
  first : Nat
  used : Nat
  count : Nat
  frets : List Nat
  /-- large steps before its first fret (R299) -/
  era : Nat
  deriving DecidableEq, Repr

/-- A history block in a source lane (R294, R295). -/
structure LaneBlock where
  lane : Nat
  fret : Nat
  era : Nat
  /-- none for an offline block, which takes no slice (R210) -/
  slice : Option Slice
  block : Block
  deriving DecidableEq, Repr

/-- A RETRIEVE that waits for its reads (R300). -/
structure RetrieveJob where
  hdr : CmdHdr
  p : RetrieveP
  need : Nat
  deriving DecidableEq, Repr

/-- The rolling history (R293 to R299). -/
structure History where
  pages : List Page
  nextPage : Nat
  /-- the frame after the last one taken -/
  nextFrame : Nat
  /-- per lane, the first fret that no overwriting has reached since the last large step, and the first page since (R248) -/
  freed : Table Nat
  sincePage : Nat
  blocks : List LaneBlock
  /-- frets in the history since acquisition started, since the last large step (R248) -/
  since : Nat
  /-- one past the last fret whose records closed, since the last large step and before it -/
  upTo : Nat
  upBefore : Nat
  /-- per dynamic channel, the first fret after its last chain change -/
  chainSince : Table Nat
  written : Nat
  /-- large steps so far (R299) -/
  era : Nat
  /-- bytes that the history writer has written, and that requesters have read, in this fret; bytes read of a stream's next record
  (R300) -/
  fretWritten : Nat
  fretRead : Nat
  readSoFar : Table Nat
  /-- RETRIEVE commands that wait for the leavings of the share: what is asked, and bytes still to read -/
  retrieving : List RetrieveJob
  deriving DecidableEq, Repr

/-- The DRAM and its controller (R290 to R310). -/
structure Dram where
  mib : Nat
  mts : Nat
  ranks : Nat
  x16 : Bool
  trained : Bool
  failed : Bool
  order : Nat
  poisoned : List Nat
  scrub : Nat
  /-- scrub passes completed; addresses with correctable errors: on how many consecutive passes, and the last one -/
  pass : Nat
  ceRuns : List (Nat × Nat × Nat)
  /-- CCLK counts of correctable errors logged -/
  ceLog : List Nat
  ceAlarm : Bool
  hot : Bool
  refreshes : Nat
  /-- CCLK from which the running refresh interval counts, and from which the next scrub read is due (R304, R308) -/
  lastRefresh : Nat
  scrubDue : Nat
  retrainNext : Nat
  /-- CCLK at which the last retraining pause ends (R305) -/
  pauseEnd : Nat
  taps : Table Int
  deriving DecidableEq, Repr

/-! ### Triggers (09) -/

/-- A word on its way to the trigger unit (R232, R233). -/
structure TrigWord where
  src : Chan
  x : Int
  tags : Nat
  inst : Nat
  arrive : Nat
  deriving DecidableEq, Repr

/-- A condition entry's memory (R234, R236, R237). -/
structure CondRun where
  riseArmed : Bool
  fallArmed : Bool
  prev : Option (Int × Nat)
  deriving DecidableEq, Repr

/-- A stored term of a combiner (R240): entry, trigger time in ns, SUB, which entry. -/
structure Term where
  entry : Nat
  time : Nat
  sub : Nat
  deriving DecidableEq, Repr

/-- A combiner in operation (R240, R241). -/
structure CombRun where
  terms : List Term
  lastFire : Option Nat
  held : Nat
  heldSince : Nat
  deriving DecidableEq, Repr

/-- The states of a capture unit (R243). -/
inductive UnitState where
  | idle | armed | capturing | rearm | full
  deriving DecidableEq, Repr

/-- A trigger as it reaches a unit. -/
structure Trigger where
  time : Nat
  sub : Nat
  src : Nat
  status : Nat
  origin : Nat
  cond : Nat
  comb : Nat
  merged : Nat
  /-- CCLK at which it reaches a unit (R243, R252) -/
  reach : Nat
  deriving DecidableEq, Repr

/-- A capture in progress (R247). -/
structure Capture where
  trig : Trigger
  first : Nat
  last : Nat
  lead : Nat
  bf : Nat
  status : Nat
  /-- the fret at which gathering of the window ended early, if it did -/
  cut : Option Nat
  endNs : Nat
  /-- large steps before its trigger (R255) -/
  era : Nat
  deriving DecidableEq, Repr

/-- A capo (R247, R249). -/
structure Capo where
  no : Nat
  /-- its capture is running -/
  filling : Bool
  first : Nat
  last : Nat
  bytes : Nat
  lanes : List Nat
  /-- the stream that has its records, and the last of their numbers (R249, R261) -/
  stream : Option Nat
  lastSeq : Nat
  /-- large steps before its frets (R248, R299) -/
  era : Nat
  deriving DecidableEq, Repr

/-- A capture unit in operation. -/
structure UnitRun where
  state : UnitState
  cap : Option Capture
  capos : List Capo
  nextNo : Nat
  missed : Nat
  firstMissed : Nat
  ignored : Nat
  extends_ : Nat
  dead : Nat
  /-- CCLK of the last close, and of the moment the unit became ARMED -/
  closedAt : Nat
  armedAt : Nat
  /-- an ARM (true) or DISARM (false) that waits for its boundary -/
  wait : Option Bool
  /-- a capture that ends in IDLE whatever REPEAT says (R255) -/
  toIdle : Bool
  deriving DecidableEq, Repr

/-- An open merge window of the arbiter (R259). -/
structure Merge where
  endAt : Nat
  time : Nat
  sub : Nat
  hub : Nat
  comb : Nat
  count : Nat
  seq : Nat
  unlocked : Bool
  command : Bool
  deriving DecidableEq, Repr

/-- A request of this hub that has seen no TRIGGER yet (R259). -/
structure SentRequest where
  time : Nat
  sub : Nat
  comb : Nat
  sentAt : Nat
  command : Bool
  /-- the hub's own units took the REQUEST, for want of an arbiter -/
  taken : Bool
  deriving DecidableEq, Repr

/-- The trigger unit, combiners, units and sympathetic groups. -/
structure Triggers where
  flight : List TrigWord
  conds : Table CondRun
  combs : Table CombRun
  units : Table UnitRun
  merges : Table (Option Merge)
  requests : Table (List SentRequest)
  originSeq : Nat
  stale : Nat
  badCheck : Nat
  seenSymp : List (Nat × Nat)
  /-- condition entries written since the last boundary -/
  written : List Nat
  deriving DecidableEq, Repr

/-! ### Reduction (10) -/

/-- One entry's accumulator (R269). -/
structure StatAcc where
  total : Nat
  valid : Nat
  min : Int
  max : Int
  sum : Int
  sumSq : Nat
  tags : Nat
  offline : Bool
  deriving DecidableEq, Repr

/-- What ends an open interval or average early, and its close (R54, R288, R401): `cut` by a large step, whose record is due at
a CCLK count once the frets before the step have closed. `era` counts the large steps before its frets. -/
structure Ending where
  era : Nat
  last : Nat
  stopped : Bool
  stepped : Bool
  cut : Bool
  due : Option Nat
  deriving DecidableEq, Repr

/-- An open interval of a statistics set: its bounds in ns and its accumulators by entry position (R269). -/
structure StatsOpen where
  start : Nat
  stop : Nat
  set : StatsSet
  acc : Table StatAcc
  ending : Ending
  deriving DecidableEq, Repr

/-- A statistics set in operation: the settings in force and the open intervals, oldest first (R268). -/
structure StatsRun where
  set : StatsSet
  opened : List StatsOpen
  deriving DecidableEq, Repr

/-- One rainflow channel: its candidate extreme and direction, and its residue, newest point first (R273). -/
structure RainRun where
  cand : Option Nat
  up : Option Bool
  stack : List Nat
  deriving DecidableEq, Repr

/-- One matrix: half cycles by 64 r + m, counts, and the residue and candidate at the interval's end (R274, R275). -/
structure RainAcc where
  cells : Table Nat
  words : Nat
  skipped : Nat
  out : Nat
  res : Option (List Nat × Option Nat)
  deriving DecidableEq, Repr

/-- An open interval of a rainflow set. -/
structure RainOpen where
  gen : Nat
  start : Nat
  stop : Nat
  set : RainSet
  acc : Table RainAcc
  ending : Ending
  deriving DecidableEq, Repr

/-- A rainflow set in operation; settings count up with each change, and channels stand by 256 × that count + position. -/
structure RainSetRun where
  set : RainSet
  gen : Nat
  chans : Table RainRun
  opened : List RainOpen
  deriving DecidableEq, Repr

/-- An open average of a spectral set (R278): the included words counted per segment, over all channels, their values by 128 × index +
channel position, and the last word index seen. -/
structure SpecOpen where
  j : Nat
  set : SpecSet
  tOut : Nat
  dTotal : Nat
  segs : Table Nat
  vals : Table Int
  lastK : Option Nat
  ending : Ending
  deriving DecidableEq, Repr

/-- A spectral set in operation. -/
structure SpecRun where
  set : SpecSet
  opened : List SpecOpen
  deriving DecidableEq, Repr

/-- A pause of the reduction engine in ns, open-ended after a failed test, with the large steps before it (R289). -/
structure RedPause where
  start : Nat
  stop : Option Nat
  era : Nat
  deriving DecidableEq, Repr

/-- The reduction engine, with the pauses of its self-tests (R289). -/
structure Reduction where
  stats : Table StatsRun
  rain : Table RainSetRun
  spec : Table SpecRun
  testHdrs : List CmdHdr
  testEnd : Option Nat
  pauses : List RedPause
  failed : Bool
  deriving DecidableEq, Repr

/-! ### The ring (12) -/

/-- States of a hub on its ring (R338). -/
inductive JoinState where
  | down | pass | listen | joined | refused
  deriving DecidableEq, Repr

/-- What leaves a ring port (R57, R317, R318), in structured form. -/
inductive WireMsg where
  | record (stream seq frag : Nat) (last held : Bool) (payload : List Byte)
  | sympathetic (payload : List Byte)
  | beacon (b : Beacon)
  | lease (m : LeaseMsg)
  /-- the descriptor and the data buffer travel with it (R336, R389) -/
  | command (hub opcode tag : Nat) (desc data : List Byte)
  | completion (gateway : Nat) (c : RemoteCompletion)
  | budget (m : BudgetMsg)
  | credit (m : CreditMsg)
  | join (hub : Nat)
  | leave (hub : Nat)
  | sync (seqId : Nat) (origin : Nat) (correction16 : Int)
  | announce (seqId : Nat) (master priority1 priority2 : Nat)
  | pdelayReq (seqId : Nat)
  /-- before it leaves, `time16` is the arrival of its request; as it leaves, the turnaround -/
  | pdelayResp (seqId requestor : Nat) (time16 : Int)
  | supervision
  | transit (frame : RingFrame) (fcsInverted : Bool) (ingress16 : Int)
  deriving DecidableEq, Repr

/-- A frame waiting at an egress (R321): class, bytes from destination address to FCS, the CCLK count from which its first byte can
leave (R88), HSR sequence number, destination address, Jorva header (R318; none for PTP and supervision) and what it carries. -/
structure Waiting where
  cls : Nat
  bytes : Nat
  ready : Nat
  hsrSeq : Nat
  da : Nat
  head : List Byte
  msg : WireMsg
  deriving DecidableEq, Repr

/-- A frame that has left a ring port: addresses, the HSR tag's path identifier, LSDU size and sequence number, EtherType, Jorva
header, and what it carries (R314, R317, R318). -/
structure WireFrame where
  da : Nat
  sa : Nat
  path : Nat
  lsdu : Nat
  hsrSeq : Nat
  etherType : Nat
  head : List Byte
  msg : WireMsg
  deriving DecidableEq, Repr

/-- Frame counters of one port (R402, group 1). -/
structure PortCount where
  frames : Nat
  fcs : Nat
  r312 : Nat
  lsdu : Nat
  dups : Nat
  reasm : Nat
  versions : Nat
  /-- frames discarded at a full reserve, by class (R323) -/
  classFull : Table Nat
  deriving DecidableEq, Repr

/-- A record being reassembled (R319): when its first fragment came, its class and HELD, the fragments received by index, and how many it
has, once LAST has been seen; `dead` once it has been discarded and counted. -/
structure Reassembly where
  src : Nat
  stream : Nat
  tag : Nat
  started : Nat
  cls : Nat
  frags : List (Nat × List Byte)
  total : Option Nat
  dead : Bool
  deriving DecidableEq, Repr

/-- A hub in the topology table (R335). -/
structure TopoEntry where
  present : Bool
  hopsA : Nat
  hopsB : Nat
  version : Nat
  lastStamp : Nat
  lastAt : Nat
  gateway : Bool
  arbiter : Bool
  master : Bool
  rate : Nat
  etherType : Nat
  reserve : Nat
  rosterCrc : Nat
  rho : Nat
  sigma : Nat
  joining : Bool
  /-- a LEAVE of the hub has come (R341) -/
  left : Bool
  deriving DecidableEq, Repr

/-- What this hub holds of one leased role (R333). -/
structure LeaseRun where
  holder : Option Nat
  term : Nat
  /-- hub time in ns of the last valid message -/
  lastMsg : Option Nat
  held : Bool
  expires : Nat
  /-- acknowledgements gathered for the current claim or renewal, and its sending time -/
  acks : List Nat
  sentAt : Nat
  claiming : Bool
  /-- promise to one hub until an instant -/
  promise : Option (Nat × Nat)
  /-- claims collected: priority, hub, term, sent; and the window's end -/
  claims : List (Nat × Nat × Nat × Nat)
  claimEnd : Option Nat
  deriving DecidableEq, Repr

/-- A command forwarded to a remote hub (R336). -/
structure Forwarded where
  hub : Nat
  hdr : CmdHdr
  opcode : Nat
  desc : List Byte
  data : List Byte
  /-- the command's worst-case bound in CCLK -/
  bound : Nat
  resent : Bool
  at_ : Nat
  deriving DecidableEq, Repr

/-- A grant asked for, and the command that waits for it (R330). -/
structure BudgetAsk where
  stream : Nat
  rho : Nat
  sigma : Nat
  hdr : CmdHdr
  opcode : Nat
  cmd : Instr
  deriving DecidableEq, Repr

/-- The ring switch and transport. -/
structure Ring where
  state : JoinState
  joinHdr : Option CmdHdr
  /-- LEAVE commands under way: the ring streams' records go out before the LEAVE (R341) -/
  leaving : List CmdHdr
  /-- AUTO_JOIN waits for the first link (R406, DEDUCED, log 29) -/
  autoJoin : Bool
  listenEnd : Nat
  refusedBy : Option (Nat × Nat)
  linkA : Bool
  linkB : Bool
  hsrSeq : Nat
  /-- (source address, sequence, CCLK of first receipt) of the last 10 ms (R315) -/
  dups : List (Nat × Nat × Nat)
  nodes : List (Nat × Nat)
  countA : PortCount
  countB : PortCount
  egressA : List Waiting
  egressB : List Waiting
  reasm : List Reassembly
  /-- records reassembled and not yet taken: source hub, stream, bytes, of the RETRIEVAL class (R319, R326) -/
  arrived : List (Nat × Nat × List Byte × Bool)
  /-- receive subscriptions: source hub, stream, host ring (R326) -/
  recv : List (Nat × Nat × Nat)
  /-- host rings named by forwarded RETRIEVEs: source hub, stream, ring (R403) -/
  retrieveTo : List (Nat × Nat × Nat)
  /-- RETRIEVAL records received whose host ring has no room: source hub, ring, bytes (R332) -/
  parked : List (Nat × Nat × List Byte)
  topo : Table TopoEntry
  gateway : LeaseRun
  arbiter : LeaseRun
  /-- the gateway's ledger: hub, stream, rho, sigma (R330) -/
  ledger : List (Nat × Nat × Nat × Nat)
  ledgerReady : Bool
  /-- hubs whose beacons have come since this hub took the gateway role -/
  ledgerHeard : List Nat
  /-- requests that wait for the ledger: hub, stream, rho, sigma -/
  budgetQ : List (Nat × Nat × Nat × Nat)
  /-- figures granted to this hub's streams, and grants it has asked for -/
  grants : Table (Nat × Nat)
  asks : List BudgetAsk
  /-- credit this hub holds from each destination and since when; credit it has granted (R332) -/
  credit : Table (Nat × Nat)
  granted : Table Nat
  /-- credit to grant once a pair is ACTIVE again (R419) -/
  creditDue : Table Nat
  /-- hubs that have granted this hub credit since they came (R332) -/
  creditors : List Nat
  /-- RETRIEVAL records waiting for credit: destination (64 for all hubs), HELD, the record -/
  retrieval : List (Nat × Bool × Record)
  forwarded : List Forwarded
  /-- completions kept for repeated tags: gateway, term, tag (R336) -/
  tags : List (Nat × Nat × Nat × Completion)
  running : List (Nat × Nat × Nat)
  supervisions : Nat
  /-- CCLK from which the next supervision frame and the next beacon are due (R316, R335) -/
  supervisionDue : Nat
  beaconDue : Nat
  /-- CCLK count at which the allowance of this hub's CONTROL frames is whole again (R321) -/
  controlAt : Nat
  splitAlarm : Nat
  deriving DecidableEq, Repr

/-! ### Lanes (13) -/

/-- A PRBS test on a ring lane (R358). -/
structure LaneTest where
  gen : Bool
  chk : Bool
  pattern : Nat
  injK : Nat
  duration : Nat
  startAt : Option Nat
  endAt : Nat
  hdr : CmdHdr
  deriving DecidableEq, Repr

/-- A serial lane (R346 to R362). -/
structure Lane where
  state : Nat
  fault : Nat
  frozen : Bool
  rate : Nat
  slip : Nat
  fecOn : Bool
  aligned : Bool
  reversed : Bool
  polInv : Bool
  eyeLow : Bool
  downSeen : Bool
  scanNo : Nat
  fom : Nat
  height : Nat
  width : Nat
  lowScans : Nat
  eyeAlarm : Bool
  pattern : Nat
  injK : Nat
  sat : Bool
  lockLost : Bool
  chkLock : Bool
  chk : Bool
  gen : Bool
  err : Nat
  bits : Nat
  injected : Nat
  entered : Nat
  /-- a lane back at CDR has no signal; the CCLK count of the last eye scan -/
  noSignal : Bool
  scanned : Nat
  test : Option LaneTest
  deriving DecidableEq, Repr

/-! ### Host interface (14, 15) -/

/-- An entry of a hub-held ring (R378, R379). -/
structure QEntry where
  code : Nat
  source : Nat
  stamp : Nat
  count : Nat
  args : List Byte
  lastStamp : Nat
  src : Nat
  pri : Nat
  cleared : Bool
  no : Nat
  dropped : Nat
  /-- CCLK count of the first occurrence of a LOG entry -/
  since : Nat
  deriving DecidableEq, Repr

/-- A gap notice waiting in a queue (R376). -/
structure Gap where
  no : Nat
  count : Nat
  first : Nat
  last : Nat
  priMask : Nat
  deriving DecidableEq, Repr

/-- A hub-side queue. -/
structure Queue where
  entries : List QEntry
  gap : Option Gap
  entryNo : Nat
  deriving DecidableEq, Repr

/-- What the hub wrote into a ring in host memory. -/
inductive RingItem where
  | completion (c : Completion)
  | record (bytes : List Byte)
  | entry (e : QEntry)
  | gap (g : Gap)
  deriving DecidableEq, Repr

/-- A host ring (R369 to R382). -/
structure HostRing where
  active : Bool
  configured : Bool
  type : Nat
  fifo : Bool
  groups : Nat
  log2Size : Nat
  base : Nat
  level : Nat
  hostIdx : Nat
  hubIdx : Nat
  flush : Bool
  badIdx : Bool
  above : Bool
  waiting : Bool
  loss : Nat
  queue : Queue
  /-- what was written into host memory and not yet consumed, oldest first, with its size -/
  items : List (Nat × RingItem)
  deriving DecidableEq, Repr

/-- A latch of one latching register (R368): the shadows of its set by offset, and the offsets not read since. -/
structure Latch where
  shadow : List (Nat × Word)
  unread : List Nat
  deriving DecidableEq, Repr

/-- The latches and windows of one requester (R368, R382, R497); latches by the offset of their latching register. -/
structure ReqState where
  partialWrite : Bool
  noLatch : Bool
  latches : Table Latch
  popWin : List Byte
  updStatus : Nat
  updBusy : Bool
  /-- status of the operation that has run to its end, and the offset of a write under way -/
  updResult : Option Nat
  updArg : Word
  updData : Table Word
  deriving DecidableEq, Repr

/-- A command handed to Clesin and not completed (R404, R420). -/
structure Handed where
  ring : Nat
  descIdx : Nat
  tag : Nat
  opcode : Nat
  idem : Bool
  cplRing : Nat
  gateway : Option Nat
  /-- CCLK of the hand-off; re-executed by a new pair (R407) -/
  since : Nat
  reexec : Bool
  deriving DecidableEq, Repr

/-- One trace source: the CCLK counts of the entries of the last second, newest first, and the entries dropped (R379). -/
structure TraceSrc where
  recent : List Nat
  dropped : Nat
  deriving DecidableEq, Repr

/-- What a command answers: status, RESULT, output data (R392 to R394). -/
structure Reply where
  status : Nat
  result : List Byte
  data : List Byte
  deriving DecidableEq, Repr

/-- The PCIe endpoint, host rings and event sources. -/
structure HostIf where
  linkUp : Bool
  perst : Bool
  ready : Bool
  flrSeen : Bool
  dmaErr : Bool
  badIdx : Bool
  boot : Table Word
  wbLo : Word
  wbHi : Word
  rings : Table HostRing
  alarmQ : Queue
  logQ : Queue
  traceQ : Queue
  scratch : Word
  reqPcie : ReqState
  reqSvc : ReqState
  reqCtl : ReqState
  pend : Table Word
  mask : Table Word
  map : Table Word
  /-- Uncorrectable Error Status of the Advanced Error Reporting capability (R363, R365) -/
  aerStatus : Nat
  /-- MSI-X: function mask, vector masks (bit v), PBA bits, vectors sent -/
  msixMask : Bool
  vecMask : Nat
  /-- address and data words of the MSI-X table, by word -/
  msixTab : Table Word
  pba : Nat
  msixSent : List Nat
  waiting : List Completion
  handed : List Handed
  fetchNext : Nat
  /-- the value the last read returned: of a register, or of RING_POP -/
  readData : Word
  /-- alarms active: code and source (R462) -/
  alarms : List (Nat × Nat)
  trace : Table TraceSrc
  /-- writeback slots: hub index and RING_STAT as last written (R372) -/
  slots : Table (Nat × Nat)
  /-- commands whose completions are discarded (R366, R407): ring and index of the descriptor, or 256 + gateway and tag -/
  orphans : List (Nat × Nat)
  deriving DecidableEq, Repr

/-! ### Controller pairs (16) -/

/-- States of a pair (R409). -/
inductive PairState where
  | disabled | active | standby | starting | fenced | selftest | halted
  deriving DecidableEq, Repr

/-- One pair. -/
structure PairRun where
  state : PairState
  holdEnd : Nat
  fails : Nat
  fences : List Nat
  deriving DecidableEq, Repr

/-- Stages of a swap drill or of the SWAP of a commit (R424, R494). -/
inductive DrillStage where
  | none | quiescing | haltDue | taking | oldTest
  deriving DecidableEq, Repr

/-- A checkpoint: its number, and of Clesin's state what no command and no hardware brings back (R414 to R416): the leases, the budget
ledger, the increments of 64 s and the count of good Syncs. -/
structure Ckpt where
  no : Nat
  gateway : LeaseRun
  arbiter : LeaseRun
  ledger : List (Nat × Nat × Nat × Nat)
  ledgerReady : Bool
  ledgerHeard : List Nat
  budgetQ : List (Nat × Nat × Nat × Nat)
  incHist : List (Nat × Nat)
  goodSyncs : Nat
  deriving DecidableEq, Repr

/-- The controller complex (R409 to R426). -/
structure Pairs where
  p0 : PairRun
  p1 : PairRun
  lastActive : Pair
  lastCause : Nat
  fenceSeen : Bool
  stage : DrillStage
  drillHdr : Option CmdHdr
  commitSwap : Bool
  drillStart : Nat
  drillMicros : Nat
  startDeadline : Option Nat
  failCount : Nat
  drills : Nat
  failovers : Nat
  fenceStamp : Nat
  fencedAt : Nat
  ckptNo : Nat
  /-- the checkpoints that the two slots hold whole -/
  slotA : Option Ckpt
  slotB : Option Ckpt
  toSlotB : Bool
  /-- EVENT records in the staging buffer (stream, seq), and events waiting in Clesin (R421) -/
  staging : List (Nat × Nat)
  waitingEvents : List (Nat × Event)
  deriving DecidableEq, Repr

/-! ### Safety (19) -/

/-- The safety monitor. -/
structure Safety where
  safe : Bool
  first : Nat
  seen : List Nat
  /-- causes whose condition is still present -/
  present : List Nat
  stamp : Nat
  enteredAt : Nat
  closeDue : Bool
  closed : Bool
  leaveHdr : Option CmdHdr
  xcheck : Bool
  xcheckRun : Nat
  suppliesOut : List Nat
  sramSeen : Bool
  hubTemp : Int
  hubHot : Bool
  heartbeat : Nat
  clockLost : List ClockName
  /-- end of the last window of the time cross-check (R476) -/
  xcheckAt : Nat
  deriving DecidableEq, Repr

/-! ### Field and local ports (17, 18) -/

/-- A field port in operation (R433, R434). -/
structure FpRun where
  running : Bool
  /-- the P numbers of the running cycle, and the position of the slot's -/
  entries : List Nat
  pos : Nat
  /-- the slot: its start, attempts made, whether a response is awaited, the end of the last request sent -/
  slotStart : Nat
  attempts : Nat
  sent : Bool
  reqEnd : Nat
  /-- the slot needs no further attempt; the accepted result; the cause of the last failed attempt and the exception code -/
  done : Bool
  result : Option PollOut
  last : Nat
  exc : Nat
  de : Bool
  /-- slots of the cycle that ended with BUS_BUSY and with FRAME, and cycles in which all did -/
  busyN : Nat
  frameN : Nat
  badCycles : Nat
  deriving DecidableEq, Repr

/-- Health of a polled channel (R440). -/
structure PartnerRun where
  fails : Nat
  down : Bool
  firstFail : Nat
  lastStatus : Nat
  lastExc : Nat
  deriving DecidableEq, Repr

/-- A value output in operation (R454 to R458): `on` a TRIP output is energised; times are CCLK counts. -/
structure ValRun where
  on : Bool
  tripped : Bool
  holdEnd : Option Nat
  /-- the latest value, and whether a word with VALID = 0 or the STALE time has put it aside -/
  word : Option Int
  failWord : Bool
  atFail : Bool
  staleAt : Option Nat
  /-- the running period: its start, length and on-time -/
  start : Nat
  period : Nat
  high : Nat
  blind : Bool
  openLoad : Bool
  stuckOn : Bool
  /-- of an output without a waveform: when it last switched; when each finding was last made (R457) -/
  switched : Nat
  openAt : Nat
  stuckAt : Nat
  deriving DecidableEq, Repr

/-- The octal SPI master (R442 to R445): clock divider, strobe delay tap, opcode, dummy clocks and select delays in clocks; the CCLK count from
which the select may fall again, and the command bytes of the last transfer. -/
structure Ospi where
  div : Nat
  tap : Nat
  opcode : Nat
  dummies : Nat
  tCss : Nat
  tCsh : Nat
  tCsd : Nat
  freeAt : Nat
  command : List Byte
  deriving DecidableEq, Repr

/-- Field ports, value outputs and fixed pins. -/
structure Local where
  fp : Table FpRun
  partners : Table PartnerRun
  val : Table ValRun
  /-- outputs that a VAL_OUT_SET has named since the last boundary -/
  valSet : List Nat
  gpio : Nat
  syncIn : Bool
  pps : Bool
  ppsFall : Nat
  reserve : Bool
  spimRdy : Bool
  alarmN : Bool
  svcDiscard : Bool
  svcViolations : Nat
  svcDiscards : Nat
  svcFrames : Nat
  ospi : Ospi
  ospiTimeouts : Nat
  ospiWriteErrors : Nat
  ospiLine : List Byte
  /-- words the service port sent back in its last frame -/
  svcOut : List Word
  deriving DecidableEq, Repr

/-! ### Boot and update (20) -/

/-- The boot control block (R483). -/
structure BootBlock where
  slotA : Nat
  slotB : Nat
  preferB : Bool
  bootedA : Bool
  bootedB : Bool
  lock : Bool
  key : Nat
  capoGuard : Bool
  minSvn : Nat
  writes : Nat
  deriving DecidableEq, Repr

/-- Who holds the update session (R491): 1 PCIe host, 2 service port, 3 a gateway, by its hub. -/
structure Session where
  holder : Nat
  hub : Nat
  length : Nat
  written : Nat
  renewed : Nat
  deriving DecidableEq, Repr

/-- A write into the inactive slot; the first of the list runs, the others wait for it (R493). -/
structure FlashOp where
  offset : Nat
  data : List Byte
  hdr : Option CmdHdr
  req : Option Requester
  deriving DecidableEq, Repr

/-- The header fields of an image (R484). -/
structure ImageHead where
  clesinVer : Nat
  jorvaHi : Nat
  feIf : Nat
  ckptFmt : Nat
  svn : Nat
  deriving DecidableEq, Repr

/-- A commit in progress (R494): the dies still to reload, the first of them under way, and those reloaded. -/
structure Commit where
  activate : Nat
  image : ImageHead
  dies : List Nat
  reloaded : List Nat
  slot : Nat
  hdr : Option CmdHdr
  req : Option Requester
  deriving DecidableEq, Repr

/-- Boot and update. -/
structure Boot where
  /-- boot flash: the bytes the hub has programmed, by rising address; the rest is as it left the board maker (DEDUCED, log 5) -/
  flash : List Host.Cell
  /-- the boot control block, and what copy 1 held before its last write (R483) -/
  bcb : BootBlock
  bcbOld : BootBlock
  running : Nat
  fw : Nat
  /-- of the running image: highest Jorva version, microcode interface, checkpoint format (R484) -/
  jorvaHi : Nat
  feIf : Nat
  ckptFmt : Nat
  recovery : Bool
  inReset : Bool
  /-- boot has completed (R487) -/
  up : Bool
  /-- CCLK of reset release, and the findings of the boot under way -/
  booting : Option BootFindings
  resetAt : Option Nat
  /-- the hub is to reset: after RESET_HUB, a commit with RESET, or a watchdog fence of an EXPIRED slot -/
  resetDue : Bool
  session : Option Session
  ops : List FlashOp
  commit : Option Commit
  trialFrom : Option Nat
  trialOpen : Bool
  deriving DecidableEq, Repr

end Sys2Proof.Machine
end

