-- ==== Sys2Proof/Machine/Initial.lean ====
section
/-! DEFINITION. The default values of settings and of every part of the hub, as the settings tables and the register
tables give them. Values the manual does not give are named in the assumption log. -/

namespace Sys2Proof.Machine

/-! ### Settings defaults -/

/-- R98 defaults; preset Medium (DESIGN CHOICE, log 7), no notch, width 2 Hz (R160). -/
def dynSet0 : DynSet :=
  { enable := false, se := false, gain := 0, ratio := false, tap := false, iMin := 2, openWire := true, tone := true,
    chain := 2, osr := 0, m := 0, r := 0, notch := 0, width := 1 }

/-- R99 defaults: off, 30 mA. -/
def railSet0 : RailSet := { voltage := 0, iLim := 2 }

/-- VEXC_NOM 12.0 V in steps of 0.1 V from 0 (R99). -/
def vexc0 : Nat := 120

/-- R125 defaults: 20 ms slots (position 7), 250 ms in steps of 50, 30 mA in steps of 5, 5 us, MANUAL, on. -/
def courseSet0 : CourseSet :=
  { scan := [0, 1, 2, 3, 4, 5, 6, 7], slot := 7, vwSlot := 5, iLim := 6, rounding := 0, realign := 0, driver := true }

/-- R126 defaults. -/
def scanSet0 : ScanSet :=
  { enable := false, kind := 0, gain := 0, ratio := true, exc := 0, iMin := 1, d := 8, s := 50, openWire := true,
    sweepLo := 400, sweepHi := 6000, listen := 10 }

/-- Automatic sparing on, rotation off (R114, R197). -/
def spareSet0 : SpareSet := { auto := true, rotation := false }

/-- GAIN 1.0, OFFSET 0 (R173); LABEL 0 (DESIGN CHOICE, log 7). -/
def bank0 : Bank := { gain := 0x01000000, offset := 0, label := 0 }

/-- Both banks at their reset values (R173). -/
def bankPair0 : BankPair := { a := bank0, b := bank0 }

/-- An OFF entry (DESIGN CHOICE, log 7). -/
def condSet0 : CondSet := { src := ⟨.dynamic, 0⟩, kind := 0, enable := false, comb := 0, a := 0, b := 0, h := 0 }

/-- R239 defaults. -/
def combSet0 : CombSet := { mode := 0, k := 1, w := 0, anchor := 0, holdoff := 0, group := none, event := false }

/-- R242 defaults: SOURCE NONE, PRE and POST 1 s, QUOTA 0; SELECT and STREAM have none (DESIGN CHOICE, log 7). -/
def unitSet0 : UnitSet :=
  { source := 0x21, select := 0, pre := 1000000, post := 1000000, quota := 0, repeating := false, auto := 0, policy := 0,
    chainMask := 0, stream := 0, autoRelease := false }

/-- DIRECT, no merge window (DESIGN CHOICE, log 7). -/
def groupSet0 : GroupSet := { arbitrated := false, wG := 0 }

def statsSet0 : StatsSet := { interval := 0, stream := 0, entries := [] }
def rainSet0 : RainSet := { interval := 0, stream := 0, chans := [] }
def specSet0 : SpecSet := { log2n := 0, window := 0, overlap := 0, a := 0, stream := 0, chans := [], pairs := [] }

/-- No transmit equalisation (DESIGN CHOICE, log 7). -/
def laneTx0 : LaneTx := { pre := 0, main := 0, post := 0, inv := false }

/-- R428 defaults: off, 19,200 baud, EVEN, 20 ms, 5 ms, 1 retry, 3 polls. -/
def fpSet0 : FpSet := { enable := false, baud := 1, parity := 0, slot := 4, timeout := 5, retries := 1, downAfter := 3 }

/-- A directory entry that nothing has written: disabled, all fields 0 (DESIGN CHOICE, log 7). -/
def dirEntry0 : DirEntry :=
  { enable := false, port := 0, unit := 0, func := 0, type := 0, lowFirst := false, reg := 0, scale := 0, age := 0, wdata := 0 }

/-- R452 defaults. -/
def valSet0 : ValSet :=
  { mode := 0, safety := false, src := ⟨.dynamic, 0⟩, comb := none, hold := 0, lo := 0, hi := 8388607, pulse := 0, fail := 0,
    stale := 1000 }

/-- R57 defaults; priorities 128 (PRESUMED, log 6). -/
def ptpSet0 : PtpSet := { domain := 0, logSync := -4, logAnnounce := 0, logPdelay := 0, priority1 := 128, priority2 := 128 }

/-- Every setting at its default. The ring settings await the board table (R406, DESIGN CHOICE, log 9). -/
def settings0 : Settings :=
  { period := 100000, dyn := [], rails := [], vexc := [], courses := [], scan := [], spare := [], banks := [],
    syncEnable := false, syncFalling := false, conds := [], combs := [], units := [], groups := [], stats := [], rain := [],
    spec := [], mem := { h := 5, c := 25 },
    ring := { hubId := 0, rate10G := false, fecA := false, fecB := false, etherType := 0x88B5, reserve := 1024 },
    roster := [], roles := { gwElig := false, gwPri := 0, arbElig := false, arbPri := 0 }, laneTx := [], fp := [], dir := [],
    val := [], gpio := { dir := 0, out := 0, od := 0 } }

/-! ### Time -/

/-- The time group at its reset values (R74). -/
def time0 : TimeUnit :=
  { half := 0, cclk := 0, inc := 0x080000000000, incNext := none, step := 0, reload := none, mclkEdge := 0, walk := [], stepBig := false,
    dcoClamp := false, overlap := false, master := false, syncLost := false, holdover := false, locked := false,
    portB := false, offset16 := 0, masterId := 0, asymA := 0, asymB := 0, closure := 0, closureCal := 0, freq := 0 }

def ptpPort0 : PtpPort :=
  { lastSync := none, validSyncs := 0, offset16 := 0, missed := 0, good := 0, delays := [], reqOut := none, reqSeq := 0, reqTx := none, reqDue := 0 }

def ptp0 : Ptp :=
  { set := ptpSet0, portA := ptpPort0, portB := ptpPort0, goodSyncs := 0, sentSyncs := 0, estimate := 0x080000000000, syncDue := 0, annDue := 0, closureDue := 0, incHist := [], heard := [],
    second := none, followedAt := 0, overlapAlarm := false, syncSeq := 0, annSeq := 0, discards := 0, announces := 0,
    portChanges := 0, largeSteps := 0 }

/-! ### Streams and records -/

def coder0 : Coder := { lastWord := 0, deltas := [], words := 0, level := 0 }

def streamCtx0 : StreamCtx :=
  { isOpen := false, type := 0, events := false, right := false, level := 0, hostRing := none, ring := false, select := [],
    nextSeq := 0, started := false, point := 0, replay := false, ranges := [], stored := [], notices := [], coder := coder0, noGain := 0,
    hold := false, holders := [], ringNext := 0, ringPoint := 0, ringRanges := []
    gone := [], safeDue := [], ringSafe := [], heldEvents := [], allowAt := 0 }

def fretMachine0 : FretMachine :=
  { idx := 0, boundary := 0, acquiring := false, startAt := [], stopAt := false, regrid := false,
    holdClose := 0, gather := none, closing := [], early := [], atBoundary := [], closeStreams := [], closeDue := false, closeAt := 0 }

/-! ### Front ends -/

def dynRun0 : DynRun :=
  { runStart := none, set := dynSet0, outs := 0, resetAt := none, oldUntil := 0, causes := 0, edges := 0, noStart := false, dueAt := none, window := [],
    notches := [],
    openMon := [], owRun := 0, owFirst := 0, owRaised := false, owAge := none, owMon := 0, owClear := [], owUntil := none, overload := [],
    badUntil := none, excUntil := none, stuck := false, stuckDue := false, tone := 0 }

def bankRun0 : BankRun := { activeB := false, swap := none, queued := none }

def railRun0 : RailRun := { outOfReg := false, limitSince := none, tripped := false, offCmd := false, changeEnd := none }

/-- Temperature 0 as `SAFE_TEMP_FE` resets to; measured VEXC 0 until measured (DESIGN CHOICE, log 10). -/
def dieRun0 : DieRun :=
  { isolated := none, calWait := false, calEnd := none, calRestarts := 0, loadWait := false, loadEnd := none, isoWait := none,
    returnWait := false, temp := 0, vexc := 0, vexcLow := false, vexcHigh := false, linkErrors := 0, tempHigh := false, feIf := 0 }

def spareRun0 : SpareRun :=
  { phase := .idle, use := .command, chan := 0, pairs := [], firstLearn := none, g := 0x01000000, o := 0, fitG := 0x01000000, fitO := 0, resid := 0,
    matchFail := false, dueAt := 0, keep := false, update := false, hdr := none, tested := none }

def rotationRun0 : RotationRun := { running := false, start := 0, j := 0, replaceNext := none }

/-- The default factor set of R181, result NOT_RUN. -/
def factorSet0 : FactorSet :=
  { thresh := List.replicate 15 0, delay := List.replicate 8 32, offset := List.replicate 8 0,
    gain := List.replicate 8 0x40000000, verified := List.replicate 8 0x40000000, temp := -128, result := 7, failGain := 0xFF }

/-- Factor sets by number at reset: a course's, from 132 on, has no trims (R181, R191). -/
def factors0 (n : Nat) : Factors :=
  { set := if n < 132 then factorSet0 else { factorSet0 with delay := List.replicate 8 0 }, target := none }

def courseRun0 : CourseRun :=
  { slot := none, waiting := false, entry := 0, list := [], slip := 0, realignOnce := false, redoNext := false,
    limits := 0, driverOff := false, driverOn := false, forced := [], urgents := [], breaks := [], seen := [], buffer := [], overwrites := 0 }

def scanRun0 : ScanRun := { owRun := 0, owFirst := 0, owRaised := false, vwFails := 0 }

def frontEnds0 : FrontEnds :=
  { dyn := [], bank := [], rails := [], dies := [], spares := [], rotation := [], factors := [], courses := [], scan := [],
    syncEdges := 0, syncAt := none, syncIgnored := 0, resets := [], calJobs := [], calWrites := [] }

/-! ### DRAM and history -/

def history0 : History :=
  { pages := [], nextPage := 0, nextFrame := 0, freed := [], sincePage := 0, blocks := [], since := 0, upTo := 0, upBefore := 0, chainSince := [], written := 0
    era := 0, fretWritten := 0, fretRead := 0, readSoFar := [], retrieving := [] }

/-- DRAM before training (R292, R303). -/
def dram0 : Dram :=
  { mib := 0, mts := 0, ranks := 0, x16 := false, trained := false, failed := false, order := 0, poisoned := [], scrub := 0,
    pass := 0, ceRuns := [], ceLog := [], ceAlarm := false, hot := false, refreshes := 0, lastRefresh := 0, scrubDue := 0,
    retrainNext := 0, pauseEnd := 0, taps := [] }

/-! ### Triggers -/

def condRun0 : CondRun := { riseArmed := true, fallArmed := true, prev := none }
def combRun0 : CombRun := { terms := [], lastFire := none, held := 0, heldSince := 0 }

def unitRun0 : UnitRun :=
  { state := .idle, cap := none, capos := [], nextNo := 0, missed := 0, firstMissed := 0, ignored := 0, extends_ := 0, dead := 0,
    closedAt := 0, armedAt := 0, wait := none, toIdle := false }

def triggers0 : Triggers :=
  { flight := [], conds := [], combs := [], units := [], merges := [], requests := [], originSeq := 0, stale := 0, badCheck := 0,
    seenSymp := [], written := [] }

/-! ### Reduction -/

def statAcc0 : StatAcc := { total := 0, valid := 0, min := 0, max := 0, sum := 0, sumSq := 0, tags := 0, offline := false }
def ending0 : Ending := { era := 0, last := 0, stopped := false, stepped := false, cut := false, due := none }
def statsRun0 : StatsRun := { set := statsSet0, opened := [] }
def rainRun0 : RainRun := { cand := none, up := none, stack := [] }
def rainAcc0 : RainAcc := { cells := [], words := 0, skipped := 0, out := 0, res := none }
def rainSetRun0 : RainSetRun := { set := rainSet0, gen := 0, chans := [], opened := [] }
def specRun0 : SpecRun := { set := specSet0, opened := [] }
def reduction0 : Reduction :=
  { stats := [], rain := [], spec := [], testHdrs := [], testEnd := none, pauses := [], failed := false }

/-! ### Ring and lanes -/

def portCount0 : PortCount :=
  { frames := 0, fcs := 0, r312 := 0, lsdu := 0, dups := 0, reasm := 0, versions := 0, classFull := [] }

def topoEntry0 : TopoEntry :=
  { present := false, hopsA := 0, hopsB := 0, version := 0, lastStamp := 0, lastAt := 0, gateway := false, arbiter := false,
    master := false, rate := 0, etherType := 0, reserve := 0, rosterCrc := 0, rho := 0, sigma := 0, joining := false, left := false }

def leaseRun0 : LeaseRun :=
  { holder := none, term := 0, lastMsg := none, held := false, expires := 0, acks := [], sentAt := 0, claiming := false,
    promise := none, claims := [], claimEnd := none }

/-- The ring before any link is up (R338). -/
def ring0 : Ring :=
  { state := .down, joinHdr := none, leaving := [], autoJoin := false, listenEnd := 0, refusedBy := none, linkA := false, linkB := false, hsrSeq := 0, dups := [],
    nodes := [], countA := portCount0, countB := portCount0, egressA := [], egressB := [], reasm := [], arrived := [], recv := [],
    retrieveTo := [], parked := [], topo := [], gateway := leaseRun0, arbiter := leaseRun0, ledger := [], ledgerReady := false, ledgerHeard := [], budgetQ := [], grants := [], asks := [],
    credit := [], granted := [], creditDue := [], creditors := [], retrieval := [], forwarded := [], tags := [], running := [], supervisions := 0, supervisionDue := 0, beaconDue := 0, controlAt := 0, splitAlarm := 0 }

/-- A lane at the reset values of R362. -/
def lane0 : Lane :=
  { state := 0, fault := 0, frozen := false, rate := 0, slip := 0, fecOn := false, aligned := false, reversed := false,
    polInv := false, eyeLow := false, downSeen := false, scanNo := 0, fom := 0, height := 0, width := 0, lowScans := 0,
    eyeAlarm := false, pattern := 0, injK := 0, sat := false, lockLost := false, chkLock := false, chk := false, gen := false,
    err := 0, bits := 0, injected := 0, entered := 0, noSignal := false, scanned := 0, test := none }

/-! ### Host interface -/

def queue0 : Queue := { entries := [], gap := none, entryNo := 0 }

def hostRing0 : HostRing :=
  { active := false, configured := false, type := 0, fifo := false, groups := 0, log2Size := 0, base := 0, level := 0,
    hostIdx := 0, hubIdx := 0, flush := false, badIdx := false, above := false, waiting := false, loss := 0, queue := queue0,
    items := [] }

def latch0 : Latch := { shadow := [], unread := [] }
def traceSrc0 : TraceSrc := { recent := [], dropped := 0 }

def reqState0 : ReqState :=
  { partialWrite := false, noLatch := false, latches := [], popWin := [], updStatus := 0, updBusy := false,
    updResult := none, updArg := 0, updData := [] }

/-- The host interface at its register resets; all MSI-X vectors masked (PRESUMED, log 8). -/
def hostIf0 : HostIf :=
  { linkUp := false, perst := false, ready := false, flrSeen := false, dmaErr := false, badIdx := false,
    boot := [], wbLo := 0, wbHi := 0, rings := [], alarmQ := queue0, logQ := queue0, traceQ := queue0, scratch := 0,
    reqPcie := reqState0, reqSvc := reqState0, reqCtl := reqState0, pend := [], mask := [], map := [], aerStatus := 0, msixMask := false,
    vecMask := 0xFFFFFFFFFFFFFFFF, msixTab := [], pba := 0, msixSent := [], waiting := [], handed := [], fetchNext := 0, readData := 0,
    alarms := [], trace := [], slots := [], orphans := [] }

/-! ### Controllers, safety, local ports, boot -/

/-- The start of boot (R409, CTL_STATUS reset 0x0000_0530). -/
def pairs0 : Pairs :=
  { p0 := { state := .starting, holdEnd := 0, fails := 0, fences := [] },
    p1 := { state := .selftest, holdEnd := 0, fails := 0, fences := [] }, lastActive := .p0, lastCause := 0, fenceSeen := false,
    stage := .none, drillHdr := none, commitSwap := false, drillStart := 0, drillMicros := 0, startDeadline := none,
    failCount := 0, drills := 0, failovers := 0, fenceStamp := 0, fencedAt := 0, ckptNo := 0, slotA := none, slotB := none,
    toSlotB := false, staging := [], waitingEvents := [] }

def safety0 : Safety :=
  { safe := false, first := 0, seen := [], present := [], stamp := 0, enteredAt := 0, closeDue := false, closed := false,
    leaveHdr := none, xcheck := false, xcheckRun := 0, suppliesOut := [], sramSeen := false, hubTemp := 0, hubHot := false,
    heartbeat := 0, clockLost := [], xcheckAt := 0 }

def fpRun0 : FpRun :=
  { running := false, entries := [], pos := 0, slotStart := 0, attempts := 0, sent := false, reqEnd := 0, done := false, result := none
    last := 7, exc := 0, de := false, busyN := 0, frameN := 0, badCycles := 0 }

def partnerRun0 : PartnerRun := { fails := 0, down := false, firstFail := 0, lastStatus := 0, lastExc := 0 }

def valRun0 : ValRun :=
  { on := false, tripped := false, holdEnd := none, word := none, failWord := false, atFail := false, staleAt := none, start := 0
    period := 0, high := 0, blind := false, openLoad := false, stuckOn := false
    switched := 0, openAt := 0, stuckAt := 0 }

/-- The octal SPI master before the board table is applied: 100 MHz and the defaults of R443 and R445 (R487). -/
def ospi0 : Ospi := { div := 4, tap := 0, opcode := 0xEE, dummies := 20, tCss := 2, tCsh := 2, tCsd := 4, freeAt := 0, command := [] }

/-- The local ports after reset: ALARM_N asserted (R462), pins low and RESERVE_PWR not asserted (DESIGN CHOICE, log 10). -/
def local0 : Local :=
  { fp := [], partners := [], val := [], valSet := [], gpio := 0, syncIn := false, pps := false, ppsFall := 0, reserve := false, spimRdy := false, alarmN := true,
    svcDiscard := false, svcViolations := 0, svcDiscards := 0, svcFrames := 0, ospi := ospi0, ospiTimeouts := 0, ospiWriteErrors := 0,
    ospiLine := [], svcOut := [] }

/-- The board maker's flash (R521): slot A CONFIRMED and preferred, slot B EMPTY, locks off. -/
def bootBlock0 : BootBlock :=
  { slotA := 3, slotB := 0, preferB := false, bootedA := false, bootedB := false, lock := false, key := 0, capoGuard := false,
    minSvn := Config.factorySvn % 256, writes := 0 }

/-- What stands where neither copy of the boot control block is whole: no slot, no lock, no guard (R521; DESIGN CHOICE, log 34). -/
def blankBlock : BootBlock :=
  { slotA := 0, slotB := 0, preferB := false, bootedA := false, bootedB := false, lock := false, key := 0, capoGuard := false, minSvn := 0
    writes := 0 }

def boot0 : Boot :=
  { flash := [], bcb := bootBlock0, bcbOld := bootBlock0, running := 0, fw := 0, jorvaHi := 4, feIf := 0, ckptFmt := 0, recovery := false, inReset := false, up := false,
    booting := none, resetAt := none, resetDue := false, session := none, ops := [], commit := none, trialFrom := none, trialOpen := false }

end Sys2Proof.Machine
end

