-- ==== Sys2Proof/Machine/State.lean ====
section
/-! DEFINITION. The state of the NVH-384, the reasons a step can stop, and the machine right after reset. -/

namespace Sys2Proof.Machine

/-- Reasons for a fault: none. Every fault of the manual (a safe-state cause, a fence, an isolated die, a refused
command) is an effect on the state, and no command of the table is without an effect. -/
inductive Fault where
  deriving DecidableEq, Repr

/-- Reasons for a refusal. -/
inductive Refusal where
  /-- raised by an arm of `exec` whose command has no meaning yet; safe, since nothing is claimed of it -/
  | notModelled (mnemonic : String)
  deriving DecidableEq, Repr

/-- The hub. `pending` is the queue of commands waiting, first in first out; `fresh` counts the free values used and
`sent` lists what has left a ring port: these three are the model's own (DESIGN CHOICE, logs 1 to 3). -/
structure State where
  time : TimeUnit
  ptp : Ptp
  cfg : Settings
  live : Settings
  fret : FretMachine
  fe : FrontEnds
  streams : Table StreamCtx
  hist : History
  dram : Dram
  trig : Triggers
  red : Reduction
  ring : Ring
  lanes : Table Lane
  host : HostIf
  pairs : Pairs
  safety : Safety
  loc : Local
  boot : Boot
  fresh : Nat
  sent : List (Port × WireFrame)
  pending : List Instr
  deriving DecidableEq, Repr

/-- The machine right after reset: time 0 at the nominal increment, P0 starting and P1 in self-test, every setting at
its default, nothing gathered, no command waiting. -/
def State.reset : State :=
  { time := time0, ptp := ptp0, cfg := settings0, live := settings0, fret := fretMachine0, fe := frontEnds0, streams := [],
    hist := history0, dram := dram0, trig := triggers0, red := reduction0, ring := ring0, lanes := [], host := hostIf0,
    pairs := pairs0, safety := safety0, loc := local0, boot := boot0, fresh := 0, sent := [], pending := [] }

end Sys2Proof.Machine
end

