-- ==== Sys2Proof/Machine/Operands.lean ====
section
/-! DEFINITION. The forms operands and values take: little-endian fields, channel codes, masks, short stamps, sample
formats, and the checks over bytes. -/

namespace Sys2Proof.Machine

/-! ### Numbers and bytes -/

/-- The `n` low bytes of a number, little-endian (R201, R390). -/
def leBytes : Nat → Nat → List Byte
  | 0, _ => []
  | n + 1, v => BitVec.ofNat 8 v :: leBytes n (v / 256)

/-- A signed number in `n` bytes, two's complement (R390). -/
def leSigned (n : Nat) (v : Int) : List Byte := leBytes n (v % (256 ^ n : Int)).toNat

/-- The number that little-endian bytes hold. -/
def ofLe : List Byte → Nat
  | [] => 0
  | b :: bs => b.toNat + 256 * ofLe bs

/-- Bytes `i` to `i + n - 1` of a list, read as a little-endian number. -/
def fieldAt (bs : List Byte) (i n : Nat) : Nat := ofLe ((bs.drop i).take n)

/-- A list of bytes made `n` long: cut, or filled with zeros. -/
def padTo (n : Nat) (bs : List Byte) : List Byte := bs.take n ++ List.replicate (n - bs.length) 0

/-- Bit `i` of a number. -/
def bitOf (v i : Nat) : Bool := decide (v / 2 ^ i % 2 = 1)

/-- One or zero. -/
def b2n (b : Bool) : Nat := if b then 1 else 0

/-- A number with bit `i` set. -/
def setBit (v i : Nat) : Nat := if bitOf v i then v else v + 2 ^ i

/-- A number with bit `i` cleared. -/
def clearBit (v i : Nat) : Nat := if bitOf v i then v - 2 ^ i else v

/-- A mask with a bit for each listed number (R390). -/
def maskOf (ns : List Nat) : Nat := ns.foldl setBit 0

/-- The numbers below `n` whose bits a mask holds. -/
def bitsOf (n v : Nat) : List Nat := (List.range n).filter (bitOf v)

/-- An unsigned `n`-bit number read as two's complement. -/
def asSigned (n v : Nat) : Int := if v % 2 ^ n < 2 ^ (n - 1) then (v % 2 ^ n : Nat) else ((v % 2 ^ n : Nat) : Int) - 2 ^ n

/-- A value clipped to a range. -/
def clip (lo hi v : Int) : Int := if v < lo then lo else if hi < v then hi else v

/-- The whole number nearest to p / q, halves away from zero, for q > 0. -/
def roundDiv (p : Int) (q : Nat) : Int :=
  if 0 ≤ p then ((2 * p + q) / (2 * q) : Int) else -((2 * (-p) + q) / (2 * q) : Int)

/-- Sum of a count over a list. -/
def sumOf {α : Type} (f : α → Nat) (l : List α) : Nat := l.foldl (fun a x => a + f x) 0

/-- Greatest value over a list. -/
def maxOf {α : Type} (f : α → Nat) (l : List α) : Nat := l.foldl (fun a x => max a (f x)) 0

/-- ⌈a / b⌉. -/
def ceilDiv (a b : Nat) : Nat := (a + b - 1) / b

/-- A count that stops at its greatest value. -/
def satAdd (bound a b : Nat) : Nat := min bound (a + b)

/-- Remove the repeats of a list, keeping first occurrences. -/
def distinct (ns : List Nat) : List Nat := ns.foldl (fun acc n => if acc.contains n then acc else acc ++ [n]) []

/-- Insert a number in a rising list. -/
def insertNat (n : Nat) : List Nat → List Nat
  | [] => [n]
  | m :: ms => if n ≤ m then n :: m :: ms else m :: insertNat n ms

/-- A list of numbers in rising order. -/
def sortNats (ns : List Nat) : List Nat := ns.foldl (fun acc n => insertNat n acc) []

/-- Element `i` of a list of numbers, or 0. -/
def natAt (ns : List Nat) (i : Nat) : Nat := (ns[i]?).getD 0

/-- Element `i` of a list of integers, or 0. -/
def intAt (ns : List Int) (i : Nat) : Int := (ns[i]?).getD 0

/-! ### Checks -/

/-- One byte into a reflected CRC-32C register (R19). -/
def crc32cByte (crc : Word) (b : Byte) : Word :=
  (List.range 8).foldl (fun c _ => if c.getLsbD 0 then (c >>> 1) ^^^ 0x82F63B78#32 else c >>> 1) (crc ^^^ b.setWidth 32)

/-- CRC-32C of bytes (R19). -/
def crc32c (bs : List Byte) : Word := bs.foldl crc32cByte 0xFFFFFFFF#32 ^^^ 0xFFFFFFFF#32

/-- One byte into the CRC-16 of R206. -/
def crc16Byte (crc : BitVec 16) (b : Byte) : BitVec 16 :=
  (List.range 8).foldl (fun c _ => if c.getLsbD 15 then (c <<< 1) ^^^ 0x1021#16 else c <<< 1) (crc ^^^ (b.setWidth 16 <<< 8))

/-- CRC-16 of bytes (R206). -/
def crc16 (bs : List Byte) : BitVec 16 := bs.foldl crc16Byte 0xFFFF#16

/-! ### Channels -/

/-- The CHAN encoding of R235. -/
def chanCode (c : Chan) : Nat :=
  (match c.kind with | .dynamic => 0 | .scanned => 0x4000 | .polled => 0x8000 | .gpio => 0xC000) + c.num

/-- How many channels of a kind the hub has (R37, R235). -/
def chanCount : ChanKind → Nat
  | .dynamic => 128 | .scanned => 256 | .polled => 2048 | .gpio => 16

/-- The channel exists (R37). -/
def chanOk (c : Chan) : Bool := decide (c.num < chanCount c.kind)

/-- Bank and post-filter number of a dynamic or scanned channel: scanned channels follow the dynamic ones. -/
def bankNo (c : Chan) : Nat := if c.kind = .dynamic then c.num else 128 + c.num

/-- The die of a dynamic channel, a spare (128 to 131) or a course (R17). -/
def dieOfSlice (n : Nat) : Nat := if n < 128 then n / 32 else n - 128
def dieOfCourse (c : Nat) : Nat := c / 8
def dieOfRail (e : Nat) : Nat := e / 4

/-! ### Stamps -/

/-- The short stamp of a time in ns (R43). -/
def stampOf (ns : Nat) : Nat := ns % 4294967296

/-- Signed difference of two short stamps (R43). -/
def stampDiff (a b : Nat) : Int := asSigned 32 (a + 4294967296 - b % 4294967296)

/-- The instant a TARGET names, in ns: the one of its short stamp within 2^31 ns of now (R390). -/
def targetNs (now target : Nat) : Int := (now : Int) + stampDiff target (stampOf now)

/-! ### Sample formats -/

/-- The 24-bit field of a two's-complement value. -/
def field24 (v : Int) : Nat := (v % 16777216).toNat

end Sys2Proof.Machine
end

