-- ==== Sys2Proof/Machine/Flags.lean ====
section
/-! DEFINITION. Tag bits of sample words (R200) and flag bits of record headers (R205). -/

namespace Sys2Proof.Machine

/-! ### Tags (R200) -/

def tagValid : Nat := 0
def tagSettling : Nat := 1
def tagOpenWire : Nat := 2
def tagOverRange : Nat := 3
def tagExc : Nat := 4
def tagSpare : Nat := 5
def tagXfade : Nat := 6
def tagReplayed : Nat := 7

/-- A tag byte from its bits. -/
def mkTag (valid settling open_ overRange exc spare xfade : Bool) : Nat :=
  b2n valid + 2 * b2n settling + 4 * b2n open_ + 8 * b2n overRange + 16 * b2n exc + 32 * b2n spare + 64 * b2n xfade

/-- VALID cleared in a tag (R200). -/
def invalid (tags : Nat) : Nat := clearBit tags tagValid

/-- A sample word from its 24-bit field and its tag, left- or right-aligned (R201). -/
def sampleWord (right : Bool) (field tags : Nat) : Nat :=
  if right then tags % 256 * 16777216 + field % 16777216 else field % 16777216 * 256 + tags % 256

/-! ### Header flags (R205) -/

def fCompressed : Nat := 0
def fReplayed : Nat := 1
def fTimeUncertain : Nat := 2
def fStart : Nat := 3
def fUnseq : Nat := 4
def fRightAlign : Nat := 5
def fStepShort : Nat := 6
def fChainFirst : Nat := 7
def fSafe : Nat := 8

/-- Set or clear a bit. -/
def putBit (v i : Nat) (b : Bool) : Nat := if b then setBit v i else clearBit v i

/-! ### Statuses (R393) -/

def stOk : Nat := 0x00
def stBusy : Nat := 0x01
def stRefused : Nat := 0x02
def stBadParam : Nat := 0x03
def stQuota : Nat := 0x04
def stAborted : Nat := 0x06
def stNotFound : Nat := 0x07
def stVersion : Nat := 0x08
def stBudget : Nat := 0x09
def stDramUe : Nat := 0x0A
def stTimeout : Nat := 0x0B

/-! ### Stream types (R204) -/

def tySample : Nat := 0x01
def tyScan : Nat := 0x02
def tyPolled : Nat := 0x03
def tyStats : Nat := 0x10
def tyRain : Nat := 0x11
def tySpec : Nat := 0x12
def tyCapHeader : Nat := 0x20
def tyCapData : Nat := 0x21
def tyEvent : Nat := 0x30
def tyEpoch : Nat := 0x31
def tyLost : Nat := 0x32

end Sys2Proof.Machine
end

