-- ==== Sys2Proof/Machine/Ops.lean ====
section
/-! DEFINITION. The operations every family of commands shares: passing time, free values, event sources, entries of the
hub-held rings, events and alarms, ring indices, frames to the ring, and answering a command. -/

namespace Sys2Proof.Machine

/-! ### Time -/

/-- Hub time in ns (R43). -/
def nowNs (s : State) : Nat := s.time.half / 2

/-- Short stamp of now (R43). -/
def nowStamp (s : State) : Nat := stampOf (nowNs s)

/-- P_C in CCLK (R75). -/
def fretCclk (c : Settings) : Nat := 2 * c.period / 5

/-- The fret period in effect, in half ns. -/
def period2 (s : State) : Nat := 2 * s.live.period

/-- Large steps before the present time: one taken counts from the moment of the step, though its boundary is still to come (R299). -/
def eraNow (s : State) : Nat := s.hist.era + b2n s.fret.regrid

/-- The last edge of MCLK at or before a CCLK count, and the changed periods still to come: each is taken in turn, and MCLK is CCLK / 40
after them (R50, R53). -/
def mclkRun (now : Nat) : Nat → List Nat → Nat × List Nat
  | e, [] => (e + (now - e) / 40 * 40, [])
  | e, p :: ps => if e + p ≤ now then mclkRun now (e + p) ps else (e, p :: ps)

/-- `n` CCLK pass: the counter advances 2.5 ns on each, and MCLK with them (R42, R50). -/
def passCclk (n : Nat) (s : State) : State :=
  let m := mclkRun (s.time.cclk + n) s.time.mclkEdge s.time.walk
  { s with time.half := s.time.half + 5 * n, time.cclk := s.time.cclk + n, time.mclkEdge := m.1, time.walk := m.2 }

/-- Time passes up to an instant of hub time in half ns; an instant already past moves nothing (DESIGN CHOICE, log 1). -/
def toInstant (h : Nat) (s : State) : State := if s.time.half < h then passCclk (ceilDiv (h - s.time.half) 5) s else s

/-- Time passes up to a CCLK count (DESIGN CHOICE, log 1). -/
def toCclk (c : Nat) (s : State) : State := passCclk (c - s.time.cclk) s

/-- An instant of the old time, moved with the time by `d` half ns. -/
def moved (d : Int) (h : Nat) : Nat := ((h : Int) + d).toNat

/-- The time a large step leads to from an instant, where one is due at the next boundary (R52). -/
def largeStepAt (half : Nat) (s : State) : Option Nat :=
  match s.time.reload with
  | some t => some t
  | none => if 40 < s.time.step.natAbs then some (moved (5 * s.time.step) half) else none

/-- The time a large step leads to now, where one is due (R52). -/
def largeStepTo (s : State) : Option Nat := largeStepAt s.time.half s

/-! ### Free values (DESIGN CHOICE, log 2) -/

/-- The next free code. -/
def freshCode (s : State) : Int := Config.freeCode s.fresh

/-- The next free count. -/
def freshNat (s : State) : Nat := Config.freeNat s.fresh

/-- A free value has been used. -/
def useFree (s : State) : State := { s with fresh := s.fresh + 1 }

/-! ### The controller complex -/

/-- A pair is ACTIVE (R409). -/
def pairActive (s : State) : Bool := decide (s.pairs.p0.state = .active) || decide (s.pairs.p1.state = .active)

/-- Clesin accepts and runs commands: READY, with a pair ACTIVE. -/
def clesinUp (s : State) : Bool := s.host.ready && pairActive s

/-! ### Event sources and MSI-X (R383, R384) -/

/-- Word `k` of a register array. -/
def wordAt (d : Word) (t : Table Word) (k : Nat) : Word := tget d t k

/-- The EVT_MAP field of a source (R384). -/
def evtMap (s : State) (src : Nat) : Nat := (wordAt 0 s.host.map (src / 2)).toNat / 2 ^ (16 * (src % 2)) % 65536

/-- Priority of a source's entries. -/
def srcPri (s : State) (src : Nat) : Nat := evtMap s src / 256 % 8

/-- MSI-X vector of a source. -/
def srcVector (s : State) (src : Nat) : Nat := evtMap s src % 64

/-- The source's pending bit, and its mask bit. -/
def srcPending (s : State) (src : Nat) : Bool := (wordAt 0 s.host.pend (src / 32)).getLsbD (src % 32)
def srcMasked (s : State) (src : Nat) : Bool := (wordAt 0xFFFFFFFF s.host.mask (src / 32)).getLsbD (src % 32)

/-- A message on a vector: sent, or held in the PBA while the function or the vector is masked (R384). -/
def sendMsi (v : Nat) (s : State) : State :=
  if s.host.msixMask || bitOf s.host.vecMask v then { s with host.pba := setBit s.host.pba v }
  else { s with host.msixSent := s.host.msixSent ++ [v] }

/-- Messages held in the PBA go out as the function and their vectors become unmasked (R384). -/
def releaseMsi (s : State) : State :=
  if s.host.msixMask then s
  else
    let go := (bitsOf 64 s.host.pba).filter (fun v => !bitOf s.host.vecMask v)
    { s with host.pba := go.foldl clearBit s.host.pba, host.msixSent := s.host.msixSent ++ go }

/-- A source's condition occurs: its pending bit sets, and a message goes when the bit rises unmasked (R384). -/
def setSource (src : Nat) (s : State) : State :=
  if srcPending s src then s
  else
    let t : State := { s with host.pend := tput 0 s.host.pend (src / 32) (wordAt 0 s.host.pend (src / 32) ||| (1#32 <<< (src % 32))) }
    if srcMasked t src then t else sendMsi (srcVector t src) t

/-- The event source that a code sets, or 256 where it sets none (R383, R481, DEDUCED, log 11). -/
def srcOf (code source : Nat) : Nat :=
  if code = 0x0101 ∨ code = 0x0102 then 130
  else if code = 0x0103 then 132
  else if code = 0x0104 then 134
  else if code = 0x0110 then 129
  else if code = 0x0111 then 131
  else if code = 0x0501 then 140 + source % 2
  else if code = 0x0502 ∨ code = 0x0506 then 142
  else if code = 0x0503 then 144
  else if code = 0x0504 then 146
  else if code = 0x0505 then 145
  else if code = 0x0601 then 160 + 4 * (source % 6)
  else if code = 0x0201 ∨ code = 0x0202 then 232
  else if code = 0x0203 ∨ code = 0x0204 ∨ code = 0x020A then 233
  else if code = 0x0205 then 234
  else if code = 0x0206 ∨ code = 0x0207 then 235
  else if 0x0210 ≤ code ∧ code ≤ 0x0214 then 236
  else if 0x0301 ≤ code ∧ code ≤ 0x0303 then 237
  else if code = 0x0208 then 238
  else if code = 0x0209 then 239
  else if code = 0x0401 ∨ code = 0x0402 then 240
  else if 0x0801 ≤ code ∧ code ≤ 0x0803 then 241
  else if code = 0x0701 then 242
  else if code = 0x0A01 ∨ code = 0x0A05 then 243
  else if code = 0x0A07 then 244
  else if code = 0x0903 ∨ code = 0x0904 ∨ code = 0x0906 then 245
  else if 0x0B10 ≤ code ∧ code ≤ 0x0B14 then 246
  else if code = 0x0602 ∨ code = 0x0603 then 247
  else if code = 0x0B01 then 192
  else if code = 0x0B02 then 193
  else if code = 0x0B03 then 194
  else if code = 0x0B04 then 195
  else if code = 0x0B06 then 196
  else if code = 0x0B05 then 197
  else if code = 0x0B07 then 198
  else if code = 0x0901 then 200
  else if code = 0x0902 then 201
  else if code = 0x0A02 ∨ code = 0x0A03 ∨ code = 0x0A04 then 202
  else if code = 0x0905 then 206
  else if code = 0x0A06 then 207
  else 256

/-- Set the source of a code, where it has one. -/
def setSourceOf (code source : Nat) (s : State) : State :=
  if srcOf code source < 256 then setSource (srcOf code source) s else s

/-! ### Host rings (R369 to R376) -/

/-- Ring type codes (R369). -/
def rtCommand : Nat := 1
def rtCompletion : Nat := 2
def rtRecord : Nat := 3
def rtEvent : Nat := 4
def rtAlarm : Nat := 5
def rtLog : Nat := 6
def rtTrace : Nat := 7

/-- The type has a queue in the hub (R375). -/
def hubHeld (type : Nat) : Bool := decide (rtEvent ≤ type)

/-- Ring `r`. -/
def ringAt (s : State) (r : Nat) : HostRing := tget hostRing0 s.host.rings r

/-- Put ring `r`. -/
def putRing (r : Nat) (x : HostRing) (s : State) : State := { s with host.rings := tput hostRing0 s.host.rings r x }

/-- Size in entries, or bytes of a RECORD ring. -/
def ringSize (x : HostRing) : Nat := 2 ^ x.log2Size

/-- Fill: producer less consumer, modulo 2^32 (R371). -/
def ringFill (x : HostRing) : Nat :=
  if x.type = rtCommand then (x.hostIdx + 4294967296 - x.hubIdx) % 4294967296
  else (x.hubIdx + 4294967296 - x.hostIdx) % 4294967296

/-- Free entries or bytes. -/
def ringFree (x : HostRing) : Nat := ringSize x - ringFill x

/-- The queue that serves ring `r`: its own for EVENT, the hub's for ALARM, LOG and TRACE (R375). -/
def queueOf (s : State) (x : HostRing) : Queue :=
  if x.type = rtAlarm then s.host.alarmQ else if x.type = rtLog then s.host.logQ
  else if x.type = rtTrace then s.host.traceQ else x.queue

/-- Entries waiting in a queue, its gap notice included. -/
def queueLen (q : Queue) : Nat := q.entries.length + (if q.gap.isSome then 1 else 0)

/-- The measure of R380. -/
def ringMeasure (s : State) (x : HostRing) : Nat :=
  if x.fifo then queueLen (queueOf s x) else if x.type = rtCommand then ringFree x else ringFill x

/-- A ring is configured with this type, active or stopped. -/
def ringOfType (s : State) (type : Nat) : Option Nat :=
  (s.host.rings.find? (fun e => e.2.configured && decide (e.2.type = type))).map (·.1)

/-- Signal a crossing of LEVEL and note whether the measure lies above it (R380). -/
def ringLevel (r : Nat) (s : State) : State :=
  let x := ringAt s r
  let above := x.configured && decide (x.level < ringMeasure s x)
  let t := putRing r { x with above := above } s
  if above && !x.above then setSource r t else t

/-- `RING_STAT` of a ring (14, RING_STAT_r); `replay`: a stream bound to it is in replay. -/
def ringStat (s : State) (r : Nat) : Nat :=
  let x := ringAt s r
  let replay := s.streams.any (fun e => decide (e.2.hostRing = some r) && e.2.replay)
  let waiting := x.waiting || (hubHeld x.type && decide (0 < queueLen (queueOf s x)))
  b2n x.active * 2147483648 + x.type % 8 * 268435456 + b2n x.fifo * 134217728 + b2n x.above * 67108864 +
    b2n x.flush * 33554432 + b2n x.badIdx * 16777216 + b2n replay * 8388608 + b2n waiting * 4194304 + min x.loss 65535

/-- The slot of the writeback area takes the hub index and `RING_STAT` (R372). -/
def writeSlot (r : Nat) (s : State) : State :=
  { s with host.slots := tput (0, 0) s.host.slots r ((ringAt s r).hubIdx, ringStat s r) }

/-- The hub writes `n` entries or bytes into a ring: item, index, level, slot (R371, R372, R380). -/
def ringWrite (r n : Nat) (item : RingItem) (s : State) : State :=
  let x := ringAt s r
  writeSlot r (ringLevel r
    (putRing r { x with hubIdx := (x.hubIdx + n) % 4294967296, items := x.items ++ [(n, item)] } s))

/-! ### Queues (R376, R377, R379) -/

/-- Queue sizes (R369). -/
def queueCap (type : Nat) : Nat :=
  if type = rtEvent then 256 else if type = rtLog then 1024 else 4096

/-- The gap notice after the loss of entry `e`, with number `no` where it is new (R376, R378). -/
def gapAfter (g : Option Gap) (no : Nat) (e : QEntry) : Gap :=
  match g with
  | none => { no := no, count := 1, first := e.stamp, last := e.stamp, priMask := 2 ^ (e.pri % 8) }
  | some g => { g with count := g.count + 1, last := e.stamp, priMask := setBit g.priMask (e.pri % 8) }

/-- Put an entry into a queue; at a full queue the oldest is overwritten (R376). The new queue, and entries lost. -/
def pushQueue (type : Nat) (e : QEntry) (q : Queue) : Queue × Nat :=
  let new := { e with no := q.entryNo % 65536 }
  match q.entries with
  | old :: rest =>
    if queueCap type ≤ q.entries.length then
      ({ entries := rest ++ [new], gap := some (gapAfter q.gap ((q.entryNo + 1) % 65536) old), entryNo := q.entryNo + 1 + (if q.gap.isNone then 1 else 0) }, 1)
    else ({ q with entries := q.entries ++ [new], entryNo := q.entryNo + 1 }, 0)
  | [] => ({ q with entries := [new], entryNo := q.entryNo + 1 }, 0)

/-- Count losses of a type's ring (R376). -/
def addLoss (type n : Nat) (s : State) : State :=
  if n = 0 then s
  else match ringOfType s type with
    | none => s
    | some r => putRing r { ringAt s r with loss := satAdd 65535 (ringAt s r).loss n } s

/-- Level of a FIFO ring after its queue has changed (R380). -/
def fifoLevel (type : Nat) (s : State) : State :=
  match ringOfType s type with
  | none => s
  | some r => if (ringAt s r).fifo then ringLevel r s else s

/-- Put an event into EVENT ring `r`'s own queue. -/
def pushEventRing (e : QEntry) (r : Nat) (s : State) : State :=
  let x := ringAt s r
  let q := pushQueue rtEvent e x.queue
  let t := putRing r { x with queue := q.1, loss := satAdd 65535 x.loss q.2 } s
  if x.fifo then ringLevel r t else t

/-- EVENT rings configured for a group (R375, R384). -/
def eventRings (s : State) (g : Nat) : List Nat :=
  (s.host.rings.filter (fun e => e.2.configured && decide (e.2.type = rtEvent) && bitOf e.2.groups g)).map (·.1)

/-- A queue entry with the fields every kind has. -/
def mkEntry (code source stamp count : Nat) (args : List Byte) (src pri : Nat) : QEntry :=
  { code := code, source := source, stamp := stamp, count := count, args := args, lastStamp := stamp, src := src, pri := pri,
    cleared := false, no := 0, dropped := 0, since := 0 }

/-- Raise or end an alarm in the queue: it merges with a waiting entry of its code and source (R377). -/
def pushAlarm (e : QEntry) (s : State) : State :=
  if s.host.alarmQ.entries.any (fun w => decide (w.code = e.code) && decide (w.source = e.source)) then
    { s with host.alarmQ.entries := s.host.alarmQ.entries.map (fun w =>
        if w.code = e.code ∧ w.source = e.source then
          { w with count := if e.cleared then w.count else w.count + 1, lastStamp := e.stamp, cleared := e.cleared }
        else w) }
  else
    let q := pushQueue rtAlarm e s.host.alarmQ
    fifoLevel rtAlarm (addLoss rtAlarm q.2 { s with host.alarmQ := q.1 })

/-- A LOG entry: bytes 2 to 19 and 24 to 27 as `args` (22 bytes); repeats within 1 s merge (R379). -/
def logEntry (code : Nat) (args : List Byte) (s : State) : State :=
  let same (w : QEntry) : Bool := decide (w.code = code) && decide (w.args = args) && decide (s.time.cclk < w.since + 400000000)
  if s.host.logQ.entries.any same then
    { s with host.logQ.entries := s.host.logQ.entries.map (fun w => if same w then { w with count := w.count + 1 } else w) }
  else
    let q := pushQueue rtLog { mkEntry code 0 (nowStamp s) 1 args 0 0 with since := s.time.cclk } s.host.logQ
    fifoLevel rtLog (addLoss rtLog q.2 { s with host.logQ := q.1 })

/-- A TRACE entry, under its source's rate limit (R379): bytes 8 to 23 and 28 to 31 as `args` (20 bytes). -/
def traceEntry (code source : Nat) (args : List Byte) (s : State) : State :=
  let src := tget traceSrc0 s.host.trace code
  let recent := src.recent.filter (fun c => decide (s.time.cclk < c + 400000000))
  let inMs := (recent.filter (fun c => decide (s.time.cclk < c + 400000))).length
  if 1000 ≤ recent.length ∨ 64 ≤ inMs then
    { s with host.trace := tput traceSrc0 s.host.trace code { recent := recent, dropped := src.dropped + 1 } }
  else
    let q := pushQueue rtTrace { mkEntry code source (nowStamp s) 1 args 0 0 with dropped := src.dropped } s.host.traceQ
    fifoLevel rtTrace (addLoss rtTrace q.2
      { s with host.traceQ := q.1
               host.trace := tput traceSrc0 s.host.trace code { recent := s.time.cclk :: recent, dropped := 0 } })

/-! ### Events and alarms (R228, R378, R384, R408, R421) -/

/-- Streams that take EVENT records: none before its first EPOCH has closed (R219, R228). -/
def eventStreams (s : State) : List Nat := (s.streams.filter (fun e => e.2.isOpen && e.2.events && e.2.started)).map (·.1)

/-- Codes of the events that hardware raises; the others are Clesin's (R218, R421; the split is DEDUCED, log 88). -/
def hardwareCode (code : Nat) : Bool :=
  [0x0101, 0x0102, 0x0201, 0x0202, 0x0206, 0x0208, 0x0209, 0x0301, 0x0302, 0x0303, 0x0401, 0x0402, 0x0501, 0x0602, 0x0603].contains code ||
    decide (code / 256 = 8)

/-- An event joins the streams that take it: one of hardware closes with the fret that gathers, one of Clesin's waits to be posted (R218, R421). -/
def fileEvent (e : Event) (s : State) : State :=
  let es := (eventStreams s).map (fun n => (n, e))
  if hardwareCode e.code then
    match s.fret.gather with
    | some x => { s with fret.gather := some { x with events := x.events ++ es } }
    | none => { s with fret.early := s.fret.early ++ es }
  else { s with pairs.waitingEvents := s.pairs.waitingEvents ++ es }

/-- An event with its stamp: its source, an entry in each EVENT ring of its group, and a record in each stream that takes events (R384). -/
def eventAt (code source stamp : Nat) (args : List Byte) (s : State) : State :=
  let src := srcOf code source
  let e := mkEntry code source stamp 1 args (src % 256) (srcPri s src)
  let t := (eventRings s (src / 32)).foldl (fun t r => pushEventRing e r t) (setSourceOf code source s)
  fileEvent { code := code, source := source, stamp := stamp, count := 1, args := args } t

/-- An event of now. -/
def event (code source : Nat) (args : List Byte) (s : State) : State := eventAt code source (nowStamp s) args s

/-- ALARM_N: asserted until boot completes, while an alarm is active, and in the safe state (R462). -/
def alarmPin (s : State) : State :=
  { s with loc.alarmN := !s.boot.up || !s.host.alarms.isEmpty || s.safety.safe }

/-- An alarm of a source is raised (R377, R384, R462); source 256 is none. -/
def raiseAs (src code source : Nat) (args : List Byte) (s : State) : State :=
  let t := pushAlarm (mkEntry code source (nowStamp s) 1 args (src % 256) (srcPri s src)) (if src < 256 then setSource src s else s)
  alarmPin { t with host.alarms := if t.host.alarms.contains (code, source) then t.host.alarms else t.host.alarms ++ [(code, source)] }

/-- An active alarm of a source ends: an entry with CLEARED, and no source set (R377, R384, R408). -/
def endAs (src code source : Nat) (args : List Byte) (s : State) : State :=
  if s.host.alarms.contains (code, source) then
    let e := { mkEntry code source (nowStamp s) 1 args (src % 256) (srcPri s src) with cleared := true }
    let t := pushAlarm e s
    alarmPin { t with host.alarms := t.host.alarms.filter (fun a => decide (a ≠ (code, source))) }
  else s

/-- An alarm is raised, and ends, by its code. -/
def raiseAlarm (code source : Nat) (args : List Byte) (s : State) : State := raiseAs (srcOf code source) code source args s
def endAlarm (code source : Nat) (args : List Byte) (s : State) : State := endAs (srcOf code source) code source args s

/-- An alarm whose code the manual does not give (DESIGN CHOICE, log 2). -/
def raiseUncoded (src : Nat) (s : State) : State := raiseAs (if src = 0 then 256 else src) (Config.alarmCode src) 0 [] s
def endUncoded (src : Nat) (s : State) : State := endAs (if src = 0 then 256 else src) (Config.alarmCode src) 0 [] s

/-! ### Frames to the ring (R314, R317, R321 to R323) -/

/-- Bytes of a Jorva frame with `p` payload bytes, from destination address to FCS (R317). -/
def frameBytes (p : Nat) : Nat := 40 + max p 24

/-- Egress reserve of a class in bytes (R321, R322). -/
def classReserve (s : State) (cls : Nat) : Nat :=
  if cls = 0 then 8192 else if cls = 1 then 81920 else if cls = 2 then 65536
  else if cls = 3 then 1024 * s.live.ring.reserve else 1024 * (1216 - s.live.ring.reserve)

/-- Bytes of a class waiting at an egress; a CONTROL frame held at its origin is not there yet (R321; DEDUCED, log 46). -/
def classWaiting (now : Nat) (ws : List Waiting) (cls : Nat) : Nat :=
  (ws.filter (fun w => decide (w.cls = cls) && (decide (cls ≠ 2) || decide (w.ready ≤ now)))).foldl (fun n w => n + w.bytes) 0

/-- Count a discard at a full reserve of a port and class (R323). -/
def countFull (p : Port) (cls : Nat) (s : State) : State :=
  match p with
  | .a => { s with ring.countA.classFull := tmod 0 s.ring.countA.classFull cls (· + 1) }
  | .b => { s with ring.countB.classFull := tmod 0 s.ring.countB.classFull cls (· + 1) }

/-- Put a frame at a port's egress; one that finds its reserve full is discarded, counted and alarmed (R323). -/
def egressPut (p : Port) (w : Waiting) (s : State) : State :=
  match p with
  | .a =>
    if s.ring.linkA then
      if classWaiting s.time.cclk s.ring.egressA w.cls + w.bytes ≤ classReserve s w.cls then { s with ring.egressA := s.ring.egressA ++ [w] }
      else raiseAlarm 0x0505 0 [BitVec.ofNat 8 w.cls] (countFull .a w.cls s)
    else s
  | .b =>
    if s.ring.linkB then
      if classWaiting s.time.cclk s.ring.egressB w.cls + w.bytes ≤ classReserve s w.cls then { s with ring.egressB := s.ring.egressB ++ [w] }
      else raiseAlarm 0x0505 1 [BitVec.ofNat 8 w.cls] (countFull .b w.cls s)
    else s

/-- Addresses: all hubs and one hub (R317), PTP's two (R57), and HSR supervision (R316). -/
def allAddr : Nat := 0x034A56520000
def hubAddr (hub : Nat) : Nat := 0x024A56520000 + hub
def pdelayAddr : Nat := 0x0180C200000E
def ptpAddr : Nat := 0x011B19000000
def supervisionAddr : Nat := 0x01154E000100

/-- Hubs of the topology table other than this one. -/
def presentHubs (s : State) : List Nat := (s.ring.topo.filter (fun e => e.2.present && decide (e.1 ≠ s.live.ring.hubId))).map (·.1)

/-- The lowest Jorva version that a present hub announces, or this hub's own (R340). -/
def lowestVersion (s : State) : Nat :=
  (presentHubs s).foldl (fun n h => min n (tget topoEntry0 s.ring.topo h).version) s.boot.jorvaHi

/-- KIND of a message (R318); 0 for what carries no Jorva header. -/
def kindOf (m : WireMsg) : Nat :=
  match m with
  | .record .. => 1 | .sympathetic _ => 2 | .beacon _ => 3 | .lease _ => 4 | .command .. => 5 | .completion .. => 6
  | .budget _ => 7 | .credit _ => 8 | .join _ => 9 | .leave _ => 10 | _ => 0

/-- HELD, STREAM and TAG of a message: of a RECORD its own; a COMMAND and a COMPLETION carry the descriptor's TAG (R336), other kinds a tag
of the sender's making (DESIGN CHOICE, log 2). -/
def headFields (m : WireMsg) (hsrSeq : Nat) : Bool × Nat × Nat :=
  match m with
  | .record stream seq _ _ held _ => (held, stream, seq)
  | .command _ _ tag _ _ => (false, 0, tag)
  | .completion _ c => (false, 0, c.tag)
  | _ => (false, 0, Config.messageTag hsrSeq)

/-- Bytes 0 to 13 of a Jorva header, for a hub or for all (R318). -/
def headBody (s : State) (cls : Nat) (dst : Option Nat) (frag : Nat) (last : Bool) (len : Nat) (m : WireMsg) : List Byte :=
  let f := headFields m s.ring.hsrSeq
  [BitVec.ofNat 8 (16 * lowestVersion s + cls), BitVec.ofNat 8 (kindOf m), BitVec.ofNat 8 s.live.ring.hubId,
    BitVec.ofNat 8 (match dst with | none => 64 | some h => h)] ++
    leBytes 2 frag ++ [BitVec.ofNat 8 (b2n last + 2 * b2n f.1), BitVec.ofNat 8 f.2.1] ++ leBytes 4 f.2.2 ++ leBytes 2 len

/-- A Jorva header with its JCRC (R318). -/
def headOf (s : State) (cls : Nat) (dst : Option Nat) (frag : Nat) (last : Bool) (len : Nat) (m : WireMsg) : List Byte :=
  headBody s cls dst frag last len m ++ leBytes 2 (crc16 (headBody s cls dst frag last len m)).toNat

/-- A frame this hub originates goes to both ports with the next HSR sequence number, its first byte after `delay` CCLK at the earliest
(R88, R314). -/
def sendFrame (cls bytes delay da : Nat) (head : List Byte) (msg : WireMsg) (s : State) : State :=
  let w : Waiting := { cls := cls, bytes := bytes, ready := s.time.cclk + delay, hsrSeq := s.ring.hsrSeq, da := da, head := head, msg := msg }
  let t := egressPut .b w (egressPut .a w s)
  { t with ring.hsrSeq := (s.ring.hsrSeq + 1) % 65536 }

/-- A Jorva frame with `p` payload bytes, to a hub or to all (R317, R318). -/
def sendJorva (cls p delay : Nat) (dst : Option Nat) (frag : Nat) (last : Bool) (msg : WireMsg) (s : State) : State :=
  sendFrame cls (frameBytes p) delay (match dst with | none => allAddr | some h => hubAddr h) (headOf s cls dst frag last p msg) msg s

/-- CCLK in which the allowance of CONTROL frames at their origin grows by a byte: 10 Mb/s at 25G, 4 Mb/s at 10G (R321). -/
def controlByte (s : State) : Nat := if s.live.ring.rate10G then 800 else 320

/-- When the allowance is whole again after `bytes` more, and for how long a frame is held so that no more than 16 KiB run ahead of it
(R321; that it fills so is a DESIGN CHOICE, log 46). -/
def controlWhole (bytes : Nat) (s : State) : Nat := max s.ring.controlAt s.time.cclk + bytes * controlByte s
def controlWait (bytes : Nat) (s : State) : Nat := controlWhole bytes s - (s.time.cclk + 16384 * controlByte s)

/-- A CONTROL frame of this hub with `p` payload bytes, within the limit at its origin (R321). -/
def controlFrame (p : Nat) (dst : Option Nat) (frag : Nat) (last : Bool) (msg : WireMsg) (s : State) : State :=
  sendJorva 2 p (controlWait (frameBytes p) s) dst frag last msg { s with ring.controlAt := controlWhole (frameBytes p) s }

/-- A message of class CONTROL with `p` payload bytes, to a hub or to all (R321); a longer one travels in frames of 1,472 bytes, the last
marked LAST (R319, R403; that one frame is its own last is DEDUCED, log 84). -/
def sendControl (p : Nat) (dst : Option Nat) (msg : WireMsg) (s : State) : State :=
  let k := ceilDiv p 1472
  (List.range k).foldl (fun t i => controlFrame (min 1472 (p - 1472 * i)) dst i (decide (i + 1 = k)) msg t) s

/-! ### Answering a command (R388, R392 to R394, R404) -/

def okReply : Reply := { status := 0, result := [], data := [] }
def okResult (r : List Byte) : Reply := { status := 0, result := r, data := [] }
def okData (d : List Byte) : Reply := { status := 0, result := [], data := d }
def badParam (off : Nat) : Reply := { status := stBadParam, result := leBytes 2 off, data := [] }
def busy (kind idx : Nat) : Reply := { status := stBusy, result := BitVec.ofNat 8 kind :: leBytes 2 idx, data := [] }
def refusedState (code cause : Nat) : Reply := { status := stRefused, result := [BitVec.ofNat 8 code, BitVec.ofNat 8 cause], data := [] }
def notFound : Reply := { status := stNotFound, result := [], data := [] }
def timedOut : Reply := { status := stTimeout, result := [], data := [] }
def overBudget (resource excess : Nat) : Reply :=
  { status := stBudget, result := [BitVec.ofNat 8 resource, 0, 0, 0] ++ leBytes 4 (min excess 4294967295), data := [] }
def overQuota (unit excessKib : Nat) : Reply :=
  { status := stQuota, result := [BitVec.ofNat 8 unit, 0, 0, 0] ++ leBytes 4 (min excessKib 4294967295), data := [] }
def versionBad (needed inUse : Nat) : Reply :=
  { status := stVersion, result := [BitVec.ofNat 8 needed, BitVec.ofNat 8 inUse], data := [] }

/-- BAD_PARAM at the lowest offset among the fields that break a rule (R394). -/
def firstBad (checks : List (Nat × Bool)) : Option Reply :=
  match (checks.filter (·.2)).map (·.1) with
  | [] => none
  | o :: os => some (badParam (os.foldl min o))

/-- The first answer that two checks in turn give. -/
def orElseReply (a b : Option Reply) : Option Reply := match a with | some r => some r | none => b

/-- A ring number names an active COMPLETION ring. -/
def completionRing (s : State) (r : Nat) : Bool := (ringAt s r).active && decide ((ringAt s r).type = rtCompletion)

/-- Opcodes that take IDEM: the idempotent ones of R396 to R398 and every read twin (R391). -/
def idemOp (op : Nat) : Bool :=
  bitOf op 7 || !([0x0005, 0x0101, 0x0102, 0x0209, 0x020B, 0x020D, 0x020E, 0x0301, 0x0506, 0x0604, 0x0901, 0x0902, 0x0C01, 0x0C02,
    0x0D01, 0x0D02, 0x0D03, 0x0D04].contains op)

/-- Opcodes whose data buffer holds input. -/
def takesData (op : Nat) : Bool := [0x0303, 0x0401, 0x0501, 0x0601, 0x0602, 0x0603, 0x0A02, 0x0D02].contains op

/-- A flag is set that the opcode does not use (R388). -/
def flagFault (h : CmdHdr) (op : Nat) : Bool :=
  (h.idem && !idemOp op) || (h.force && !([0x0206, 0x0207, 0x0303].contains op)) ||
  (h.parallel && !(decide (op = 0x0301))) || (h.update && !(decide (op = 0x020E)))

/-- The header checks of R388 that depend on the opcode or on the rings. -/
def headerFault (h : CmdHdr) (op : Nat) (s : State) : Option Reply :=
  firstBad [(3, flagFault h op), (8, decide (h.gateway = none) && !completionRing s h.cplRing)]

/-- The completion that answers a command (R392). -/
def completionOf (h : CmdHdr) (op : Nat) (r : Reply) (effect : Nat) (s : State) : Completion :=
  { ring := if completionRing s h.cplRing then h.cplRing else 1, tag := h.tag, opcode := op, hub := s.live.ring.hubId,
    forwarded := h.gateway.isSome, status := r.status, cmdRing := h.cmdRing, reexecuted := h.reexec || s.host.handed.any (fun e => e.reexec && decide (e.ring = h.cmdRing) && decide (e.descIdx = h.descIdx) &&
      decide (e.gateway = h.gateway)), repeated := false,
    descIdx := h.descIdx, effectFret := effect, data := r.data.take h.dataLen, result := padTo 8 r.result }

/-- What a COMPLETION frame carries of a completion. -/
def remoteOf (c : Completion) : RemoteCompletion :=
  { hub := c.hub, tag := c.tag, opcode := c.opcode, status := c.status, reexecuted := c.reexecuted, repeated := c.repeated
    effectFret := c.effectFret, result := c.result, data := c.data }

/-- What tells one command from another while it runs: its descriptor, or its gateway and tag. -/
def orphanKey (h : CmdHdr) : Nat × Nat := match h.gateway with | none => (h.cmdRing, h.descIdx) | some g => (256 + g, h.tag)

/-- A completion leaves Clesin: into the ring it names, or back to the gateway that forwarded the command, whose tag it is
kept under (R336, R374). A descriptor taken before a PCIe reset (R366), and a command that a new pair has answered (R407), get none. -/
def deliverCompletion (h : CmdHdr) (c : Completion) (s : State) : State :=
  let t := { s with host.handed := s.host.handed.filter (fun e => !(decide (e.ring = h.cmdRing) && decide (e.descIdx = h.descIdx) &&
    decide (e.gateway = h.gateway))) }
  if s.host.orphans.contains (orphanKey h) then
    { s with host.orphans := s.host.orphans.filter (fun e => decide (e ≠ orphanKey h))
             host.handed := if s.host.handed.any (fun e => e.reexec && decide (e.ring = h.cmdRing) && decide (e.descIdx = h.descIdx) &&
               decide (e.gateway = h.gateway)) then s.host.handed else t.host.handed }
  else match h.gateway with
  | some g =>
    let term := match s.ring.running.find? (fun e => decide (e.1 = g) && decide (e.2.2 = c.tag)) with
      | some e => e.2.1
      | none => s.ring.gateway.term
    let same := t.ring.tags.filter (fun e => decide (e.1 = g) && decide (e.2.1 = term))
    let u := { t with ring.tags := t.ring.tags.filter (fun e => !(decide (e.1 = g) && decide (e.2.1 = term))) ++
                        same.drop (same.length - 63) ++ [(g, term, c.tag, c)]
                      ring.running := t.ring.running.filter (fun e => decide (e ≠ (g, term, c.tag))) }
    sendControl (32 + c.data.length) (some g) (.completion g (remoteOf c)) u
  | none => { t with host.waiting := t.host.waiting ++ [c] }

/-- The LOG entry of a command refused (R379, CMD_REFUSED). -/
def logRefused (h : CmdHdr) (op : Nat) (r : Reply) (s : State) : State :=
  logEntry 0x0201 (leBytes 2 op ++ [BitVec.ofNat 8 r.status, BitVec.ofNat 8 h.cmdRing] ++ leBytes 2 h.descIdx ++ leBytes 4 h.tag ++
    [BitVec.ofNat 8 s.live.ring.hubId] ++ List.replicate 7 0 ++ (padTo 8 r.result).take 4) s

/-- Microseconds since a command was handed to Clesin; 0 for one that was not fetched from a ring. -/
def sinceHandOff (h : CmdHdr) (s : State) : Nat :=
  match s.host.handed.find? (fun e => decide (e.ring = h.cmdRing) && decide (e.descIdx = h.descIdx) && decide (e.gateway = h.gateway)) with
  | none => 0
  | some e => (s.time.cclk - e.since) / 400

/-- TRACE entry of a command handed (0) or completed (1) (R379, COMMAND). -/
def traceCommand (ring op phase status tag micros : Nat) (s : State) : State :=
  traceEntry 0x1003 ring (leBytes 2 op ++ [BitVec.ofNat 8 phase, BitVec.ofNat 8 status] ++ leBytes 4 tag ++ leBytes 4 micros ++
    List.replicate 8 0) s

/-- Complete a command with a reply and the fret at whose boundary it took effect (R392, R393). -/
def finishAt (h : CmdHdr) (op : Nat) (r : Reply) (effect : Nat) (s : State) : State :=
  let t := traceCommand h.cmdRing op 1 r.status h.tag (sinceHandOff h s) (deliverCompletion h (completionOf h op r effect s) s)
  if r.status = 0 then t else logRefused h op r t

/-- Complete a command that took effect at no boundary (EFFECT_FRET 0xFFFF_FFFF, R392). -/
def finish (h : CmdHdr) (op : Nat) (r : Reply) (s : State) : State := finishAt h op r 0xFFFFFFFF s

/-- Complete OK once the change has taken effect, at the next fret boundary (R23, R392). -/
def finishAtBoundary (h : CmdHdr) (op : Nat) (s : State) : State :=
  { s with fret.atBoundary := s.fret.atBoundary ++ [(h, op)] }

/-- The opcodes allowed in the safe state (R470). -/
def safeOp (op : Nat) : Bool :=
  bitOf op 7 || [0x0001, 0x0002, 0x0006, 0x0702, 0x0806, 0x0302, 0x020A, 0x0405, 0x0404, 0x0406, 0x0402, 0x0507, 0x0805, 0x0005,
    0x0C02].contains op

/-- Run a command: the header, the safe state and the command's own checks in turn, and its effect when none refuses it
(R16, R388, R470). Where Clesin does not run, nothing happens (DEDUCED, log 12). -/
def runCommand (h : CmdHdr) (op : Nat) (chk : State → Option Reply) (eff : State → State) (s : State) : State :=
  if clesinUp s then
    match orElseReply (headerFault h op s)
        (orElseReply (if s.safety.safe && !safeOp op then some (refusedState 8 0) else none) (chk s)) with
    | some r => finish h op r s
    | none => eff s
  else s

/-- A read twin or a command that only reads: it answers with data, given room for what the opcode needs (R388, R391). -/
def readCommand (h : CmdHdr) (op need : Nat) (chk : State → Option Reply) (data : State → List Byte) (s : State) : State :=
  runCommand h op (fun t => orElseReply (firstBad [(12, decide (h.dataLen < need))]) (chk t)) (fun t => finish h op (okData (data t)) t) s

/-- Both copies of the settings change at once (class A commands without a boundary, R23). -/
def setBoth (f : Settings → Settings) (s : State) : State := { s with cfg := f s.cfg, live := f s.live }

/-- A setting is accepted and takes effect at the next fret boundary (R23). -/
def accept (f : Settings → Settings) (s : State) : State := { s with cfg := f s.cfg }

end Sys2Proof.Machine
end

