-- ==== Sys2Proof/Machine/Compression.lean ====
section
/-! DEFINITION. The compression engine (10, R282 to R287). -/

namespace Sys2Proof.Machine

/-- Bytes taken as 32-bit little-endian words, zero-padded to a whole word (R283); `fuel` bounds the words. -/
def toWords : Nat → List Byte → List Nat
  | 0, _ => []
  | n + 1, bs => if bs.isEmpty then [] else ofLe (bs.take 4) :: toWords n (bs.drop 4)

/-- Deltas of words from the previous word (R283). -/
def deltasOf : Nat → List Nat → List Nat
  | _, [] => []
  | prev, w :: ws => (w + 4294967296 - prev) % 4294967296 :: deltasOf w ws

/-- Zig-zag of a delta read as signed (R283). -/
def zigzag (d : Nat) : Nat := if d % 4294967296 < 2147483648 then 2 * (d % 4294967296) else 2 * (4294967296 - d % 4294967296) - 1

/-- Little-endian base-128 varint of at most `fuel` bytes (R283). -/
def varint : Nat → Nat → List Byte
  | 0, _ => []
  | n + 1, v => if v < 128 then [BitVec.ofNat 8 v] else BitVec.ofNat 8 (v % 128 + 128) :: varint n (v / 128)

/-- The periods a level searches (R284). -/
def periods (level : Nat) : List Nat :=
  (List.range (if level = 1 then 1 else if level = 2 then 2 else if level = 3 then 4 else 16)).map (· + 1)

/-- Delta `k - p` of a block, from the block or from the state's deltas (newest first); none where it does not exist (R284). -/
def backDelta (ds prior : List Nat) (k p : Nat) : Option Nat :=
  if p ≤ k then ds[k - p]? else if p ≤ 4 then prior[p - k - 1]? else none

/-- Length of the run at `k` of deltas equal to those `p` back, at most `fuel` (R284). -/
def runLength (ds prior : List Nat) (p : Nat) : Nat → Nat → Nat
  | 0, _ => 0
  | fuel + 1, k =>
    match ds[k]?, backDelta ds prior k p with
    | some a, some b => if a = b then 1 + runLength ds prior p fuel (k + 1) else 0
    | _, _ => 0

/-- The best run at `k` and its period; ties keep the smaller period (R284). -/
def bestRun (level : Nat) (ds prior : List Nat) (k : Nat) : Nat × Nat :=
  (periods level).foldl (fun best p =>
    let r := runLength ds prior p 256 k
    if best.1 < r then (r, p) else best) (0, 0)

/-- LITERAL tokens of up to 128 deltas (R283, R284). -/
def literals : Nat → List Nat → List Byte
  | 0, _ => []
  | n + 1, ls =>
    if ls.isEmpty then []
    else BitVec.ofNat 8 ((ls.take 128).length - 1) :: ((ls.take 128).map (fun d => varint 5 (zigzag d))).flatten ++ literals n (ls.drop 128)

/-- Tokens from delta `k` on, with literals pending (R284). -/
def codeTokens (level : Nat) (ds prior : List Nat) : Nat → Nat → List Nat → List Byte
  | 0, _, lits => literals lits.length lits
  | fuel + 1, k, lits =>
    match ds[k]? with
    | none => literals lits.length lits
    | some d =>
      let best := bestRun level ds prior k
      if 3 ≤ best.1 then
        literals lits.length lits ++ [BitVec.ofNat 8 (0x7F + best.2), BitVec.ofNat 8 (best.1 - 1)] ++
          codeTokens level ds prior fuel (k + best.1) []
      else codeTokens level ds prior fuel (k + 1) (lits ++ [d])

/-- Code one payload under a state, and the state after it (R283 to R285). -/
def codeBlock (level : Nat) (st : Coder) (payload : List Byte) : List Byte × Coder :=
  let ws := toWords payload.length payload
  let ds := deltasOf st.lastWord ws
  (leBytes 2 payload.length ++ codeTokens level ds st.deltas ds.length 0 [],
   { lastWord := ws.getLastD st.lastWord, deltas := (ds.reverse ++ st.deltas).take 4
     words := (st.words + ws.length) % 4294967296, level := level })

/-- Code the payloads of a record's blocks in turn (R285). -/
def codeBlocks (level : Nat) : Coder → List Block → List Block × Coder
  | st, [] => ([], st)
  | st, b :: bs =>
    let c := codeBlock level st b.payload
    let rest := codeBlocks level c.2 bs
    ({ b with coded := some c.1 } :: rest.1, rest.2)

/-- The 32 bytes of a coder state (R285). -/
def coderBytes (c : Coder) : List Byte :=
  let body := leBytes 4 c.lastWord ++ leBytes 16 (c.deltas.foldr (fun d acc => d % 4294967296 + 4294967296 * acc) 0) ++
    leBytes 4 c.words ++ [BitVec.ofNat 8 c.level, BitVec.ofNat 8 c.deltas.length, 0, 0]
  body ++ leBytes 4 (crc32c body).toNat

/-- The cleared state of a level (R285). -/
def clearedCoder (level : Nat) : Coder := { lastWord := 0, deltas := [], words := 0, level := level }

end Sys2Proof.Machine
end

