-- ==== Sys2Proof/Machine/Records.lean ====
section
/-! DEFINITION. Records as bytes (08, R203 to R209, R221 to R228), their way into the rolling history (11, R293 to R299) and
to host rings and the ring (08, R222 to R226; 12, R325). -/

namespace Sys2Proof.Machine

/-! ### Bytes -/

/-- A block whose check its maker takes over the payload (R207, R209). -/
def mkBlock (kind source bflags select : Nat) (payload : List Byte) : Block :=
  { kind := kind, source := source, bflags := bflags, select := select, payload := payload, check := crc32c payload, coded := none, right := false }

/-- An offline block: no payload, and the check 0 (R208, R210). -/
def offlineBlock (kind source select : Nat) : Block :=
  { kind := kind, source := source, bflags := 0, select := select, payload := [], check := 0, coded := none, right := false }

/-- A block of sample words in their stream's alignment (R201). -/
def aligned (right : Bool) (b : Block) : Block := { b with right := right }

/-- The payload as delivered: coded where the record is compressed. -/
def wirePayload (b : Block) : List Byte := b.coded.getD b.payload

/-- Bytes with zeros up to a multiple of 4. -/
def pad4 (bs : List Byte) : List Byte := bs ++ List.replicate ((4 - bs.length % 4) % 4) 0

/-- A block's bytes (R207). -/
def blockBytes (b : Block) : List Byte :=
  [BitVec.ofNat 8 (b.kind * 16 + b.source), BitVec.ofNat 8 b.bflags] ++ leBytes 2 (wirePayload b).length ++ leBytes 4 b.select ++
    pad4 (wirePayload b) ++ leBytes 4 b.check.toNat

/-- Length of a block with a payload of `n` bytes. -/
def blockLen (n : Nat) : Nat := 12 + 4 * ceilDiv n 4

/-- LENGTH and RAW_LENGTH of a record (R203). -/
def recordLen (r : Record) : Nat := r.blocks.foldl (fun n b => n + blockLen (wirePayload b).length) 32
def recordRaw (r : Record) : Nat := r.blocks.foldl (fun n b => n + blockLen b.payload.length) 32

/-- The header's bytes 0 to 29 (R203). -/
def headerBody (r : Record) : List Byte :=
  [BitVec.ofNat 8 r.type, BitVec.ofNat 8 (64 + r.hub % 64), BitVec.ofNat 8 r.stream, BitVec.ofNat 8 r.blocks.length] ++
    leBytes 4 r.seq ++ leBytes 4 r.stamp ++ leBytes 4 r.fret ++ leBytes 4 (recordLen r) ++ leBytes 4 (recordRaw r) ++
    leBytes 2 r.flags ++ leBytes 4 r.aux

/-- A record's bytes (R203, R206). -/
def recordBytes (r : Record) : List Byte :=
  headerBody r ++ leBytes 2 (crc16 (headerBody r)).toNat ++ (r.blocks.map blockBytes).flatten

/-- REPLAYED set in each word of a payload (R223): tag bit 7, low or high byte by alignment. -/
def replayWords (right : Bool) (payload : List Byte) : List Byte :=
  ((toWords payload.length payload).map (fun w => leBytes 4 (setBit w (if right then 31 else 7)))).flatten

/-- The payload of a block with REPLAYED in each of its sample words: every word of a DYN or SCAN block, and the first of a POLL block,
whose other words are no sample words (R208, R223, R437). -/
def replayPayload (b : Block) : List Byte :=
  if b.kind = 1 ∨ b.kind = 2 then replayWords b.right b.payload
  else if b.kind = 3 then replayWords b.right (b.payload.take 4) ++ b.payload.drop 4
  else b.payload

/-- The record as delivered from the history after waiting (R222, R223). -/
def asReplayed (r : Record) : Record :=
  if r.type = tyLost then r
  else
    { r with flags := setBit r.flags fReplayed
             blocks := r.blocks.map (fun b =>
               if b.coded.isNone then { b with payload := replayPayload b } else b) }

/-! ### CONTROL payloads -/

/-- Full time in 6 bytes of seconds and 4 of nanoseconds, as commands and most payloads give it. -/
def secNs (ns : Nat) : List Byte := leBytes 6 (ns / 1000000000) ++ leBytes 4 (ns % 1000000000)

/-- The EPOCH payload (R221). -/
def epochPayload (ns cause : Nat) : List Byte :=
  leBytes 6 (ns / 1000000000) ++ [0, 0] ++ leBytes 4 (ns % 1000000000) ++ [BitVec.ofNat 8 cause, 0, 0, 0]

/-- The EVENT payload, padded to at least 12 bytes (R228). -/
def eventPayload (e : Event) : List Byte :=
  leBytes 2 e.code ++ leBytes 2 e.source ++ leBytes 4 e.stamp ++ leBytes 4 e.count ++ e.args.take 48

/-- The LOST_RANGE payload (R224). -/
def lostPayload (l : LostRange) : List Byte :=
  leBytes 4 l.firstSeq ++ leBytes 4 l.count ++ leBytes 4 l.firstFret ++ leBytes 4 l.lastFret ++
    [BitVec.ofNat 8 l.reason, BitVec.ofNat 8 l.reasons, 0, 0]

/-- Reasons of a LOST_RANGE (R224). -/
def lostOvertaken : Nat := 0x01
def lostFailover : Nat := 0x06
def lostDramUe : Nat := 0x0A
def lostSafe : Nat := 0x10
def lostMixed : Nat := 0xFF

/-- The bit of REASONS for a reason. -/
def reasonBit (r : Nat) : Nat := if r = lostOvertaken then 1 else if r = lostFailover then 2 else if r = lostDramUe then 4 else 8

/-! ### Streams -/

/-- Stream context `n`. -/
def streamAt (s : State) (n : Nat) : StreamCtx := tget streamCtx0 s.streams n

/-- Put a stream context. -/
def putStream (n : Nat) (c : StreamCtx) (s : State) : State := { s with streams := tput streamCtx0 s.streams n c }

/-- Open streams, by number. -/
def openStreams (s : State) : List Nat := (s.streams.filter (fun e => e.2.isOpen)).map (·.1)

/-- The header flags that a record of a type takes at its close (R205). -/
def closeFlags (type : Nat) (c : StreamCtx) (s : State) : Nat :=
  b2n (!s.time.locked) * 4 + b2n (!c.started) * 8 +
    b2n (c.right && decide (type ≤ tyPolled)) * 32 + b2n s.safety.safe * 256

/-- The LOST_RANGE record of a range (R224). -/
def lostRecord (n : Nat) (l : LostRange) (s : State) : Record :=
  { type := tyLost, hub := s.live.ring.hubId, stream := n, seq := l.firstSeq, stamp := l.stamp, fret := l.firstFret
    flags := b2n (!s.time.locked) * 4 + 16 + b2n (s.safety.safe || decide (l.reason = lostSafe)) * 256, aux := 0, blocks := [mkBlock 5 0 0 0 (lostPayload l)] }

/-! ### Pages of the history (R295 to R297) -/

/-- Pages of the rolling history (R293). -/
def totalPages (s : State) : Nat := (50 + 5 * s.live.mem.h) * s.dram.mib * 64 / 100

/-- A capo pins a page: it holds a slice of a spanned fret in a selected lane, of the time before or after the same large step (R297,
R299). -/
def pinnedBy (c : Capo) (p : Page) : Bool :=
  decide (p.era = c.era) && c.lanes.contains p.lane && p.frets.any (fun f => decide (c.first ≤ f) && decide (f ≤ c.last))

/-- The page is pinned by some capo. -/
def pinned (s : State) (p : Page) : Bool := s.trig.units.any (fun e => e.2.capos.any (fun c => pinnedBy c p))

/-- Hold a new loss, extending the last range or widening it as MIXED (R226). -/
def addRange (l : LostRange) (rs : List LostRange) : List LostRange :=
  match rs.reverse with
  | [] => [l]
  | last :: before =>
    if last.reason = l.reason ∧ last.firstSeq + last.count = l.firstSeq then
      before.reverse ++ [{ last with count := last.count + l.count, lastFret := l.lastFret }]
    else if rs.length < 4 then rs ++ [l]
    else
      before.reverse ++ [{ last with count := l.firstSeq + l.count - last.firstSeq, lastFret := l.lastFret, reason := lostMixed
                                     reasons := (if last.reason = lostMixed then last.reasons else reasonBit last.reason) ||| reasonBit l.reason }]

/-- The range of one lost record (R225). -/
def rangeOf (r : Record) (reason : Nat) : LostRange :=
  { firstSeq := r.seq, count := 1, firstFret := r.fret, lastFret := r.fret, reason := reason, reasons := 0, stamp := r.stamp }

/-- The overwritten records that follow one another from a number on. -/
def goneRun (seq : Nat) : List (Nat × Nat × Nat) → List (Nat × Nat × Nat)
  | [] => []
  | e :: es => if e.1 < seq then goneRun seq es else if e.1 = seq then e :: goneRun (seq + 1) es else []

/-- The one OVERTAKEN range of such a run (R225). -/
def goneRange (run : List (Nat × Nat × Nat)) : Option LostRange :=
  match run with
  | [] => none
  | e :: es => some { firstSeq := e.1, count := run.length, firstFret := e.2.1, lastFret := ((es.getLast?).getD e).2.1
                      reason := lostOvertaken, reasons := 0, stamp := e.2.2 }

/-- Overwritten records matter as long as a delivery point has not passed them. -/
def pruneGone (c : StreamCtx) : StreamCtx :=
  { c with gone := c.gone.filter (fun e => (c.hostRing.isSome && decide (c.point ≤ e.1)) || (c.ring && decide (c.ringPoint ≤ e.1))) }

/-- A run overwritten at the host delivery point is lost with OVERTAKEN, and the point moves past it (R225, R299). -/
def passGone (c : StreamCtx) : StreamCtx :=
  if c.hostRing.isSome then
    match goneRange (goneRun c.point c.gone) with
    | none => c
    | some l => { c with ranges := addRange l c.ranges, point := c.point + l.count, replay := c.replay || decide (c.type ≠ tyCapHeader) }
  else c

/-- The same at the ring delivery point of a stream whose records wait (R328). -/
def passGoneRing (c : StreamCtx) : StreamCtx :=
  if c.ring then
    match goneRange (goneRun c.ringNext c.gone) with
    | none => c
    | some l => { c with ringRanges := addRange l c.ringRanges, ringNext := c.ringNext + l.count }
  else c

/-- A record joins the overwritten, by number. -/
def insertGone (e : Nat × Nat × Nat) : List (Nat × Nat × Nat) → List (Nat × Nat × Nat)
  | [] => [e]
  | f :: fs => if e.1 < f.1 then e :: f :: fs else f :: insertGone e fs

/-- Overwriting a page takes every record with a slice in it from its stream; one that a delivery point has not passed is lost as soon
as the point comes to it (R225, R296, R299). -/
def dropPage (no : Nat) (c : StreamCtx) : StreamCtx :=
  let holds (x : Stored) : Bool := x.slices.any (fun l => decide (l.page = no))
  let d := { c with
    stored := c.stored.filter (fun x => !holds x)
    notices := c.notices.filter (fun x => !holds x)
    gone := (c.stored.filter holds).foldl (fun g x => insertGone (x.rcd.seq, x.rcd.fret, x.rcd.stamp) g) c.gone }
  pruneGone (passGoneRing (passGone d))

/-- Free a page: its records are overwritten and its slices leave the lanes (R296); TRACE PAGE_FREE (R379). -/
def freePage (p : Page) (s : State) : State :=
  let rest := s.hist.pages.filter (fun q => decide (q.no ≠ p.no))
  let oldest := match rest with | [] => 0 | q :: _ => q.first
  let t := { s with hist.pages := rest
                    hist.blocks := s.hist.blocks.filter (fun b => match b.slice with
                      | some l => decide (l.page ≠ p.no)
                      | none => decide (oldest ≤ b.fret))
                    hist.freed := if p.no < s.hist.sincePage then s.hist.freed
                                  else tmod 0 s.hist.freed p.lane (fun f => max f (p.frets.foldl max 0 + 1))
                    streams := s.streams.map (fun e => (e.1, dropPage p.no e.2)) }
  traceEntry 0x1005 p.lane (leBytes 8 p.first ++ leBytes 4 (totalPages s - t.hist.pages.length) ++ List.replicate 8 0) t

/-- The oldest page that no capo pins (R296). -/
def oldestFree (s : State) : Option Page := s.hist.pages.find? (fun p => !pinned s p)

/-- Make room for one page where all are in use (R296). -/
def makeRoom (s : State) : State :=
  if totalPages s ≤ s.hist.pages.length then
    match oldestFree s with
    | none => s
    | some p => freePage p s
  else s

/-- The page a lane's next slice of `n` bytes goes to, if its newest page takes it: none of the time before a large step (R295, R299). -/
def openPage (s : State) (lane fret era n : Nat) : Option Page :=
  match (s.hist.pages.filter (fun p => decide (p.lane = lane))).getLast? with
  | none => none
  | some p => if p.used + n + 4 ≤ 16320 ∧ p.first ≤ fret ∧ fret - p.first < 65536 ∧ p.era = era then some p else none

/-- The first frame at or after `f`, round the history, that no page holds (DESIGN CHOICE, log 21); `fuel` bounds the search. -/
def freeFrame (s : State) : Nat → Nat → Nat
  | 0, f => f
  | fuel + 1, f =>
    let g := if totalPages s ≤ f then 0 else f
    if s.hist.pages.any (fun p => decide (p.frame = g)) then freeFrame s fuel (g + 1) else g

/-- Writing bytes clears the marks of the bursts that they fill (R309). -/
def clearMarks (first stop : Nat) (s : State) : State :=
  { s with dram.poisoned := s.dram.poisoned.filter (fun a => !(decide (first ≤ a) && decide (a + 64 ≤ stop))) }

/-- The history writer's bytes, with their directory entry, of this fret and in all (R298, R300). -/
def countWritten (n : Nat) (s : State) : State :=
  { s with hist.written := s.hist.written + n + 4, hist.fretWritten := s.hist.fretWritten + n + 4 }

/-- Writing a slice and the page's directory entry number `no` clears marks: every access is a whole burst, so the burst in which the slice
begins and that of the entry are written whole with what they already held (R301, R309; DEDUCED, log 21). -/
def clearSlice (frame no addr n : Nat) (s : State) : State :=
  let entry := 16384 * frame + (16384 - 4 * no) / 64 * 64
  clearMarks entry (entry + 64) (clearMarks (addr / 64 * 64) (addr + n) s)

/-- Write a slice of `n` bytes into a lane for a fret (R295, R296): the state, and the slice; a new page is written with its header. -/
def writeSlice (lane fret era n : Nat) (s : State) : State × Slice :=
  match openPage s lane fret era n with
  | some p =>
    let addr := 16384 * p.frame + 64 + p.used - 4 * p.count
    (clearSlice p.frame (p.count + 1) addr n (countWritten n
      { s with hist.pages := s.hist.pages.map (fun q => if q.no = p.no then
                 { q with used := q.used + n + 4, count := q.count + 1, frets := if q.frets.contains fret then q.frets else q.frets ++ [fret] }
                 else q) }),
     { page := p.no, addr := addr, len := n })
  | none =>
    let t := makeRoom s
    let f := freeFrame t (t.hist.pages.length + 1) t.hist.nextFrame
    (clearSlice f 1 (16384 * f) (64 + n) (countWritten n
      { t with hist.pages := t.hist.pages ++
                 [{ no := t.hist.nextPage, frame := f, lane := lane, first := fret, used := n + 4, count := 1, frets := [fret], era := era }]
               hist.nextPage := t.hist.nextPage + 1, hist.nextFrame := f + 1 }),
     { page := t.hist.nextPage, addr := 16384 * f + 64, len := n })

/-- Lanes: dynamic and scanned blocks of each die, field ports, and the stream lane. -/
def laneDyn (k : Nat) : Nat := k
def laneScan (k : Nat) : Nat := 4 + k
def lanePort (p : Nat) : Nat := 8 + p
def laneStream : Nat := 16

/-- Write a source's history block for a fret (R295). -/
def writeLane (lane fret era : Nat) (b : Block) (s : State) : State :=
  let w := writeSlice lane fret era (blockBytes b).length s
  { w.1 with hist.blocks := w.1.hist.blocks ++ [{ lane := lane, fret := fret, era := era, slice := some w.2, block := b }] }

/-- The slices of the history blocks a record shares, given its fret. -/
def sharedSlices (s : State) (fret era : Nat) (lanes : List Nat) : List Slice :=
  (s.hist.blocks.filter (fun b => decide (b.fret = fret) && decide (b.era = era) && lanes.contains b.lane)).filterMap (·.slice)

/-- Write a record into the stream lane: whole records as one slice; data records as a header slice and one slice per block
that no history block serves (R298). `own` are the lengths of those slices beside the header. -/
def writeRecord (fret : Nat) (sizes : List Nat) (s : State) : State × List Slice :=
  sizes.foldl (fun acc n => let w := writeSlice laneStream fret acc.1.hist.era n acc.1; (w.1, acc.2 ++ [w.2])) (s, [])

/-! ### Delivery (R222, R225, R325) -/

/-- A RECORD ring that takes `len` bytes now (R373). -/
def ringTakes (s : State) (r len : Nat) : Bool :=
  (ringAt s r).active && !(ringAt s r).flush && decide ((ringAt s r).type = rtRecord) && decide (len ≤ ringFree (ringAt s r))

/-- Send the frames of a record, from fragment `i` on: each carries up to 1,472 bytes, the last sets LAST (R319). -/
def sendFrags (cls : Nat) (dst : Option Nat) (held : Bool) (delay : Nat) (r : Record) : Nat → List (List Byte) → State → State
  | _, [], s => s
  | i, b :: bs, s =>
    sendFrags cls dst held delay r (i + 1) bs
      (sendJorva cls b.length delay dst i bs.isEmpty (.record r.stream r.seq i bs.isEmpty held b) s)

/-- The pieces of a record's bytes, by its number of frames (R319). -/
def pieces (k : Nat) (bytes : List Byte) : List (List Byte) := (List.range k).map (fun i => (bytes.drop (1472 * i)).take 1472)

/-- Send a record to the ring in its class, to a hub or to all; its first byte comes 44 CCLK after its close (R88, R319, R325). -/
def sendRecord (cls : Nat) (dst : Option Nat) (held : Bool) (delay : Nat) (r : Record) (s : State) : State :=
  sendFrags cls dst held delay r 0 (pieces (ceilDiv (recordLen r) 1472) (recordBytes r)) s

/-- The stored record of a number, where the history has it: an EVENT in the staging buffer is not there yet (R421). -/
def recordAt (c : StreamCtx) (seq : Nat) : Option Stored :=
  (c.stored.find? (fun x => decide (x.rcd.seq = seq))).filter (fun x => !x.slices.isEmpty && !x.failover)

/-- Records as they close go to the host ring in order, up to one that is not in the history yet; one that finds the ring full, or
LOST_RANGEs waiting, puts the stream into replay (R222, R373). CAPTURE_DATA waits in its capo (R261). `fuel` bounds the records. -/
def hostDeliver (n : Nat) : Nat → State → State
  | 0, s => s
  | fuel + 1, s =>
    let c := streamAt s n
    match c.hostRing, recordAt c c.point with
    | some ring, some x =>
      if c.replay ∨ x.rcd.type = tyCapData then s
      else if c.ranges.isEmpty && c.safeDue.isEmpty && ringTakes s ring (recordLen x.rcd) then
        hostDeliver n fuel (putStream n { c with point := c.point + 1 } (ringWrite ring (recordLen x.rcd) (.record (recordBytes x.rcd)) s))
      else
        putStream n { c with replay := decide (c.type ≠ tyCapHeader) } (putRing ring { ringAt s ring with waiting := true } s)
    | _, _ => s

/-- Queue a record for the RETRIEVAL class, where it waits for credit (R332). -/
def queueRetrieval (dst : Nat) (held : Bool) (r : Record) (s : State) : State :=
  { s with ring.retrieval := s.ring.retrieval ++ [(dst, held, r)] }

/-- Numbers of a stream's records that wait to leave for all hubs: at an egress, or for credit. -/
def ringWaiting (n : Nat) (s : State) : List Nat :=
  ((s.ring.egressA ++ s.ring.egressB).filterMap (fun w => match w.msg with
    | .record stream seq _ _ _ _ => if stream = n ∧ w.da = allAddr then some seq else none
    | _ => none)) ++
  s.ring.retrieval.filterMap (fun q => if q.1 = 64 ∧ q.2.2.stream = n then some q.2.2.seq else none)

/-- A record has been delivered to the ring once its last fragment has left every port that is up (R325). -/
def settleRing (n : Nat) (s : State) : State :=
  let c := streamAt s n
  if c.ring then putStream n (pruneGone { c with ringPoint := (ringWaiting n s).foldl min c.ringNext }) s else s

/-- A port that is up took the whole record: all its fragments wait at its egress. -/
def tookAll (n seq : Nat) (ws : List Waiting) : Bool :=
  ws.any (fun w => match w.msg with
    | .record stream q _ last _ _ => decide (stream = n) && decide (q = seq) && last && decide (w.da = allAddr)
    | _ => false)

/-- A record goes to the ring's subscribers: class STREAM, or for a capture stream RETRIEVAL, where it waits for credit (R261, R325). -/
def sendRing (c : StreamCtx) (r : Record) (s : State) : State :=
  if c.type = tyCapHeader then queueRetrieval 64 false r s else sendRecord 3 none false 44 r s

/-- The LOST_RANGE of a run of records lost for one reason (R224, R225). -/
def runRange (r last : Record) (count reason : Nat) : LostRange :=
  { firstSeq := r.seq, count := count, firstFret := r.fret, lastFret := last.fret, reason := reason, reasons := 0, stamp := r.stamp }

/-- Stored records from a sequence number on. -/
def storedFrom (c : StreamCtx) (seq : Nat) : List Stored := c.stored.dropWhile (fun x => decide (x.rcd.seq < seq))

/-- The next thing of a stream for the ring: a LOST_RANGE in its place, or a record in the history; with the number that follows. A record that is
not in the history yet, or waits in its capo, holds up those after it. -/
def ringDue (n : Nat) (s : State) : Option (Record × Nat) :=
  let c := streamAt s n
  match c.ringSafe.find? (fun l => decide (l.firstSeq ≤ c.ringNext)) with
  | some l => some (lostRecord n l s, c.ringNext)
  | none =>
    match c.stored.find? (fun x => decide (x.rcd.seq = c.ringNext)) with
    | none => none
    | some x =>
      if x.failover then
        let run := (storedFrom c c.ringNext).takeWhile (·.failover)
        some (lostRecord n (runRange x.rcd ((run.getLast?).getD x).rcd run.length lostFailover) s, c.ringNext + run.length)
      else if x.slices.isEmpty || decide (x.rcd.type = tyCapData) then none
      else some (x.rcd, c.ringNext + 1)

/-- Records go to the ring in order. Those of a hub that is not JOINED, or is leaving, wait for the ring, those in ring hold for a subscriber (R325, R328).
One whose last fragment no port took is not delivered, and the stream holds (DESIGN CHOICE, log 89). `fuel` bounds the records. -/
def ringDeliver (n : Nat) : Nat → State → State
  | 0, s => s
  | fuel + 1, s =>
    let c := streamAt s n
    if c.ring && !c.hold && c.ringRanges.isEmpty && decide (s.ring.state = .joined) && s.ring.leaving.isEmpty then
      match ringDue n s with
      | none => s
      | some (r, next) =>
        let t := sendRing c r s
        if decide (c.type = tyCapHeader) || tookAll n r.seq t.ring.egressA || tookAll n r.seq t.ring.egressB then
          ringDeliver n fuel (settleRing n (putStream n { streamAt t n with
            ringNext := next, ringSafe := if next = c.ringNext then c.ringSafe.drop 1 else c.ringSafe } t))
        else putStream n { streamAt t n with hold := true, holders := [] } t
    else s

/-- Deliver what has closed, both ways (R81). -/
def deliver (n : Nat) (s : State) : State :=
  let k := (streamAt s n).stored.length + (streamAt s n).ringSafe.length
  ringDeliver n k (hostDeliver n k s)

/-- Keep a closed record with its pages, and deliver it both ways (R81, R299). -/
def keepAndDeliver (n : Nat) (x : Stored) (s : State) : State :=
  deliver n (putStream n { streamAt s n with stored := (streamAt s n).stored ++ [x] } s)

/-- Close a record: the next number of its stream, its flags, its coding (R203, R205, R218, R227). -/
def closeRecord (n type stamp fret flags aux : Nat) (blocks : List Block) (s : State) : Record × Coder × Bool :=
  let c := streamAt s n
  let raw : Record := { type := type, hub := s.live.ring.hubId, stream := n, seq := c.nextSeq, stamp := stamp, fret := fret
                        flags := flags + closeFlags type c s, aux := aux, blocks := blocks }
  if c.level = 0 ∨ tyCapHeader ≤ type then (raw, c.coder, false)
  else
    let k := codeBlocks c.level c.coder blocks
    let coded := { raw with blocks := k.1, flags := setBit raw.flags fCompressed }
    if recordLen coded < recordRaw coded then (coded, k.2, false) else (raw, k.2, true)

/-- Close a record of a stream, write it to the history (`shared`: lanes whose history blocks serve it; `sizes`: its own
slices) and deliver it. -/
def closeInto (n type stamp fret era flags aux : Nat) (blocks : List Block) (shared sizes : List Nat) (s : State) : State :=
  let c := streamAt s n
  let r := closeRecord n type stamp fret flags aux blocks s
  let t := putStream n { c with nextSeq := c.nextSeq + 1, started := true, coder := r.2.1
                                noGain := (c.noGain + b2n r.2.2) % 4294967296 } s
  let w := writeRecord fret (sizes ++ (if 0 < c.level then [32] else [])) t
  keepAndDeliver n { rcd := r.1, slices := sharedSlices w.1 fret era shared ++ w.2, closedAt := s.time.cclk, failover := false
                     coder := if 0 < c.level then some c.coder else none } w.1

/-- Close a whole record of one CONTROL or DERIVED kind: one slice of the stream lane (R298). -/
def closeWhole (n type stamp fret flags : Nat) (blocks : List Block) (s : State) : State :=
  closeInto n type stamp fret s.hist.era flags 0 blocks [] [blocks.foldl (fun k b => k + (blockBytes b).length) 32] s

/-- Wire bytes of a record (R319). -/
def wireBytes (b : Nat) : Nat := b + 60 * ceilDiv b 1472

/-- Wire bytes of an EVENT record. -/
def eventWire (e : Event) : Nat := wireBytes (32 + blockLen (eventPayload e).length)

/-- The record builder sends `bytes` under a ring stream's allowance: 16,000 b/s, one byte in 200,000 CCLK, and 512 bytes at once (R329;
that the allowance fills so is a DESIGN CHOICE, log 91). -/
def spendAllowance (bytes : Nat) (c : StreamCtx) (s : State) : StreamCtx :=
  { c with allowAt := max c.allowAt s.time.cclk + 200000 * bytes }
def inAllowance (bytes : Nat) (c : StreamCtx) (s : State) : Bool :=
  !c.ring || decide (max c.allowAt s.time.cclk + 200000 * bytes ≤ s.time.cclk + 102400000)

/-- Two events that merge: one code and source. -/
def sameEvent (a b : Event) : Bool := decide (a.code = b.code) && decide (a.source = b.source)

/-- An event with the count of those held that merge into it (R228, R329). -/
def mergedEvent (e : Event) (hs : List Event) : Event :=
  { e with count := (hs.filter (sameEvent e)).foldl (fun n h => satAdd 4294967295 n h.count) e.count }

/-- An event beyond the stream's allowance is held with those it merges with (R329). -/
def holdEvent (e : Event) (c : StreamCtx) : StreamCtx :=
  { c with heldEvents := c.heldEvents.filter (fun h => !sameEvent e h) ++ [mergedEvent e c.heldEvents] }

/-- The stream as an event within the allowance leaves it. -/
def takeEvent (e : Event) (s : State) (c : StreamCtx) : StreamCtx :=
  { spendAllowance (eventWire e) c s with heldEvents := c.heldEvents.filter (fun h => !sameEvent e h) }

/-- Close an EPOCH record into a stream: the coder state clears (R221, R285). -/
def closeEpoch (ns cause fret n : Nat) (s : State) : State :=
  let t := closeWhole n tyEpoch (stampOf ns) fret 0 [mkBlock 5 0 0 0 (epochPayload ns cause)] (putStream n (spendAllowance 120 (streamAt s n) s) s)
  putStream n { streamAt t n with coder := clearedCoder (streamAt t n).level } t

/-! ### The staging buffer (R421) -/

/-- An EVENT record raised by hardware closes with its fret (R218), or is held. -/
def closeEvent (n fret : Nat) (e : Event) (s : State) : State :=
  let c := streamAt s n
  if c.isOpen && c.started then
    let m := mergedEvent e c.heldEvents
    if inAllowance (eventWire m) c s then
      closeWhole n tyEvent m.stamp fret 0 [mkBlock 5 0 0 0 (eventPayload m)] (putStream n (takeEvent m s c) s)
    else putStream n (holdEvent e c) s
  else s

/-- Post the first event waiting in Clesin: its record takes its number now, or is held beyond the allowance (R218, R329, R421). -/
def postStaged (s : State) : State :=
  match s.pairs.waitingEvents with
  | [] => s
  | (n, e) :: rest =>
    if pairActive s && decide (s.pairs.staging.length < 64) then
      let c := streamAt s n
      let t := { s with pairs.waitingEvents := rest }
      if c.isOpen && c.started then
        let m := mergedEvent e c.heldEvents
        if inAllowance (eventWire m) c s then
          let r := closeRecord n tyEvent m.stamp s.fret.idx 0 0 [mkBlock 5 0 0 0 (eventPayload m)] s
          putStream n { takeEvent m s c with
              nextSeq := c.nextSeq + 1
              stored := c.stored ++ [{ rcd := r.1, slices := [], closedAt := s.time.cclk, failover := false, coder := none }] }
            { t with pairs.staging := s.pairs.staging ++ [(n, c.nextSeq)] }
        else putStream n (holdEvent e c) t
      else t
    else s

/-- Held events whose allowance has come back leave at a record close. -/
def closeHeld (fret : Nat) (s : State) (n : Nat) : State :=
  (streamAt s n).heldEvents.foldl (fun t e =>
    if inAllowance (eventWire e) (streamAt t n) t then closeEvent n fret { e with count := 0 } t else t) s

/-- Move one staged record into the history and on to its rings. -/
def moveStaged (n seq : Nat) (s : State) : State :=
  match (streamAt s n).stored.find? (fun x => decide (x.rcd.seq = seq)) with
  | none => s
  | some x =>
    let w := writeSlice laneStream x.rcd.fret s.hist.era (recordLen x.rcd) s
    let c := streamAt w.1 n
    deliver n (putStream n { c with stored := c.stored.map (fun y => if y.rcd.seq = seq then { y with slices := [w.2] } else y) } w.1)

/-- The staging buffer empties into the history at a record close (R421). -/
def moveStaging (s : State) : State :=
  s.pairs.staging.foldl (fun t e => moveStaged e.1 e.2 t) { s with pairs.staging := [] }

def execStagingEventPost (s : State) : Host.Outcome State Fault Refusal := .next (postStaged s)

end Sys2Proof.Machine
end

