-- ==== Sys2Proof/Machine/Dram.lean ====
section
/-! DEFINITION. The DRAM controller: the address map, memory log entries, poisoned bursts, scrub, parity, refresh and retraining
(11, R302 to R310). -/

namespace Sys2Proof.Machine

/-! ### Addresses (R302) -/

/-- Capacity in bytes. -/
def dramBytes (s : State) : Nat := 1048576 * s.dram.mib

/-- Widths of BG, BA, COL, RANK and ROW. -/
def bgBits (s : State) : Nat := if s.dram.x16 then 1 else 2
def rankBits (s : State) : Nat := s.dram.ranks - 1
def rowBits (s : State) : Nat := Nat.log2 (dramBytes s / 64) - (bgBits s + 2 + 7 + rankBits s)

/-- Fields in ascending order from bit 6: 0 BG, 1 BA, 2 COL, 3 RANK, 4 ROW. -/
def fieldOrder (order : Nat) : List Nat := if order = 0 then [0, 1, 2, 3, 4] else if order = 1 then [2, 0, 1, 3, 4] else [2, 4, 3, 0, 1]

/-- Width of a field. -/
def fieldBits (s : State) (f : Nat) : Nat := natAt [bgBits s, 2, 7, rankBits s, rowBits s] f

/-- The value of field `f` in the burst number `v`. -/
def fieldOf (s : State) (f : Nat) : List Nat → Nat → Nat
  | [], _ => 0
  | g :: gs, v => if g = f then v % 2 ^ fieldBits s g else fieldOf s f gs (v / 2 ^ fieldBits s g)
def dramField (s : State) (f addr : Nat) : Nat := fieldOf s f (fieldOrder s.dram.order) (addr / 64)

/-! ### Log entries (R310) -/

/-- Bytes 2 to 19 and 24 to 27 of a memory entry. -/
def memArgs (s : State) (req lane addr syndrome : Nat) : List Byte :=
  [BitVec.ofNat 8 req, BitVec.ofNat 8 (dramField s 3 addr), BitVec.ofNat 8 (16 * dramField s 0 addr + dramField s 1 addr),
    BitVec.ofNat 8 lane] ++ leBytes 2 (8 * dramField s 2 addr) ++ leBytes 4 (dramField s 4 addr % 262144) ++ leBytes 8 addr ++
    [BitVec.ofNat 8 syndrome, 0, 0, 0]

/-- A correctable error is logged; repeats at one address within 1 s merge while the entry waits (R310). -/
def logCorrected (req addr syndrome : Nat) (s : State) : State :=
  let same (w : QEntry) : Bool := decide (w.code = 0x0101) && decide (fieldAt w.args 10 8 = addr) &&
    decide (s.time.cclk < w.since + 400000000)
  if s.host.logQ.entries.any same then
    { s with host.logQ.entries := s.host.logQ.entries.map (fun w => if same w then { w with count := satAdd 4294967295 w.count 1 } else w) }
  else logEntry 0x0101 (memArgs s req 0xFF addr syndrome) s

/-! ### Poisoned bursts (R309) -/

/-- A burst joins the list of 256; a full list raises its alarm (R309). -/
def markPoisoned (addr : Nat) (s : State) : State :=
  let a := addr / 64 * 64
  if s.dram.poisoned.contains a ∨ 256 ≤ s.dram.poisoned.length then s
  else
    let t := { s with dram.poisoned := insertNat a s.dram.poisoned }
    if 256 ≤ t.dram.poisoned.length then raiseUncoded 205 t else t

/-- DRAM_UE_DETECT: the first read of an uncorrectable burst marks and logs it; later ones do neither (R309, R310). -/
def ueRead (req addr syndrome : Nat) (s : State) : State :=
  if s.dram.poisoned.contains (addr / 64 * 64) then s
  else markPoisoned addr (setSource 204 (logEntry 0x0102 (memArgs s req 0xFF (addr / 64 * 64) syndrome) s))

/-- The alarm of a full list ends once entries have been cleared. -/
def poisonRoom (s : State) : State := if s.dram.poisoned.length < 256 then endUncoded 205 s else s

/-- A poisoned burst lies in the slice, or in its page's header or directory (R309). -/
def sliceBad (s : State) (l : Slice) : Bool :=
  let frame := l.addr / 16384
  let dir := match s.hist.pages.find? (fun p => decide (p.no = l.page)) with | none => 16384 | some p => 16384 - 4 * p.count
  s.dram.poisoned.any (fun a =>
    (decide (l.addr < a + 64) && decide (a < l.addr + l.len)) ||
      (decide (a / 16384 = frame) && (decide (a % 16384 = 0) || decide (dir < a % 16384 + 64))))

/-- A record cannot be read: a slice of it is bad. -/
def storedBad (s : State) (x : Stored) : Bool := x.slices.any (sliceBad s)

/-! ### Corrected errors (R306) -/

/-- Correctable errors of the last 24 h; above 1,000 the alarm holds (R306). -/
def countCorrected (s : State) : State :=
  let ls := (s.dram.ceLog.filter (fun c => decide (s.time.cclk < c + 34560000000000))) ++ [s.time.cclk]
  let t := { s with dram.ceLog := ls }
  if 1000 < ls.length then
    (if s.dram.ceAlarm then t else raiseUncoded 203 { t with dram.ceAlarm := true })
  else if s.dram.ceAlarm then endUncoded 203 { t with dram.ceAlarm := false } else t

/-- An address with a correctable error on three consecutive passes raises the event (R306). -/
def countPasses (addr : Nat) (s : State) : State :=
  let n := match s.dram.ceRuns.find? (fun e => decide (e.1 = addr)) with
    | some e => if e.2.2 + 1 = s.dram.pass then e.2.1 + 1 else 1
    | none => 1
  let t := { s with dram.ceRuns := s.dram.ceRuns.filter (fun e => decide (e.1 ≠ addr)) ++ [(addr, n, s.dram.pass)] }
  if n = 3 then event 0x0603 0 (leBytes 8 addr) t else t

/-- A single-bit error is corrected: it is counted and logged (R306). -/
def correctedRead (req addr syndrome : Nat) (s : State) : State := countCorrected (logCorrected req addr syndrome s)

/-! ### Reads of the history (R300, R306, R309) -/

/-- Bytes that reads of the history may still take in this fret: half a fret of DRAM time, less what has been written and read (R300). -/
def readShare (s : State) : Nat := fretCclk s.live * 32 * s.dram.mts / 6400 - s.hist.fretWritten - s.hist.fretRead

/-- A read waits for the end of a retraining pause (R305). -/
def afterPause (s : State) : State := if s.time.cclk < s.dram.pauseEnd then toCclk s.dram.pauseEnd s else s

/-- A requester reads on at `bytes` of a stream's next record: whether they are all read, or wait for the next fret's share (R300). -/
def readStep (n bytes : Nat) (s : State) : State × Bool :=
  let sofar := tget 0 s.hist.readSoFar n
  if bytes ≤ sofar + readShare s then
    ({ s with hist.fretRead := s.hist.fretRead + (bytes - sofar), hist.readSoFar := tdrop s.hist.readSoFar n }, true)
  else ({ s with hist.fretRead := s.hist.fretRead + readShare s, hist.readSoFar := tput 0 s.hist.readSoFar n (sofar + readShare s) }, false)

/-- Bytes of a record's slices. -/
def sliceBytes (x : Stored) : Nat := sumOf (·.len) x.slices

/-- Addresses of the bursts that a read of a record takes, slice by slice. -/
def readBursts (x : Stored) : List Nat :=
  (x.slices.map (fun l => (List.range ((l.addr + l.len + 63) / 64 - l.addr / 64)).map (fun i => (l.addr / 64 + i) * 64))).flatten

/-- What the bursts of a record's read give: a corrected one is counted and logged, an uncorrectable one marked and logged; the state, and
whether the record cannot be read (R306, R309). -/
def readErrors (req : Nat) (x : Stored) (es : List ReadError) (s : State) : State × Bool :=
  es.foldl (fun acc e =>
    match (readBursts x)[e.burst]?, e.found with
    | some a, .corrected syn => (correctedRead req a syn acc.1, acc.2)
    | some a, .uncorrectable syn => (ueRead req a syn acc.1, true)
    | _, _ => acc) (s, false)

/-! ### Scrub (R306, R308) -/

/-- CCLK between scrub reads: every burst once in 24 h (R308; the floor is taken in CCLK, DESIGN CHOICE, log 21). -/
def scrubCclk (s : State) : Nat := 86400 * 400000000 * 64 / dramBytes s

/-- SCRUB_READ: the next burst in ascending order, when it is due; scrub stands still while the list is full (R308, R309). Its rate is
guaranteed whatever the share (R300). -/
def onScrub (found : BurstOutcome) (s0 : State) : State :=
  if s0.dram.trained && decide (s0.dram.poisoned.length < 256) then
    let due := max s0.dram.scrubDue s0.dram.pauseEnd
    let s1 := toCclk due s0
    let s := { s1 with dram.scrubDue := s0.dram.scrubDue + scrubCclk s0, hist.fretRead := s1.hist.fretRead + 64 }
    let a := s.dram.scrub
    let t := if dramBytes s ≤ a + 64 then { s with dram.scrub := 0, dram.pass := s.dram.pass + 1 } else { s with dram.scrub := a + 64 }
    if s.dram.poisoned.contains a then t
    else
      match found with
      | .clean => { t with dram.ceRuns := t.dram.ceRuns.filter (fun e => decide (e.1 ≠ a)) }
      | .corrected syn => { countPasses a { correctedRead 7 a syn t with dram.pass := s.dram.pass } with dram.pass := t.dram.pass }
      | .uncorrectable syn => ueRead 7 a syn t
  else s0

def execScrubRead (found : BurstOutcome) (s : State) : Host.Outcome State Fault Refusal := .next (onScrub found s)

/-! ### Parity (R307) -/

/-- DRAM_PARITY_ERROR: retried up to three times; one that still fails is uncorrectable and raises an alarm (R307, R309). -/
def onParity (addr req failures : Nat) (s : State) : State :=
  let a := addr / 64 * 64
  if failures < 3 then logEntry 0x0103 (memArgs s req 0xFF a 0) s
  else raiseUncoded 204 (markPoisoned a (if s.dram.poisoned.contains a then s else logEntry 0x0104 (memArgs s req 0xFF a 0) s))

def execDramParityError (addr requester failures : Nat) (s : State) : Host.Outcome State Fault Refusal :=
  .next (onParity addr requester failures s)

/-! ### Refresh and retraining (R304, R305) -/

/-- CCLK between refreshes: tREFI, halved above 85 °C; two ranks are tREFI / 2 apart. -/
def refreshCclk (s : State) : Nat := (if s.dram.hot then 1560 else 3120) / max 1 s.dram.ranks

/-- Refreshes made at once: one, and all that would otherwise be postponed by more than 8 intervals (R304). -/
def refreshesNow (s : State) : Nat := max 1 ((s.time.cclk - s.dram.lastRefresh) / refreshCclk s - 8)

/-- REFRESH_DUE: a postponed refresh is made up, since the intervals count from one another. -/
def onRefresh (s : State) : State :=
  if s.dram.trained then
    let t := toCclk (s.dram.lastRefresh + refreshCclk s) s
    let k := refreshesNow t
    { t with dram.refreshes := t.dram.refreshes + k, dram.lastRefresh := s.dram.lastRefresh + k * refreshCclk s }
  else s

def execRefreshDue (s : State) : Host.Outcome State Fault Refusal := .next (onRefresh s)

/-- The pause of a whole second, in half ns: 256 CCLK after the first fret boundary at or after it (R305). -/
def pauseOf (s : State) (sec : Nat) : Nat := period2 s * ceilDiv (2000000000 * sec) (period2 s) + 1280

/-- The next pause after now. -/
def nextPause (s : State) : Nat :=
  let k := s.time.half / 2000000000
  if s.time.half < pauseOf s k then pauseOf s k else pauseOf s (k + 1)

/-- RETRAIN_PAUSE: the temperature is read, one lane's delay of one rank and direction moves by at most a tap, and an edge within 4 taps
raises the event (R305); lanes, then directions, then ranks take turns, and a pause takes its 800 CCLK (DESIGN CHOICE, log 21). -/
def onRetrain (above85 : Bool) (move : Int) (edgeNear : Bool) (s : State) : State :=
  if s.dram.trained then
    let t := toInstant (nextPause s) s
    let i := t.dram.retrainNext % (18 * max 1 t.dram.ranks)
    let u := { t with dram.hot := above85, dram.retrainNext := t.dram.retrainNext + 1, dram.pauseEnd := t.time.cclk + 800
                      dram.taps := tmod 0 t.dram.taps i (fun v => v + max (-1) (min 1 move)) }
    if edgeNear then
      event 0x0602 (i % 9) [BitVec.ofNat 8 (i / 18), BitVec.ofNat 8 (i / 9 % 2)]
        (logEntry 0x0105 ([8, BitVec.ofNat 8 (i / 18), 0, BitVec.ofNat 8 (i % 9)] ++ List.replicate 18 0) u)
    else u
  else s

def execRetrainPause (above85 : Bool) (move : Int) (edgeNear : Bool) (s : State) : Host.Outcome State Fault Refusal :=
  .next (onRetrain above85 move edgeNear s)

/-! ### MEM_STATUS (R397) -/

def memStatusBytes (s : State) : List Byte :=
  [BitVec.ofNat 8 (Config.trainingCode (if s.dram.trained then 1 else if s.dram.failed then 2 else 0)), BitVec.ofNat 8 s.dram.ranks] ++
    leBytes 2 s.dram.mts ++ leBytes 4 s.dram.mib ++
    leBytes 4 (s.dram.ceLog.filter (fun c => decide (s.time.cclk < c + 34560000000000))).length ++ leBytes 2 s.dram.poisoned.length ++
    [BitVec.ofNat 8 s.dram.order, 0] ++ leBytes 8 s.dram.scrub ++ List.replicate 8 0

def execMemStatus (h : CmdHdr) (s : State) : Host.Outcome State Fault Refusal :=
  .next (readCommand h 0x0702 32 (fun _ => none) memStatusBytes s)

end Sys2Proof.Machine
end

