-- ==== Sys2Proof/Machine/Notch.lean ====
section
/-! DEFINITION. Mains notches (06, R160 to R163). The coefficients, which are real numbers, are held to 128 fraction bits and
the outputs to 64; R157 asks for at least 24 (DESIGN CHOICE, log 32). -/

namespace Sys2Proof.Machine

/-- 1 in the coefficients' format. -/
def unit128 : Nat := 340282366920938463463374607431768211456

/-- π in the coefficients' format. -/
def pi128 : Nat := 1069028584064966747859680373161870783301

/-- The Taylor sum of terms t, -t x / (n (n + 1)), ... with x2 the square of the argument. -/
def cosTerms (x2 : Nat) : Nat → Nat → Nat → Bool → Int
  | 0, _, _, _ => 0
  | fuel + 1, n, t, neg =>
    (if neg then -(t : Int) else (t : Int)) + cosTerms x2 fuel (n + 2) (t * x2 / unit128 / ((n + 1) * (n + 2))) (!neg)

/-- The Taylor sum of e^-x. -/
def expTerms (x : Nat) : Nat → Nat → Nat → Bool → Int
  | 0, _, _, _ => 0
  | fuel + 1, n, t, neg =>
    (if neg then -(t : Int) else (t : Int)) + expTerms x fuel (n + 1) (t * x / unit128 / (n + 1)) (!neg)

/-- Frequencies in Hz of the notches of a setting, in series order (R160, R161). -/
def notchHz (notch : Nat) : List Nat := if notch = 1 then [50] else if notch = 2 then [60] else if notch = 3 then [50, 60] else []

/-- The width B in Hz (R160). -/
def notchWidth (width : Nat) : Nat := if width = 0 then 1 else if width = 1 then 2 else 5

/-- c of R161 at an output period in ns. -/
def notchC (hz tOut : Nat) : Int :=
  let x := 2 * pi128 * hz * tOut / 1000000000
  cosTerms (x * x / unit128) 24 0 unit128 false

/-- r of R161 at an output period in ns. -/
def notchR (b tOut : Nat) : Int := expTerms (pi128 * b * tOut / 1000000000) 32 0 unit128 false

/-- 1 - 2rc + r², with twice the fraction bits of r and c. -/
def notchDen (c r : Int) : Int := (unit128 * unit128 : Nat) - 2 * r * c + r * r

/-- The rounded sum of the notch delays in ns: τ of R162 times T_out for each notch, rounded once. -/
def notchDelay (notch width tOut : Nat) : Nat :=
  let r := notchR (notchWidth width) tOut
  let tau (hz : Nat) : Int × Int :=
    let c := notchC hz tOut
    let d := notchDen c r
    ((d - 2 * r * (r - c)) * tOut, d)
  let total := (notchHz notch).foldl (fun (a : Int × Int) hz => (a.1 * (tau hz).2 + (tau hz).1 * a.2, a.2 * (tau hz).2)) (0, 1)
  (roundDiv total.1 total.2.toNat).toNat

/-- A notch's last two inputs and outputs, as though a value had been present forever (R163). -/
def loadedNotch (x : Int) : Notch := { x1 := x, x2 := x, y1 := x, y2 := x }

/-- One step of a notch: y = k (x - 2c x₁ + x₂) + 2rc y₁ - r² y₂ with k of R161. -/
def notchStep (hz width tOut : Nat) (x : Int) (n : Notch) : Notch :=
  let c := notchC hz tOut
  let r := notchR (notchWidth width) tOut
  let u : Int := unit128
  let e := 2 * u - 2 * c
  let y := roundDiv (notchDen c r * (u * (x + n.x2) - 2 * c * n.x1) + e * (2 * r * c * n.y1 - r * r * n.y2)) (e * u * u).toNat
  { x1 := x, x2 := n.x1, y1 := y, y2 := n.y1 }

/-- The notches of a channel in series: the value out, and their memories (R161). -/
def notchSeries (width tOut : Nat) : List Nat → List Notch → Int → Int × List Notch
  | [], _, x => (x, [])
  | hz :: rest, ns, x =>
    let n := notchStep hz width tOut x (ns.headD (loadedNotch x))
    let z := notchSeries width tOut rest ns.tail n.y1
    (z.1, n :: z.2)

end Sys2Proof.Machine
end

