-- ==== Sys2Proof/Machine/Chains.lean ====
section
/-! DEFINITION. Filter chains: their rates, delays and settling (06, R156 to R166), and the sinc3 value (07, R182, R183). -/

namespace Sys2Proof.Machine

/-- OSR, M and R of a chain: the presets of R158 in table order, 7 custom (R159). -/
def chainOf (d : DynSet) : Nat × Nat × Nat :=
  if d.chain = 0 then (50, 1, 1) else if d.chain = 1 then (200, 1, 1) else if d.chain = 2 then (1000, 1, 1)
  else if d.chain = 3 then (10000, 1, 1) else if d.chain = 4 then (10000, 20, 10) else if d.chain = 5 then (1000, 167, 100)
  else if d.chain = 6 then (10000, 100, 100)
  else ((if d.osr = 0 then 50 else if d.osr = 1 then 200 else if d.osr = 2 then 1000 else 10000), d.m, d.r)

def chainOsr (d : DynSet) : Nat := (chainOf d).1
def chainM (d : DynSet) : Nat := (chainOf d).2.1
def chainR (d : DynSet) : Nat := (chainOf d).2.2

/-- Sinc3 period and output period in ns (R158). -/
def sincNs (d : DynSet) : Nat := 100 * chainOsr d
def outNs (d : DynSet) : Nat := chainR d * sincNs d

/-- K, the outputs with SETTLING after a reset (R164). -/
def chainK (d : DynSet) : Nat := ceilDiv ((chainM d + 2) * sincNs d) (outNs d) - 1

/-- Group delay in ns: 3 (OSR - 1) / 2 MCLK periods and (M - 1) / 2 sinc3 periods (R158). -/
def groupDelay (d : DynSet) : Nat := 150 * (chainOsr d - 1) + (chainM d - 1) * chainOsr d * 50

/-- The rounded sum of notch delays in ns (R162). -/
def notchDelayNs (d : DynSet) : Nat := if d.notch = 0 then 0 else notchDelay d.notch d.width (outNs d)

/-- D_total in ns (R158, R162, R166). -/
def delayTotal (d : DynSet) : Nat := groupDelay d + notchDelayNs d + 600

/-- T and P are in the relation of R79: one is a whole multiple of the other. -/
def fitsPeriod (t p : Nat) : Bool := decide (0 < t) && (decide (t % p = 0) || decide (p % t = 0))

/-- The chain's rates meet R79 at a fret period in ns: its output, and the sinc3 output that feeds a moving average. -/
def chainFits (d : DynSet) (p : Nat) : Bool :=
  fitsPeriod (outNs d) p && (decide (chainM d = 1) || fitsPeriod (sincNs d) p)

/-- A custom chain within R159 but for R79. -/
def customOk (d : DynSet) : Bool :=
  decide (1 ≤ d.m) && decide (d.m ≤ 65536) && decide (1 ≤ d.r) && decide (d.r ≤ d.m) && decide (delayTotal d ≤ 1000000000)

/-- A notch is admitted: f_out from 1 kS/s to 50 kS/s, on no preset with a moving average (R160). -/
def notchOk (d : DynSet) : Bool :=
  decide (d.notch = 0) ||
    (decide (20000 ≤ outNs d) && decide (outNs d ≤ 1000000) && !(decide (4 ≤ d.chain ∧ d.chain ≤ 6)))

/-- The fret periods of R75 in ns, and the position of one. -/
def fretPeriods : List Nat := [10000, 20000, 50000, 100000, 200000, 500000, 1000000]

/-! ### The sinc3 output (R182, R183) -/

/-- C(n, 2) for n ≥ 0, and 0 below. -/
def choose2 (n : Int) : Int := if n < 2 then 0 else n * (n - 1) / 2

/-- c_k of (1 + z⁻¹ + … + z^−(N−1))³ (R182). -/
def sincCoeff (n k : Nat) : Int :=
  choose2 ((k : Int) + 2) - 3 * choose2 ((k : Int) + 2 - n) + 3 * choose2 ((k : Int) + 2 - 2 * n)

/-- C(n, 3) for n ≥ 0, and 0 below. -/
def choose3 (n : Int) : Int := if n < 3 then 0 else n * (n - 1) * (n - 2) / 6

/-- c_0 + … + c_(k−1) (R182). -/
def sincTotal (n k : Nat) : Int :=
  choose3 ((k : Int) + 2) - 3 * choose3 ((k : Int) + 2 - n) + 3 * choose3 ((k : Int) + 2 - 2 * n) - choose3 ((k : Int) + 2 - 3 * n)

/-- The quantiser's level that a number stands for: one of −15, −13, …, 15 (R182). -/
def quantLevel (m : Int) : Int := clip (-15) 15 (2 * (m / 2) + 1)

/-- The weighted sum over the edges `k` to `count` - 1 back: levels newest first, the last one listed at every earlier edge too, so that
every edge has a level. -/
def sincSum (n count : Nat) : Nat → List Int → Int
  | k, [] => quantLevel 0 * (sincTotal n count - sincTotal n (min k count))
  | k, [m] => quantLevel m * (sincTotal n count - sincTotal n (min k count))
  | k, m :: l :: ms => if k < count then sincCoeff n k * quantLevel m + sincSum n count (k + 1) (l :: ms) else 0

/-- x_raw: the levels of the run only, at most 3N - 2 of them (R167, R182). -/
def sincRaw (n inRun : Nat) (levels : List Int) : Int :=
  roundDiv (8388608 * sincSum n (min inRun (3 * n - 2)) 0 levels) (12 * n ^ 3)

/-- Offset and gain correction at a gain index (R183). -/
def correct (f : FactorSet) (gain : Nat) (raw : Int) : Int :=
  roundDiv ((256 * raw - intAt f.offset gain) * (natAt f.gain gain : Int)) 274877906944

/-- Clip of R95 (DIFF) and R96 (SE, as signed values about half scale, DEDUCED, log 15). -/
def clipInput (se : Bool) (x : Int) : Int := if se then clip (-8388608) 8388607 x else clip (-8388607) 8388607 x

/-! ### Runs and resets (R167, R168) -/

/-- The run of a slice: a dynamic channel, or a spare at 128 + die. -/
def dynRun (s : State) (n : Nat) : DynRun := tget dynRun0 s.fe.dyn n

/-- Put a run. -/
def putDyn (n : Nat) (r : DynRun) (s : State) : State := { s with fe.dyn := tput dynRun0 s.fe.dyn n r }

/-- Settings of a dynamic channel in effect. -/
def dynLive (s : State) (n : Nat) : DynSet := tget dynSet0 s.live.dyn n

/-- Settings that a slice runs under: a spare takes those of its channel (R117). -/
def sliceSet (s : State) (n : Nat) : DynSet :=
  if n < 128 then dynLive s n else dynLive s ((tget spareRun0 s.fe.spares (n - 128)).chan)

/-- The first grid multiple of a channel's T_out at or after an instant in half ns (R167). -/
def resetBoundary (d : DynSet) (b : Nat) : Nat := 2 * outNs d * ceilDiv b (2 * outNs d)

/-- Enter the new run once the old one has delivered its last output (R167). -/
def switchRun (d : DynSet) (r : DynRun) (b : Nat) : DynRun :=
  { r with runStart := some b, set := d, outs := 0, resetAt := none, causes := 0, edges := 0, noStart := false }

/-- The run that delivers the slice's next output: the old one up to its last instant, else the new one. -/
def runNow (d : DynSet) (r : DynRun) : DynRun :=
  match r.resetAt with
  | none => r
  | some b =>
    match r.runStart with
    | none => switchRun d r b
    | some st => if st + 2 * sincNs r.set * (r.outs + 1) ≤ r.oldUntil then r else switchRun d r b

/-- When the slice's next output completes (R51): none where no run delivers. -/
def nextOutput (d : DynSet) (r : DynRun) : Option Nat :=
  let q := runNow d r
  match q.runStart with
  | none => none
  | some st => some (st + 2 * sincNs q.set * (q.outs + 1))

/-- A reset falls due at boundary `b` for a run, with causes; it merges with one still waiting (R167, R172). `until`: the
last instant of the old run. -/
def dueReset (d : DynSet) (b causes : Nat) (r : DynRun) : DynRun :=
  match r.resetAt with
  | some w => if b ≤ w then { r with causes := r.causes ||| causes } else
      { switchRun d r w with resetAt := some (resetBoundary d b), oldUntil := resetBoundary d b, causes := causes }
  | none => { r with resetAt := some (resetBoundary d b), oldUntil := resetBoundary d b, causes := causes }

/-- The run has no reset that still waits at `b`: an earlier one has been reported (R171). -/
def resetDone (b : Nat) (r : DynRun) : Bool := match r.resetAt with | none => false | some w => decide (w < b)

/-- A reset with no old run: a start word stands at the reset boundary (R168). The filters past the slice clear with the run's first
output, so that a channel served by the spare keeps its window (R156, R121). -/
def freshReset (d : DynSet) (b causes : Nat) (r : DynRun) : DynRun :=
  { r with runStart := none, set := d, outs := 0, resetAt := some (resetBoundary d b), oldUntil := 0
           causes := (if resetDone b r then 0 else r.causes) ||| causes, edges := if resetDone b r then 0 else r.edges
           noStart := false, overload := [] }

/-- The start word of a run at its reset boundary (R168). -/
def startWord (slice chan : Nat) (d : DynSet) (b : Nat) : DynOut :=
  { slice := slice, chan := chan, x := if d.se then -8388608 else 0, zero := true, tags := mkTag false true false false false false false
    done := resetBoundary d b, nth := 0, set := d }

/-- Streams whose START EPOCH no fret has yet (R219). -/
def streamsToOpen (s : State) : List Nat :=
  let taken := s.fret.closing ++ (match s.fret.gather with | none => [] | some b => [b])
  (openStreams s).filter (fun n => !(streamAt s n).started && !taken.any (fun b => b.opened.contains n))

/-- An empty buffer for a fret. -/
def newBuf (idx start : Nat) (s : State) : FretBuf :=
  { idx := idx, start := start, dyn := [], words := [], dynSet := s.live.dyn, scanSet := s.live.scan, scans := [], scanWords := []
    polls := [], offline := [], stepShort := false, chainFirst := [], served := [], gathered := s.fret.acquiring
    due := false, opened := streamsToOpen s, epochs := [], events := [], era := s.hist.era }

/-- Put an output into the gathering buffer. -/
def gather (o : DynOut) (s : State) : State :=
  match s.fret.gather with
  | none => s
  | some b => { s with fret.gather := some { b with dyn := b.dyn ++ [o] } }

end Sys2Proof.Machine
end

