-- ==== Sys2Proof/Machine/FrontEnd.lean ====
section
/-! DEFINITION. Dynamic channels as they run: decimator outputs and their tags, overload, rails, VEXC, the reference tone and
SYNC_IN (04, R93 to R115; 06, R169; 21, R505). -/

namespace Sys2Proof.Machine

/-! ### Parts of the front ends -/

/-- Die `k`. -/
def dieAt (s : State) (k : Nat) : DieRun := tget dieRun0 s.fe.dies k
def putDie (k : Nat) (d : DieRun) (s : State) : State := { s with fe.dies := tput dieRun0 s.fe.dies k d }

/-- Die `k` is isolated (R21). -/
def dieOut (s : State) (k : Nat) : Bool := (dieAt s k).isolated.isSome

/-- Rail `e` in operation, and its settings in effect. -/
def railAt (s : State) (e : Nat) : RailRun := tget railRun0 s.fe.rails e
def putRail (e : Nat) (r : RailRun) (s : State) : State := { s with fe.rails := tput railRun0 s.fe.rails e r }
def railLive (s : State) (e : Nat) : RailSet := tget railSet0 s.live.rails e

/-- The rail that feeds a dynamic channel. -/
def railOf (c : Nat) : Nat := c / 8

/-- Rail voltage in mV by its list position (R99). -/
def railMv (v : Nat) : Nat := if v = 1 then 2500 else if v = 2 then 5000 else if v = 3 then 10000 else 0

/-- The spare of die `k`. -/
def spareAt (s : State) (k : Nat) : SpareRun := tget spareRun0 s.fe.spares k
def putSpare (k : Nat) (r : SpareRun) (s : State) : State := { s with fe.spares := tput spareRun0 s.fe.spares k r }

/-- Factor sets by number: slices 0 to 127, spares 128 to 131, courses 132 to 163. -/
def factorsAt (s : State) (n : Nat) : Factors := tget (factors0 n) s.fe.factors n
def putFactors (n : Nat) (f : Factors) (s : State) : State := { s with fe.factors := tput (factors0 n) s.fe.factors n f }

/-- The spare is connected to its channel's input (R117). -/
def spareConnected (r : SpareRun) : Bool := decide (r.phase ≠ .idle ∧ r.phase ≠ .waiting)

/-- The spare delivers for its channel (R119). -/
def spareServes (r : SpareRun) : Bool :=
  decide (r.phase = .serving ∨ r.phase = .testing ∨ r.phase = .backWait ∨ r.phase = .backLearning ∨ r.phase = .backDue)

/-- The spare of a channel's die serves it. -/
def servedBySpare (s : State) (c : Nat) : Bool :=
  spareServes (spareAt s (c / 32)) && decide ((spareAt s (c / 32)).chan = c)

/-- The channel that a slice stands for. -/
def chanOfSlice (s : State) (n : Nat) : Nat := if n < 128 then n else (spareAt s (n - 128)).chan

/-- CHAN code of a dynamic channel. -/
def dynCode (c : Nat) : Nat := chanCode ⟨.dynamic, c⟩

/-- A slice is powered and connected: an enabled channel's, or a connected spare's; not under test, its die not isolated. -/
def sliceLive (s : State) (n : Nat) : Bool :=
  !dieOut s (dieOfSlice n) && (dynLive s (chanOfSlice s n)).enable &&
    (if n < 128 then !(decide ((spareAt s (n / 32)).phase = .testing) && decide ((spareAt s (n / 32)).chan = n))
     else spareConnected (spareAt s (n - 128)))

/-! ### A decimator output (R81, R95, R103 to R114, R164, R182, R183) -/

/-- The rail is off, by R104 or by command, after having been on. -/
def railOff (s : State) (e : Nat) : Bool := decide ((railLive s e).voltage = 0) && ((railAt s e).tripped || (railAt s e).offCmd)

/-- The rail is in its ramp of R106 at an instant. -/
def railRamp (s : State) (e h : Nat) : Bool :=
  match (railAt s e).changeEnd with | none => false | some t => decide (h ≤ t)

/-- A monitor watches a channel under some settings (R108, R112). -/
def monitorWatches (d : DynSet) (m : Monitor) : Bool :=
  match m with | .tap => d.tap && decide (0 < d.iMin) | .sense => d.ratio | .input => true

/-- Open-wire monitors that count for a channel: detection on, the monitor watching under the settings in effect, and tap and sense not
blanked while the rail is off or in its ramp (R106, R108, R112). A tap or sense fault found before the blanking carries no tag in it, and its
run of R110 starts again after it (DESIGN CHOICE, log 90: R109 keeps the tag until the fault clears, R104 and R106 suspend the check). -/
def openMonitors (s : State) (c h : Nat) : List Monitor :=
  if (dynLive s c).openWire then
    (dynRun s c).openMon.filter (fun m => monitorWatches (dynLive s c) m &&
      (decide (m = .input) || !(railOff s (railOf c) || railRamp s (railOf c) h)))
  else []

/-- An overload edge lies in the output's sinc3 window and run (R113). -/
def overloaded (r : DynRun) (t : Nat) : Bool :=
  r.overload.any (fun e => decide (e ≤ t) && decide (t < e + 600 * chainOsr r.set) && decide (r.runStart.getD 0 < e))

/-- Instant not past a bound that may be absent. -/
def upTo (bound : Option Nat) (t : Nat) : Bool := match bound with | none => false | some b => decide (t ≤ b)

/-- Tags and value of the output that completes at `t`: the run, the corrected value before clipping. -/
def outputOf (s : State) (n t : Nat) (r : DynRun) (x : Int) : DynOut :=
  let c := chanOfSlice s n
  let e := railOf c
  let d := r.set
  let off := railOff s e
  let x0 := if off && d.ratio then 0 else clipInput d.se x
  let clipped := decide (x0 ≠ x) && !(off && d.ratio)
  let overRange := clipped || (overloaded r t && !(off && d.ratio))
  let wire := !(openMonitors s c t).isEmpty || upTo (dynRun s c).owUntil t
  let hard := off || upTo (dynRun s c).excUntil t || (dieAt s (c / 32)).vexcLow
  let bad := hard || wire || overRange || upTo (dynRun s c).badUntil t || r.stuck
  { slice := n, chan := c, x := x0, zero := off && d.ratio, done := t, nth := r.outs, set := d,
    tags := mkTag (!bad) (decide (r.outs ≤ 2)) wire overRange (hard || (railAt s e).outOfReg) false false }

/-- The match of R117 on a spare's value, in 2^-24 code. -/
def matched (r : SpareRun) (x : Int) : Int := r.g * x + r.o * 65536

/-- Code of a monitor (R408, OPEN_WIRE; R155). -/
def monitorCode : Monitor → Nat | .tap => 0 | .sense => 1 | .input => 2

/-- A channel's moving average takes one more sinc3 output: how many outputs ago it last held OPEN_WIRE, and that fault's monitor (R165). -/
def ageWire (o : DynOut) (mon : Option Monitor) (r : DynRun) : DynRun :=
  if bitOf o.tags tagOpenWire then
    { r with owAge := some 0, owMon := match mon with | some m => monitorCode m | none => r.owMon }
  else { r with owAge := (if o.nth = 1 then none else r.owAge).bind (fun a => if a + 1 < chainM o.set then some (a + 1) else none) }

/-- The second consecutive output of a channel with OPEN_WIRE raises the event with the stamp of the first (R110); `o` comes from the slice
that delivers for the channel. -/
def noteOpenWire (o : DynOut) (s : State) : State :=
  let r := ageWire o (openMonitors s o.chan o.done).head? (dynRun s o.chan)
  if o.nth % chainR o.set ≠ 0 then putDyn o.chan r s
  else if r.owAge.isSome then
    let first := if r.owRun = 0 then stampOf (o.done / 2 - delayTotal o.set) else r.owFirst
    let t := putDyn o.chan { r with owRun := r.owRun + 1, owFirst := first, owRaised := r.owRaised || decide (1 ≤ r.owRun) } s
    if 1 ≤ r.owRun ∧ ¬ r.owRaised then eventAt 0x0201 (dynCode o.chan) first [BitVec.ofNat 8 r.owMon] t else t
  else putDyn o.chan { r with owRun := 0, owRaised := false } s

/-- The word that goes to the trigger unit: the spare's, matched, where it stands in; it arrives 64 CCLK later (R20, R232). -/
def trigWordOf (s : State) (o : DynOut) : TrigWord :=
  let served := decide (128 ≤ o.slice)
  let x := if served && !o.zero then roundDiv (matched (spareAt s (o.slice - 128)) o.x) 16777216 else o.x
  { src := ⟨.dynamic, o.chan⟩, x := x, tags := if served then setBit o.tags tagSpare else o.tags
    inst := o.done / 2 - (150 * (chainOsr o.set - 1) + 600), arrive := o.done + 320 }

/-- The slice that delivers for a channel now. -/
def deliveringSlice (s : State) (c : Nat) : Nat := if servedBySpare s c then 128 + c / 32 else c

/-- Send an output to its fret buffer; where its slice delivers for the channel, to the trigger unit and the channel's open-wire count too
(R81, R110, R232). -/
def deliverOutput (o : DynOut) (s : State) : State :=
  let t := gather o s
  if deliveringSlice s o.chan = o.slice then noteOpenWire o { t with trig.flight := t.trig.flight ++ [trigWordOf s o] } else t

/-- DECIMATOR_OUTPUT: the slice's next output completes (R51, R81). -/
def onDecimator (n : Nat) (levels : List Int) (s : State) : State :=
  let d := sliceSet s n
  match nextOutput d (dynRun s n) with
  | none => s
  | some t =>
    if s.fret.acquiring && sliceLive s n then
      let s1 := toInstant t s
      let q := runNow d (dynRun s1 n)
      let r := { q with outs := q.outs + 1, overload := q.overload.filter (fun e => decide (t < e + 600 * chainOsr q.set)) }
      let x := correct (factorsAt s1 n).set r.set.gain (sincRaw (chainOsr r.set) ((t - r.runStart.getD 0) / 200) levels)
      let o := outputOf s1 n t r x
      deliverOutput o (putDyn n r s1)
    else s

def execDecimatorOutput (slice : Nat) (levels : List Int) (s : State) : Host.Outcome State Fault Refusal :=
  .next (onDecimator slice levels s)

/-- MODULATOR_OVERLOAD: the detector fires on an MCLK edge (R113). -/
def execModulatorOverload (slice : Nat) (s : State) : Host.Outcome State Fault Refusal :=
  .next (putDyn slice { dynRun s slice with overload := (dynRun s slice).overload ++ [s.time.half] } s)

/-! ### Rails and VEXC (R103 to R105, R505) -/

/-- RAIL_REGULATION_CHANGE: out of regulation beyond 2 % or in current limit; the time in limit counts (R103, R104). -/
def onRegulation (e vsnsMv : Nat) (limiting : Bool) (s : State) : State :=
  let r := railAt s e
  let mv := railMv (railLive s e).voltage
  if mv = 0 then putRail e { r with outOfReg := false, limitSince := none } s
  else putRail e { r with outOfReg := limiting || decide (2 * mv < 100 * ((vsnsMv : Int) - mv).natAbs)
                          limitSince := if limiting then some (r.limitSince.getD s.time.half) else none } s

def execRailRegulationChange (rail vsnsMv : Nat) (limiting : Bool) (s : State) : Host.Outcome State Fault Refusal :=
  .next (onRegulation rail vsnsMv limiting s)

/-- Switch a rail off in a settings copy. -/
def railZero (e : Nat) (c : Settings) : Settings := { c with rails := tmod railSet0 c.rails e (fun r => { r with voltage := 0 }) }

/-- RAIL_CURRENT_LIMIT_TIMEOUT: 10 ms in limit switch the rail off and raise an alarm (R104). A RAIL_SET accepted before and not yet in effect
still takes effect at its boundary, and so sets the voltage again (DESIGN CHOICE, log 94). -/
def onLimitTimeout (e : Nat) (s : State) : State :=
  match (railAt s e).limitSince with
  | none => s
  | some since =>
    let t := toInstant (since + 20000000) s
    let waiting := decide (tget railSet0 t.cfg.rails e ≠ railLive t e)
    raiseAlarm 0x0203 e []
      (putRail e { railAt t e with tripped := true, outOfReg := false, limitSince := none }
        { t with live := railZero e t.live, cfg := if waiting then t.cfg else railZero e t.cfg })

def execRailCurrentLimitTimeout (rail : Nat) (s : State) : Host.Outcome State Fault Refusal := .next (onLimitTimeout rail s)

/-- VEXC_NOM of a die in effect, in 0.1 V. -/
def vexcNom (s : State) (k : Nat) : Nat := tget vexc0 s.live.vexc k

/-- A channel of the die is enabled. -/
def dieHasChannel (s : State) (k : Nat) : Bool :=
  s.live.dyn.any (fun e => e.2.enable && decide (e.1 / 32 = k)) || s.live.scan.any (fun e => e.2.enable && decide (e.1 / 64 = k))

/-- VEXC of a die is measured, in 10 mV: VEXC_HIGH more than 5 % above VEXC_NOM, and its end (R105). -/
def measureVexc (k tenMv : Nat) (s : State) : State :=
  let high := decide (1050 * vexcNom s k < 100 * tenMv)
  let t := putDie k { dieAt s k with vexc := tenMv, vexcHigh := high } s
  if high && !(dieAt s k).vexcHigh then raiseAlarm 0x020A k (leBytes 2 tenMv) t
  else if (dieAt s k).vexcHigh && !high then endAlarm 0x020A k (leBytes 2 tenMv) t
  else t

def execVexcHigh (die tenMv : Nat) (s : State) : Host.Outcome State Fault Refusal := .next (measureVexc die tenMv s)

/-- VEXC_LOW: below 4.5 V with a channel of the die enabled (R505). -/
def onVexcLow (k tenMv : Nat) (s : State) : State :=
  let t := measureVexc k tenMv s
  if tenMv < 450 ∧ dieHasChannel t k then putDie k { dieAt t k with vexcLow := true } t else t

def execVexcLow (die tenMv : Nat) (s : State) : Host.Outcome State Fault Refusal := .next (onVexcLow die tenMv s)

/-- VEXC_RECOVERED: VEXC has stayed above 4.6 V for 1 ms (R505). -/
def onVexcRecovered (k tenMv : Nat) (s : State) : State :=
  let t := measureVexc k tenMv s
  if 460 < tenMv then putDie k { dieAt t k with vexcLow := false } t else t

def execVexcRecovered (die tenMv : Nat) (s : State) : Host.Outcome State Fault Refusal := .next (onVexcRecovered die tenMv s)

/-! ### The reference tone (R114) -/

/-- A measured tone over its expected value, 16.16, lies outside 0.8 to 1.25. -/
def toneBad (ratio : Nat) : Bool := decide (10 * ratio < 524288) || decide (327680 < 4 * ratio)

/-- The next multiple of 100 ms at or after now. -/
def toneWindow (s : State) : Nat := 200000000 * ceilDiv s.time.half 200000000

/-- TONE_WINDOW_END: a window's amplitude is kept; outside its bounds the slice is declared stuck at the next boundary
(R114); a slice whose tone is off has no detection (R115). -/
def onToneWindow (n ratio : Nat) (s : State) : State :=
  let t := toInstant (toneWindow s) s
  if sliceLive t n && (sliceSet t n).tone then
    putDyn n { dynRun t n with tone := ratio, stuckDue := (dynRun t n).stuckDue || toneBad ratio } t
  else t

def execToneWindowEnd (slice ratio : Nat) (s : State) : Host.Outcome State Fault Refusal := .next (onToneWindow slice ratio s)

/-! ### SYNC_IN (R169) -/

/-- The first fret boundary at least `h` half ns after now. -/
def boundaryAfter (h : Nat) (s : State) : Nat := period2 s * ceilDiv (s.time.half + h) (period2 s)

/-- SYNC_IN_EDGE: an edge of the set polarity counts towards the reset of the first boundary at least 128 CCLK later; while
acquisition is stopped it is counted and ignored (R169). -/
def onSyncIn (rising : Bool) (s : State) : State :=
  let t := { s with loc.syncIn := rising }
  if t.live.syncEnable && decide (rising ≠ t.live.syncFalling) then
    if t.fret.acquiring then
      { t with fe.syncEdges := t.fe.syncEdges + 1, fe.syncAt := some (t.fe.syncAt.getD (boundaryAfter 640 t)) }
    else { t with fe.syncIgnored := t.fe.syncIgnored + 1 }
  else t

def execSyncInEdge (rising : Bool) (s : State) : Host.Outcome State Fault Refusal := .next (onSyncIn rising s)

end Sys2Proof.Machine
end

