-- ==== Sys2Proof/Machine/PostFilter.lean ====
section
/-! DEFINITION. The post-filter engine: moving average, notch, banks and their cross-fade, formats (06, R156 to R180), the
pairing of R117, and the bank commands. Values between stages are exact fractions of 2^-24 code (DEDUCED, log 16). -/

namespace Sys2Proof.Machine

/-! ### Banks and swaps (R173 to R178) -/

/-- Bank state, and the banks of channel number `n` (dynamic 0 to 127, scanned 128 to 383). -/
def bankRunAt (s : State) (n : Nat) : BankRun := tget bankRun0 s.fe.bank n
def putBankRun (n : Nat) (r : BankRun) (s : State) : State := { s with fe.bank := tput bankRun0 s.fe.bank n r }
def banksAt (c : Settings) (n : Nat) : BankPair := tget bankPair0 c.banks n

/-- The channel of a bank number. -/
def bankChan (n : Nat) : Chan := if n < 128 then ⟨.dynamic, n⟩ else ⟨.scanned, n - 128⟩

/-- What a swap reports (R178, R408): 0 START, 1 END, 2 REPLACED, 3 VOID. -/
def swapEvent (n what : Nat) (toB : Bool) (stamp : Nat) (s : State) : State :=
  let p := banksAt s.live n
  eventAt 0x0209 (chanCode (bankChan n)) stamp
    ([BitVec.ofNat 8 what, BitVec.ofNat 8 (b2n toB), 0, 0] ++ leBytes 4 p.a.label ++ leBytes 4 p.b.label) s

/-- A fade that has had all its frets ends: the target bank alone from this data fret on (R176). -/
def endFade (n stamp : Nat) (s : State) : State :=
  match (bankRunAt s n).swap with
  | none => s
  | some w =>
    if w.started ∧ w.fade ≤ w.done then
      swapEvent n 1 w.toB stamp (putBankRun n { bankRunAt s n with activeB := w.toB, swap := none } s)
    else s

/-- A queued request becomes due: it starts, or is VOID where its target is the active bank (R177, R178). -/
def dueSwap (n stamp : Nat) (s : State) : State :=
  let r := bankRunAt s n
  match r.swap, r.queued with
  | none, some (toB, f) =>
    if toB = r.activeB then swapEvent n 3 toB stamp (putBankRun n { r with queued := none } s)
    else putBankRun n { r with swap := some { toB := toB, fade := f, done := 0, started := false }, queued := none } s
  | _, _ => s

/-- The swap's fret: START at its first; done at once with F = 0 or on a channel without outputs, else one fade fret more. -/
def fadeFret (n stamp : Nat) (on : Bool) (s : State) : State :=
  match (bankRunAt s n).swap with
  | none => s
  | some w =>
    let t := if w.started then s else swapEvent n 0 w.toB stamp s
    let r := bankRunAt t n
    if w.fade = 0 ∨ on = false then swapEvent n 1 w.toB stamp (putBankRun n { r with activeB := w.toB, swap := none } t)
    else putBankRun n { r with swap := some { w with started := true, done := w.done + 1 } } t

/-- XFADE_STEP of one channel for the data fret that is processed now. -/
def stepBank (n stamp : Nat) (on : Bool) (s : State) : State := fadeFret n stamp on (dueSwap n stamp (endFade n stamp s))

/-! ### Stages 3 to 6 -/

/-- A value between stages: `num` / (`den` 2^24) code. -/
structure Frac where
  num : Int
  den : Nat
  deriving DecidableEq, Repr

/-- Tags of a moving average over its window (R165). -/
def windowTags (w : List (Int × Nat)) : Nat :=
  let any (i : Nat) : Bool := w.any (fun e => bitOf e.2 i)
  mkTag (w.all (fun e => bitOf e.2 tagValid)) false (any tagOpenWire) (any tagOverRange) (any tagExc) (any tagSpare) false

/-- One bank's y of R174, times 2^48 `den`. -/
def bankValue (b : Bank) (x : Frac) : Int := b.gain * x.num + b.offset * 1099511627776 * x.den

/-- Stage 5: the active bank, or the fade between the two; rounded once (R174, R176). The value, and whether XFADE. -/
def bankStage (p : BankPair) (r : BankRun) (x : Frac) : Int × Bool :=
  let act := if r.activeB then p.b else p.a
  let plain := (roundDiv (bankValue act x) (281474976710656 * x.den), false)
  match r.swap with
  | none => plain
  | some w =>
    if w.started then
      let new := if w.toB then p.b else p.a
      let i := min w.done w.fade
      (roundDiv (((w.fade + 1 - i : Nat) : Int) * bankValue act x + (i : Int) * bankValue new x)
        (281474976710656 * x.den * (w.fade + 1)), true)
    else plain

/-- Stage 6 (R179): the field, the signed value after saturation, and whether it saturated. -/
def formatStage (offsetBin unsigned_ : Bool) (y : Int) : Nat × Int × Bool :=
  let v := if unsigned_ then clip 0 16777215 y else if offsetBin then clip (-8388608) 8388607 y else clip (-8388607) 8388607 y
  ((if offsetBin && !unsigned_ then (v + 8388608).toNat else field24 v), v, decide (v ≠ y))

/-- Stages 5 and 6 for channel number `n`; a value 0 that a rule lays down passes both (R202). -/
def finishWord (n : Nat) (offsetBin unsigned_ zero : Bool) (x : Frac) (tags done inst : Nat) (s : State) : OutWord :=
  let y := bankStage (banksAt s.live n) (bankRunAt s n) x
  let f := if zero then (0, if offsetBin && !unsigned_ then -8388608 else 0, false) else formatStage offsetBin unsigned_ y.1
  let t1 := if y.2 then setBit tags tagXfade else tags
  { chan := bankChan n, field := f.1, signed := f.2.1, tags := if f.2.2 then setBit (invalid t1) tagOverRange else t1
    done := done, inst := inst }

/-- Stages 2 to 6 for one output of a dynamic channel: the words made, and the state after (R156 to R168). -/
def filterOutput (o : DynOut) (ws : List OutWord) (s : State) : List OutWord × State :=
  let d := o.set
  let inst := o.done / 2 - delayTotal d
  if o.nth = 0 then
    (ws ++ [{ chan := ⟨.dynamic, o.chan⟩, field := 0, signed := o.x, tags := o.tags, done := o.done, inst := inst }], s)
  else
    let sp := spareAt s (o.chan / 32)
    let v := if o.slice < 128 ∨ o.zero = true then o.x * 16777216 else matched sp o.x
    let tags := if o.slice < 128 then o.tags else setBit o.tags tagSpare
    let w := ((v, tags) :: (if o.nth = 1 then [] else (dynRun s o.chan).window)).take (chainM d)
    let t := putDyn o.chan { dynRun s o.chan with window := w } s
    if o.nth % chainR d ≠ 0 then (ws, t)
    else
      let settling := decide (o.nth / chainR d ≤ chainK d)
      let x : Frac := { num := w.foldl (fun a e => a + e.1) 0, den := chainM d }
      let z := roundDiv (x.num * 1099511627776) x.den
      let q := if settling then (z, (notchHz d.notch).map (fun _ => loadedNotch z))
        else notchSeries d.width (outNs d) (notchHz d.notch) (dynRun t o.chan).notches z
      let x1 : Frac := if d.notch = 0 ∨ settling = true then x else { num := q.1, den := 1099511627776 }
      let u := putDyn o.chan { dynRun t o.chan with notches := q.2 } t
      let wt := if settling then setBit (windowTags w) tagSettling else windowTags w
      (ws ++ [finishWord o.chan d.se false o.zero x1 wt o.done inst u], u)

/-! ### Pairing (R117) -/

/-- The learning window of a spare holds an instant: 100 ms from the first learning output. -/
def inLearning (r : SpareRun) (t : Nat) : Bool :=
  match r.firstLearn with | none => false | some f => decide (f ≤ t) && decide (t < f + 200000000)

/-- Pairs that a fret's outputs give a spare: spare's and channel's value at the same instant; in reverse on the way back. -/
def newPairs (r : SpareRun) (k : Nat) (outs : List DynOut) : List (Int × Int) :=
  (outs.filter (fun o => decide (o.slice = 128 + k) && decide (0 < o.nth) && inLearning r o.done)).filterMap (fun a =>
    (outs.find? (fun b => decide (b.slice = r.chan) && decide (b.done = a.done) && decide (0 < b.nth))).map
      (fun b => if r.phase = .backLearning then (b.x, a.x) else (a.x, b.x)))

/-- Pair the learning outputs of every die. -/
def pairAll (outs : List DynOut) (s : State) : State :=
  [0, 1, 2, 3].foldl (fun t k =>
    let r := spareAt t k
    if r.phase = .learning ∨ r.phase = .backLearning then putSpare k { r with pairs := r.pairs ++ newPairs r k outs } t else t) s

/-! ### The pass (R83) -/

/-- The outputs of a fret that the channel delivers: the spare's where it served the channel in the fret, after the start word of the channel's
own run (R119, R168). -/
def deliveredOuts (b : FretBuf) (c : Nat) : List DynOut :=
  let slice := match b.served.find? (fun e => decide (e.1 = c)) with | none => c | some e => 128 + e.2
  b.dyn.filter (fun o => (decide (o.slice = slice) || decide (o.nth = 0)) && decide (o.chan = c))

/-- Channels with a swap or a queued request. -/
def swapChans (s : State) : List Nat := (s.fe.bank.filter (fun e => e.2.swap.isSome || e.2.queued.isSome)).map (·.1)

/-- The channel has outputs to fade: enabled in the fret processed and still. -/
def fadeOn (b : FretBuf) (s : State) (n : Nat) : Bool :=
  if n < 128 then (tget dynSet0 b.dynSet n).enable && (dynLive s n).enable
  else (tget scanSet0 b.scanSet (n - 128)).enable && (tget scanSet0 s.live.scan (n - 128)).enable

/-- POST_FILTER_PASS over a fret's buffer: D000 to D127, then C000 to C255, in order of completion (R83). -/
def filterPass (b : FretBuf) (s : State) : FretBuf × State :=
  let s1 := (swapChans s).foldl (fun t n => stepBank n (stampOf (b.start / 2)) (fadeOn b t n) t) (pairAll b.dyn s)
  let chans := sortNats (distinct (b.dyn.map (·.chan)))
  let dynDone := chans.foldl (fun acc c => (deliveredOuts b c).foldl (fun acc o => filterOutput o acc.1 acc.2) acc) (([] : List OutWord), s1)
  let scanDone := (sortNats (distinct (b.scans.map (fun r => 8 * r.course + r.pos)))).foldl (fun acc n =>
    acc ++ (b.scans.filter (fun r => decide (8 * r.course + r.pos = n))).map (fun r =>
      finishWord (128 + n) r.offsetBin r.vw r.zero { num := r.x * 16777216, den := 1 } r.tags r.slotEnd r.stamp dynDone.2)) ([] : List OutWord)
  ({ b with words := dynDone.1, scanWords := scanDone }, dynDone.2)

/-- A bank's channel is enabled. -/
def bankLive (s : State) (n : Nat) : Bool :=
  if n < 128 then (dynLive s n).enable else (tget scanSet0 s.live.scan (n - 128)).enable

/-- Swaps at a boundary at which no fret's data is processed: those of a channel without outputs complete at once. `cut`: a large step has left
acquisition without a fret, and the fades of enabled channels wait (R176). -/
def swapsIdle (cut : Bool) (s : State) : State :=
  ((swapChans s).filter (fun n => !(cut && bankLive s n))).foldl (fun t n => stepBank n (stampOf (t.time.half / 2)) false t) s

/-! ### Commands (R175 to R178) -/

/-- The channel has banks: dynamic or scanned, and fitted. -/
def bankChanOk (c : Chan) : Bool := (decide (c.kind = .dynamic) || decide (c.kind = .scanned)) && chanOk c

/-- A swap runs, or waits behind one (R175). -/
def swapRuns (s : State) (n : Nat) : Bool := (bankRunAt s n).swap.isSome || (bankRunAt s n).queued.isSome

/-- BANK_WRITE: the inactive bank, at the next boundary (R175). -/
def execBankWrite (h : CmdHdr) (chan : Chan) (bank : Nat) (gain offset : Int) (label : Nat) (s : State) :
    Host.Outcome State Fault Refusal :=
  .next (runCommand h 0x0210
    (fun t => orElseReply (firstBad [(28, !bankChanOk chan), (30, decide (1 < bank))])
      (if swapRuns t (bankNo chan) then some (busy 2 (chanCode chan))
       else if (bankRunAt t (bankNo chan)).activeB = decide (bank = 1) then some (refusedState 0 0) else none))
    (fun t => finishAtBoundary h 0x0210 (accept (fun c =>
      let p := banksAt c (bankNo chan)
      let b : Bank := { gain := gain, offset := offset, label := label }
      { c with banks := tput bankPair0 c.banks (bankNo chan) (if bank = 1 then { p with b := b } else { p with a := b }) }) t)) s)

/-- A swap request is taken: nothing where its target is active and no swap runs; queued behind a running one, replacing a
queued one; else handed to the post-filter engine (R175 to R178). -/
def takeSwap (h : CmdHdr) (n : Nat) (toB : Bool) (fade : Nat) (s : State) : State :=
  let r := bankRunAt s n
  if swapRuns s n then
    let t := match r.queued with | none => s | some q => swapEvent n 2 q.1 0 s
    finish h 0x0211 okReply (putBankRun n { r with queued := some (toB, fade) } t)
  else if r.activeB = toB then finish h 0x0211 okReply s
  else finishAtBoundary h 0x0211 (putBankRun n { r with swap := some { toB := toB, fade := fade, done := 0, started := false } } s)

/-- BANK_SWAP (R175 to R177). -/
def execBankSwap (h : CmdHdr) (chan : Chan) (target fade : Nat) (s : State) : Host.Outcome State Fault Refusal :=
  .next (runCommand h 0x0211
    (fun _ => firstBad [(28, !bankChanOk chan), (30, decide (1 < target)), (31, decide (10000 < fade))])
    (fun t => takeSwap h (bankNo chan) (decide (target = 1)) fade t) s)

/-- Read twin of BANK_WRITE (R391). -/
def execBankWriteTwin (h : CmdHdr) (chan : Chan) (bank : Nat) (s : State) : Host.Outcome State Fault Refusal :=
  .next (readCommand h 0x0290 12 (fun _ => firstBad [(28, !bankChanOk chan), (30, decide (1 < bank))])
    (fun t =>
      let p := banksAt t.cfg (bankNo chan)
      let b := if bank = 1 then p.b else p.a
      leSigned 4 b.gain ++ leSigned 4 b.offset ++ leBytes 4 b.label) s)

end Sys2Proof.Machine
end

