-- ==== Sys2Proof/Machine/Sparing.lean ====
section
/-! DEFINITION. Synchronising resets (06, R167 to R171), spare slices, the in-service slice test and background rotation (04,
R114 to R121; 07, R187, R196 to R199). -/

namespace Sys2Proof.Machine

/-! ### Resets (R167 to R171) -/

/-- Causes of a reset (R408, SYNC_RESET). -/
def causeSync : Nat := 1
def causeCommand : Nat := 2
def causeStep : Nat := 4
def causeRail : Nat := 8
def causeWire : Nat := 16
def causeStart : Nat := 32
def causeSpare : Nat := 64
def causeDie : Nat := 128

/-- Instant of the first learning output after a reset at its reset boundary: K outputs are discarded (R117). -/
def learnFrom (d : DynSet) (b : Nat) : Nat := resetBoundary d b + 2 * outNs d * (chainK d + 1)

/-- A slice is reset: `fresh` where it has no old run, `noStart` where no start word stands at the reset boundary. -/
def resetSlice (n b cause edges : Nat) (fresh noStart : Bool) (s : State) : State :=
  let d := sliceSet s n
  let q := if fresh then { freshReset d b cause (dynRun s n) with noStart := noStart } else dueReset d b cause (dynRun s n)
  putDyn n { q with edges := q.edges + edges } s

/-- The learning run of a channel starts again after a reset of the channel (R172). -/
def relearn (c b : Nat) (s : State) : State :=
  let r := spareAt s (c / 32)
  if (r.phase = .learning ∨ r.phase = .backLearning) ∧ r.chan = c then
    putSpare (c / 32) { r with pairs := [], firstLearn := some (learnFrom (dynLive s r.chan) b) } s
  else s

/-- A channel is reset at boundary `b`, a spare connected to its input with it (R167). -/
def resetChannel (c b cause edges : Nat) (fresh : Bool) (s : State) : State :=
  let k := c / 32
  let t := resetSlice c b cause edges fresh false s
  if spareConnected (spareAt t k) && decide ((spareAt t k).chan = c) then
    relearn c b (resetSlice (128 + k) b cause edges fresh true t)
  else t

/-- Enabled dynamic channels whose die acquires. -/
def runningChans (s : State) : List Nat := (List.range 128).filter (fun c => (dynLive s c).enable && !dieOut s (c / 32))

/-- Runs whose reset boundary is `b`. -/
def resetsAt (s : State) (b : Nat) : List (Nat × DynRun) := s.fe.dyn.filter (fun e => decide (e.2.resetAt = some b))

/-- The SYNC_RESET event of a reset boundary (R171). -/
def resetEvent (b : Nat) (s : State) : State :=
  let rs := resetsAt s b
  if rs.isEmpty then s
  else
    let causes := rs.foldl (fun a e => a ||| e.2.causes) 0
    let edges := if bitOf causes 0 then rs.foldl (fun a e => max a e.2.edges) 0 else 0
    eventAt 0x0208 0 (stampOf (b / 2))
      (leBytes 2 causes ++ leBytes 2 edges ++ leBytes 16 (maskOf ((rs.filter (fun e => decide (e.1 < 128))).map (·.1))) ++
        leBytes 1 (maskOf ((rs.filter (fun e => decide (128 ≤ e.1))).map (fun e => e.1 - 128)))) s

/-- A run with no old run begins at its reset boundary; its start word stands there (R168). -/
def beginRun (b n : Nat) (s : State) : State :=
  let r := dynRun s n
  let d := sliceSet s n
  if r.runStart.isSome then s
  else
    let t := putDyn n (switchRun d r b) s
    if r.noStart then t
    else
      let o := startWord n n d b
      let u := gather o t
      { u with trig.flight := u.trig.flight ++ [trigWordOf u o] }

/-- The resets of boundary `b`: their event, and the start of runs without an old one. -/
def resetsFallDue (b : Nat) (s : State) : State :=
  (resetsAt s b).foldl (fun t e => beginRun b e.1 t) (resetEvent b s)

/-! ### The fit of R117 and R118 -/

/-- ⌊√n⌋ from bit `k` down. -/
def isqrtFrom : Nat → Nat → Nat → Nat
  | 0, n, acc => if (acc + 1) ^ 2 ≤ n then acc + 1 else acc
  | k + 1, n, acc => isqrtFrom k n (if (acc + 2 ^ (k + 1)) ^ 2 ≤ n then acc + 2 ^ (k + 1) else acc)

/-- √n to the nearest whole number. -/
def isqrt (n : Nat) : Nat := (isqrtFrom 48 (4 * n) 0 + 1) / 2

/-- Sums over learning pairs. -/
def sumBy (f : Int × Int → Int) (ps : List (Int × Int)) : Int := ps.foldl (fun a p => a + f p) 0

/-- Largest less smallest of the channel's values. -/
def spanOf (ps : List (Int × Int)) : Int :=
  match ps with
  | [] => 0
  | p :: rest => rest.foldl (fun a q => max a q.2) p.2 - rest.foldl (fun a q => min a q.2) p.2

/-- g of R117 in 2^-24: least squares, or the ratio of the verified gains where the values span fewer than 2^16 codes (R190);
`free` stands where the divisor is 0. -/
def fitGain (ps : List (Int × Int)) (gvTo gvFrom : Nat) (free : Int) : Int :=
  let n : Int := ps.length
  let den := n * sumBy (fun p => p.1 * p.1) ps - sumBy (·.1) ps * sumBy (·.1) ps
  if spanOf ps < 65536 then (if gvFrom = 0 then free else roundDiv ((gvTo : Int) * 16777216) gvFrom)
  else if den ≤ 0 then free
  else roundDiv ((n * sumBy (fun p => p.1 * p.2) ps - sumBy (·.1) ps * sumBy (·.2) ps) * 16777216) den.toNat

/-- o in 2^-8 code for a given g. -/
def fitOffset (ps : List (Int × Int)) (g : Int) : Int :=
  if ps.isEmpty then 0 else roundDiv (sumBy (·.2) ps * 16777216 - g * sumBy (·.1) ps) (ps.length * 65536)

/-- Sum of squared errors in (2^-24 code)^2. -/
def fitErr (ps : List (Int × Int)) (g o : Int) : Nat :=
  ps.foldl (fun a p => a + ((p.2 * 16777216 - g * p.1 - o * 65536).natAbs) ^ 2) 0

/-- The match is accepted (R118). -/
def fitOk (ps : List (Int × Int)) (g o : Int) : Bool :=
  decide ((g - 16777216).natAbs ≤ 262144) && decide (fitErr ps g o ≤ ps.length * 4294967296 ^ 2)

/-- RMS residual in 2^-8 code. -/
def fitResid (ps : List (Int × Int)) (g o : Int) : Nat :=
  if ps.isEmpty then 0 else isqrt (fitErr ps g o / (ps.length * 4294967296))

/-! ### Blocks of factor sets (R191) -/

/-- The 132 bytes of a factor set. -/
def setBlock (kind die index : Nat) (f : FactorSet) : List Byte :=
  let body := [BitVec.ofNat 8 index, BitVec.ofNat 8 die, BitVec.ofNat 8 kind, 1] ++ leSigned 1 f.temp ++
    [BitVec.ofNat 8 f.result, BitVec.ofNat 8 f.failGain, 0] ++ leBytes 8 (Config.feUid die) ++
    leBytes 8 ((List.range 15).foldl (fun a t => a + (intAt f.thresh t % 16).toNat * 16 ^ t) 0) ++
    (List.range 8).map (fun g => BitVec.ofNat 8 (natAt f.delay g)) ++
    ((List.range 8).map (fun g => leSigned 4 (intAt f.offset g))).flatten ++
    ((List.range 8).map (fun g => leBytes 4 (natAt f.gain g))).flatten ++
    ((List.range 8).map (fun g => leBytes 4 (natAt f.verified g))).flatten
  body ++ leBytes 4 (crc32c body).toNat

/-- Kind and index of a factor-set number. -/
def setKind (n : Nat) : Nat := if n < 128 then 1 else if n < 132 then 2 else 3
def setIndex (n : Nat) : Nat := if n < 128 then n % 32 else if n < 132 then 0 else (n - 132) % 8
def setDie (n : Nat) : Nat := if n < 128 then n / 32 else if n < 132 then n - 128 else (n - 132) / 8

/-- The first gain index of a list at which a check fails. -/
def failAt (gains : List Nat) (bad : Nat → Bool) : Option Nat := gains.find? bad

/-- A mean that the readings leave out reads 0 (R185). -/
def gainReading0 : GainReading := { zero := 0, pos90 := 0, neg90 := 0, delayPs := 0, zeroV := 0, pos45 := 0, neg45 := 0 }

/-- GAIN of R185, step 4: the ideal span of ±0.9 FS over the measured one (R186), in 2^-30; `free` where there is no span (DESIGN CHOICE,
log 96). -/
def measuredGain (free : Nat) (r : GainReading) : Nat :=
  if r.neg90 < r.pos90 then min 4294967295 (roundDiv (18 * 2 ^ 61) (10 * (r.pos90 - r.neg90).toNat)).toNat else free % 4294967296

/-- Delay taps that bring the path delay to 0.60 µs (R185, step 5). -/
def measuredDelay (r : GainReading) : Nat := (clip 0 63 (roundDiv (600000 - r.delayPs) 50)).toNat

/-- A mean reading through the corrected chain, in 2^-38 code (R183; R185, step 6). -/
def verifyValue (f : FactorSet) (g : Nat) (x : Int) : Int := (x - intAt f.offset g) * (natAt f.gain g : Int)

/-- Verified gain: the corrected span over the ideal one of ±0.45 FS, in 2^-30 (R185, R186). -/
def verifiedGain (f : FactorSet) (g : Nat) (r : GainReading) : Nat :=
  (clip 0 4294967295 (roundDiv (10 * (verifyValue f g r.pos45 - verifyValue f g r.neg45)) (9 * 2 ^ 31))).toNat

/-- A corrected reading more than 512 codes from its ideal: 0, 0.45 FS or -0.45 FS (R186, R187). -/
def verifyBad (f : FactorSet) (g : Nat) (r : GainReading) : Bool :=
  let off (x ideal : Int) : Bool := decide (51200 * 2 ^ 38 < (100 * verifyValue f g x - ideal * 2 ^ 61).natAbs)
  off r.zeroV 0 || off r.pos45 45 || off r.neg45 (-45)

/-- The factors that readings give one gain index of a set (R185, steps 3 to 6). -/
def measureGain (slice : Bool) (free : Nat) (f : FactorSet) (e : Nat × GainReading) : FactorSet :=
  let f1 := { f with offset := f.offset.set e.1 (clip (-2147483648) 2147483647 e.2.zero), gain := f.gain.set e.1 (measuredGain free e.2)
                     delay := if slice then f.delay.set e.1 (measuredDelay e.2) else f.delay }
  { f1 with verified := f1.verified.set e.1 (verifiedGain f1 e.1 e.2) }

/-- The first check of R187 that fails over some gains with their readings, and the gain. `slice`: thresholds, delays and the tone count. -/
def judgeSet (slice : Bool) (rs : List (Nat × GainReading)) (tone : Nat) (f : FactorSet) : Nat × Nat :=
  let gains := rs.map (·.1)
  if slice && f.thresh.any (fun t => decide (t ≤ -8) || decide (7 ≤ t)) then (1, 0xFF)
  else match failAt gains (fun g => decide (42949672 < (intAt f.offset g).natAbs)) with
    | some g => (2, g)
    | none =>
      match failAt gains (fun g => decide (100 * natAt f.gain g < 95 * 1073741824) || decide (105 * 1073741824 < 100 * natAt f.gain g)) with
      | some g => (3, g)
      | none =>
        match (if slice then failAt gains (fun g => decide (natAt f.delay g = 0) || decide (natAt f.delay g = 63)) else none) with
        | some g => (4, g)
        | none =>
          match rs.find? (fun e => verifyBad f e.1 e.2) with
          | some e => (5, e.1)
          | none => if slice && toneBad tone then (6, 0xFF) else (0, 0xFF)

/-- The set that readings make of `f` at some gains, with its result (R185, R187, R196). -/
def measured (slice : Bool) (free : Nat) (rs : List (Nat × GainReading)) (m : CalReading) (temp : Int) (f : FactorSet) : FactorSet :=
  let f0 := { f with thresh := if slice then (List.range 15).map (fun t => clip (-8) 7 (intAt m.splits t)) else f.thresh, temp := temp }
  let f1 := rs.foldl (measureGain slice free) f0
  let r := judgeSet slice rs m.tone f1
  { f1 with result := r.1, failGain := r.2 }

/-! ### A spare's life (R116 to R121) -/

/-- Complete the command that a spare works for. -/
def finishSpare (k : Nat) (r : Reply) (s : State) : State :=
  match (spareAt s k).hdr with
  | none => s
  | some h =>
    let op := if (spareAt s k).use = .test then 0x020E else 0x020D
    finishAt h op r (s.fret.idx % 4294967296) (putSpare k { spareAt s k with hdr := none } s)

/-- The spare lets its channel go. -/
def releaseSpare (k : Nat) (s : State) : State := putDyn (128 + k) dynRun0 (putSpare k spareRun0 s)

/-- What a SLICE_TEST answers: the result code and its gain; the measured set as a block of R191 (DESIGN CHOICE, log 17). -/
def testReply (s : State) (k : Nat) : Reply :=
  let r := spareAt s k
  match r.tested with
  | none => okReply
  | some f => { status := 0, result := [BitVec.ofNat 8 f.result, BitVec.ofNat 8 f.failGain], data := setBlock 1 k (r.chan % 32) f }

/-- SPARE_SWAP (R120): the stamp is that of the first output on the new slice. -/
def spareSwapEvent (k b : Nat) (back : Bool) (s : State) : State :=
  let r := spareAt s k
  let d := dynLive s r.chan
  eventAt 0x0206 (dynCode r.chan) (stampOf (resetBoundary d b / 2 - delayTotal d))
    ([BitVec.ofNat 8 (b2n back), BitVec.ofNat 8 (b2n r.matchFail), 0, 0] ++ leSigned 4 r.fitG ++ leSigned 4 r.fitO ++
      leBytes 4 (min r.resid 4294967295)) s

/-- Ask for the spare of a channel's die: it waits for the next boundary (R116, R117). -/
def askSpare (c : Nat) (use : SpareUse) (hdr : Option CmdHdr) (keep update : Bool) (s : State) : State :=
  putSpare (c / 32) { spareRun0 with phase := .waiting, use := use, chan := c, hdr := hdr, keep := keep, update := update } s

/-- The spare passed its calibration, or has had none (R189). -/
def spareFit (s : State) (k : Nat) : Bool := decide ((factorsAt s (128 + k)).set.result = 0 ∨ (factorsAt s (128 + k)).set.result = 7)

/-- Start replacing an enabled channel's stuck or failed slice, where automatic sparing is on: at once on an idle spare, at the end of the
out-period under rotation (R114, R116, R189). A slice declared stuck while the spare is in other use is not replaced when the spare becomes
free later, only by command (DESIGN CHOICE, log 97). -/
def replaceSlice (c : Nat) (s : State) : State :=
  let k := c / 32
  let rot := tget rotationRun0 s.fe.rotation k
  if (tget spareSet0 s.live.spare k).auto && spareFit s k && !dieOut s k && (dynLive s c).enable then
    if rot.running then
      { s with fe.rotation := tput rotationRun0 s.fe.rotation k { rot with replaceNext := some (rot.replaceNext.getD c) } }
    else if (spareAt s k).phase = .idle then askSpare c .replace none false false s
    else s
  else s

/-- Stuck declarations fall due (R114): the alarm, and the substitution. -/
def declareStuck (n : Nat) (s : State) : State :=
  let r := dynRun s n
  if r.stuckDue && !r.stuck then
    let t := raiseAlarm 0x0205 (dynCode (chanOfSlice s n)) (leBytes 4 r.tone) (putDyn n { r with stuck := true } s)
    if n < 128 then replaceSlice n t else t
  else s

/-- A slice that passes a calibration or a test is no longer stuck; a tone window in range does not clear it (DEDUCED, log 18). -/
def clearStuck (n : Nat) (s : State) : State :=
  let r := dynRun s n
  if r.stuck || r.stuckDue then
    endAlarm 0x0205 (dynCode (chanOfSlice s n)) (leBytes 4 r.tone) (putDyn n { r with stuck := false, stuckDue := false } s)
  else s

/-- Half ns of the 150 ms test (R196). -/
def testLen : Nat := 300000000

/-- SPARE_CONNECT: the spare takes the channel's settings and starts its parallel run (R117). For a disabled channel, or while acquisition is
stopped, it waits (DESIGN CHOICE, log 98). -/
def connectSpare (k b : Nat) (s : State) : State :=
  let r := spareAt s k
  if s.fret.acquiring && (dynLive s r.chan).enable && !dieOut s k then
    let t := putSpare k { r with phase := .learning, pairs := [], firstLearn := some (learnFrom (dynLive s r.chan) b) } s
    resetSlice (128 + k) b causeSpare 0 true true t
  else s

/-- The new factors of a passed test replace the loaded ones at the boundary at which the swap back starts: at once, since the slice does not
deliver (R196; DEDUCED against the walk of R194, log 17). -/
def updateFactors (k : Nat) (s : State) : State :=
  let r := spareAt s k
  match r.tested with
  | none => s
  | some f => if r.update ∧ f.result = 0 then putFactors r.chan { set := f, target := none } s else s

/-- The swap back starts: the channel's slice is reset and runs beside the spare (R121). -/
def startBack (k b : Nat) (s : State) : State :=
  let r := spareAt s k
  if s.fret.acquiring && (dynLive s r.chan).enable then
    resetSlice r.chan b causeSpare 0 true true
      (updateFactors k (putSpare k { r with phase := .backLearning, pairs := [], firstLearn := some (learnFrom (dynLive s r.chan) b) } s))
  else s

/-- A spare at a fret boundary (R117 to R121, R196, R197). -/
def spareBoundary (k b : Nat) (s : State) : State :=
  let r := spareAt s k
  match r.phase with
  | .waiting => connectSpare k b s
  | .swapDue =>
    let t := spareSwapEvent k b false (putSpare k { r with phase := .serving, g := r.fitG, o := r.fitO, pairs := [] } s)
    if r.use = .command then finishSpare k okReply t else t
  | .serving =>
    if r.use = .test ∨ r.use = .rotation then putSpare k { r with phase := .testing, dueAt := b + testLen, tested := none } s else s
  | .backWait => startBack k b s
  | .backDue => releaseSpare k (finishSpare k (if r.use = .test then testReply s k else okReply) (spareSwapEvent k b true s))
  | _ => s

/-! ### LEARNING_RUN_END (R118) -/

/-- The fret of the last learning output has begun its processing. -/
def learningDone (s : State) (r : SpareRun) : Bool :=
  match r.firstLearn with
  | none => false
  | some f =>
    let t2 := 2 * outNs (dynLive s r.chan)
    decide (f + 199999999 / t2 * t2 < s.fret.boundary)

/-- A learning run that is not accepted, in a use other than a replacement: a SPARE_SUBST or SLICE_TEST that waits on it completes OK (R118,
R198; DESIGN CHOICE, log 17). -/
def abandonLearning (k : Nat) (g : Int) (resid : Nat) (s : State) : State :=
  let r := spareAt s k
  let t := event 0x0207 (dynCode r.chan) ([0, 0, 0, 0] ++ leSigned 4 g ++ [0, 0, 0, 0] ++ leBytes 4 (min resid 4294967295)) s
  let u := if r.use = .rotation then event 0x0213 (dynCode r.chan) [1] t else t
  let v := finishSpare k (if r.use = .test then testReply u k else okReply) u
  if r.phase = .backLearning then putSpare k { spareAt v k with phase := .serving, use := .command } v else releaseSpare k v

/-- The engine decides on the match while it processes the last learning output (R118). -/
def onLearningEnd (k : Nat) (s : State) : State :=
  let r := spareAt s k
  let back := decide (r.phase = .backLearning)
  if (r.phase = .learning ∨ r.phase = .backLearning) ∧ learningDone s r = true then
    let gi := (dynLive s r.chan).gain
    let gvC := natAt (factorsAt s r.chan).set.verified gi
    let gvS := natAt (factorsAt s (128 + k)).set.verified gi
    let g := fitGain r.pairs (if back then gvS else gvC) (if back then gvC else gvS) (freshCode s)
    let o := fitOffset r.pairs g
    let resid := fitResid r.pairs g o
    let next : SparePhase := if back then .backDue else .swapDue
    let t := useFree s
    if fitOk r.pairs g o then putSpare k { r with phase := next, fitG := g, fitO := o, resid := resid, matchFail := false } t
    else if ¬ back ∧ (r.use = .replace ∨ (r.use = .command ∧ (dynRun s r.chan).stuck = true)) then
      putSpare k { r with phase := next, fitG := 16777216, fitO := 0, resid := resid, matchFail := true } t
    else abandonLearning k g resid t
  else s

def execLearningRunEnd (die : Nat) (s : State) : Host.Outcome State Fault Refusal := .next (onLearningEnd die s)

/-! ### SLICE_TEST_END (R196, R199) -/

/-- Rotation stops on a die. -/
def stopRotation (k : Nat) (s : State) : State := { s with fe.rotation := tput rotationRun0 s.fe.rotation k rotationRun0 }

/-- The set that a slice test makes: the loaded one with the factors of the running gain measured anew (R196). -/
def testedSet (s : State) (k : Nat) (m : CalReading) : FactorSet :=
  let c := (spareAt s k).chan
  measured true (freshNat s) [((dynLive s c).gain, (m.gains[0]?).getD gainReading0)] m (dieAt s k).temp (factorsAt s c).set

/-- The test of a slice behind its spare ends: judged at the running gain; passed, the swap back follows unless the spare is
to stay; failed, the spare stays in its place (R196, R199). -/
def onSliceTestEnd (k : Nat) (m : CalReading) (s : State) : State :=
  if (spareAt s k).phase = .testing then
    let s1 := toInstant (spareAt s k).dueAt s
    let r := spareAt s1 k
    let f := testedSet s1 k m
    let s2 := useFree (putSpare k { r with tested := some f } s1)
    if f.result = 0 then
      let s3 := clearStuck r.chan s2
      if r.keep then
        let s4 := finishSpare k (testReply s3 k) s3
        putSpare k { spareAt s4 k with phase := .serving, use := .command } s4
      else putSpare k { spareAt s3 k with phase := .backWait } s3
    else
      let s3 := finishSpare k (testReply s2 k) s2
      let s4 := putDyn r.chan { dynRun s3 r.chan with stuck := true, stuckDue := true } s3
      let s5 := putSpare k { spareAt s4 k with phase := .serving, use := .replace } s4
      let s6 := raiseAlarm 0x0205 (dynCode r.chan) (leBytes 4 (dynRun s5 r.chan).tone) s5
      if r.use = .rotation then stopRotation k s6 else s6
  else s

def execSliceTestEnd (die : Nat) (measured : CalReading) (s : State) : Host.Outcome State Fault Refusal :=
  .next (onSliceTestEnd die measured s)

/-! ### Background rotation (R197, R198) -/

/-- The out-period of channel `j` of die `k` begins: a disabled channel keeps its time; a slow chain is skipped (R197, R198). -/
def outPeriod (k j : Nat) (s : State) : State :=
  let c := 32 * k + j
  let d := dynLive s c
  if d.enable && !dieOut s k && decide ((spareAt s k).phase = .idle) then
    if 700000000 < (chainK d + 1) * outNs d then event 0x0213 (dynCode c) [0] s
    else askSpare c .rotation none false true s
  else s

/-- Half ns of 64 s and of an out-period. -/
def rotationCycle : Nat := 128000000000
def outPeriodLen : Nat := 4000000000

/-- ROTATION_CYCLE_START: at a multiple of 64 s, where rotation is on and the spare is free (R197). -/
def onRotationStart (k : Nat) (s : State) : State :=
  if (tget spareSet0 s.live.spare k).rotation && !(tget rotationRun0 s.fe.rotation k).running && !dieOut s k &&
      decide ((spareAt s k).phase = .idle) then
    let start := rotationCycle * ceilDiv s.time.half rotationCycle
    let t := toInstant start s
    outPeriod k 0 { t with fe.rotation := tput rotationRun0 t.fe.rotation k { running := true, start := start, j := 0, replaceNext := none } }
  else s

def execRotationCycleStart (die : Nat) (s : State) : Host.Outcome State Fault Refusal := .next (onRotationStart die s)

/-- ROTATION_OUT_PERIOD_END: a spare not connected in the period is withdrawn; a replacement waiting takes the spare and rotation stops; else the next channel (R116, R197). -/
def onOutPeriodEnd (k : Nat) (s : State) : State :=
  let rot := tget rotationRun0 s.fe.rotation k
  if rot.running then
    let t0 := toInstant (rot.start + outPeriodLen * (rot.j + 1)) s
    let r := spareAt t0 k
    let t := if r.phase = .waiting ∧ r.use = .rotation then putSpare k spareRun0 t0 else t0
    match rot.replaceNext with
    | some c => (if (spareAt t k).phase = .idle then askSpare c .replace none false false else id) (stopRotation k t)
    | none =>
      if (tget spareSet0 t.live.spare k).rotation then
        let next := if rot.j = 31 then { rot with start := rot.start + rotationCycle, j := 0 } else { rot with j := rot.j + 1 }
        outPeriod k next.j { t with fe.rotation := tput rotationRun0 t.fe.rotation k next }
      else stopRotation k t
  else s

def execRotationOutPeriodEnd (die : Nat) (s : State) : Host.Outcome State Fault Refusal := .next (onOutPeriodEnd die s)

/-! ### Commands -/

/-- The channel is a fitted dynamic channel. -/
def dynChanOk (c : Chan) : Bool := decide (c.kind = .dynamic) && chanOk c

/-- SPARE_SET (R114, R197); turning rotation off under way waits for the out-period and completes at once (R392). -/
def execSpareSet (h : CmdHdr) (die auto rotation : Nat) (s : State) : Host.Outcome State Fault Refusal :=
  .next (runCommand h 0x020C
    (fun _ => firstBad [(28, decide (3 < die)), (29, decide (1 < auto)), (30, decide (1 < rotation))])
    (fun t =>
      let u := accept (fun c => { c with spare := tput spareSet0 c.spare die { auto := decide (auto = 1), rotation := decide (rotation = 1) } }) t
      if (tget rotationRun0 t.fe.rotation die).running && decide (rotation = 0) then finish h 0x020C okReply u
      else finishAtBoundary h 0x020C u) s)

/-- Why a substitution of a channel cannot start (R21, R116). -/
def spareBusy (c : Nat) (s : State) : Option Reply :=
  let k := c / 32
  if dieOut s k then some (refusedState 5 0)
  else if (tget rotationRun0 s.fe.rotation k).running || decide ((spareAt s k).phase ≠ .idle) then some (busy 3 k)
  else none

/-- SPARE_SUBST checks: start needs the die's spare; end needs it to stand in for the channel, whose slice is sound (R121). -/
def substCheck (c action : Nat) (s : State) : Option Reply :=
  let r := spareAt s (c / 32)
  if action = 0 then spareBusy c s
  else if spareServes r && decide (r.chan = c) then
    if r.phase ≠ .serving ∨ r.use = .rotation then some (busy 2 (dynCode c))
    else if (dynRun s c).stuck then some (refusedState 0 0)
    else none
  else if r.phase ≠ .idle ∧ r.chan = c then some (busy 2 (dynCode c))
  else some notFound

/-- SPARE_SUBST (R116, R117, R121). -/
def execSpareSubst (h : CmdHdr) (chan : Chan) (action : Nat) (s : State) : Host.Outcome State Fault Refusal :=
  .next (runCommand h 0x020D
    (fun t => orElseReply (firstBad [(28, !dynChanOk chan), (30, decide (1 < action))]) (substCheck chan.num action t))
    (fun t =>
      if action = 0 then askSpare chan.num .command (some h) false false t
      else putSpare (chan.num / 32) { spareAt t (chan.num / 32) with phase := .backWait, use := .command, hdr := some h } t) s)

/-- A slice test may use the spare that already stands in for the channel. -/
def testCheck (c : Nat) (s : State) : Option Reply :=
  let r := spareAt s (c / 32)
  if r.phase = .serving ∧ r.chan = c ∧ r.use ≠ .rotation ∧ r.use ≠ .test then none else spareBusy c s

/-- SLICE_TEST (R196). -/
def execSliceTest (h : CmdHdr) (chan : Chan) (keep : Nat) (s : State) : Host.Outcome State Fault Refusal :=
  .next (runCommand h 0x020E
    (fun t => orElseReply (firstBad [(28, !dynChanOk chan), (30, decide (1 < keep))]) (testCheck chan.num t))
    (fun t =>
      if (spareAt t (chan.num / 32)).phase = .serving then
        putSpare (chan.num / 32)
          { spareAt t (chan.num / 32) with use := .test, hdr := some h, keep := decide (keep = 1), update := h.update } t
      else askSpare chan.num .test (some h) (decide (keep = 1)) h.update t) s)

/-- Read twin of SPARE_SET (R391). -/
def execSpareSetTwin (h : CmdHdr) (die : Nat) (s : State) : Host.Outcome State Fault Refusal :=
  .next (readCommand h 0x028C 2 (fun _ => firstBad [(28, decide (3 < die))])
    (fun t => leBytes 1 (b2n (tget spareSet0 t.cfg.spare die).auto) ++ leBytes 1 (b2n (tget spareSet0 t.cfg.spare die).rotation)) s)

end Sys2Proof.Machine
end

