-- ==== Sys2Proof/Machine/Spectra.lean ====
section
/-! DEFINITION. Windows, discrete Fourier transforms and binary32 (05, R152; 10, R277, R278), in exact integers over cosines held to
2^-60 (DESIGN CHOICE, log 93). -/

namespace Sys2Proof.Machine

/-! ### Cosines -/

/-- cos x in 2^-60 for an angle of at most π / 2 in 2^-128. -/
def cosSmall (x : Nat) : Int := cosTerms (x * x / unit128) 20 0 unit128 false / 2 ^ 68

/-- cos(2π k / n) in 2^-60, for n a multiple of 4. -/
def cosTurn (n k : Nat) : Int :=
  let m := k % n
  let h := if n < 2 * m then n - m else m
  if n < 4 * h then -cosSmall (2 * pi128 * (n / 2 - h) / n) else cosSmall (2 * pi128 * h / n)

/-- sin(2π k / n) in 2^-60, for n a multiple of 4. -/
def sinTurn (n k : Nat) : Int := cosTurn n (k + 3 * n / 4)

/-! ### Windows (R277) -/

/-- a_0 to a_4 of a window in 10^-9. -/
def windowCoeffs (code : Nat) : List Int :=
  if code = 0 then [1000000000, 0, 0, 0, 0] else if code = 1 then [500000000, 500000000, 0, 0, 0]
  else if code = 2 then [540000000, 460000000, 0, 0, 0]
  else if code = 3 then [358750000, 488290000, 141280000, 11680000, 0]
  else [215578950, 416631580, 277263158, 83578947, 6947368]

/-- w[i] of a window over `n` words, in 2^-24, to the nearest. -/
def windowAt (code n i : Nat) : Int :=
  let c := windowCoeffs code
  let term (k : Nat) : Int := intAt c k * cosTurn n (k * i)
  roundDiv (term 0 - term 1 + term 2 - term 3 + term 4) (1000000000 * 2 ^ 36)

/-- S_2 in 2^-48. -/
def windowPower (code n : Nat) : Nat := sumOf (fun i => (windowAt code n i).natAbs ^ 2) (List.range n)

/-- Words times their window, in 2^-24. -/
def windowed (code n : Nat) (xs : List Int) : List Int := List.zipWith (fun i x => windowAt code n i * x) (List.range n) xs

/-! ### Bins (R152, R278) -/

/-- X_k of a list: real and imaginary part, with 60 fraction bits more than the list has. -/
def binFrom (n k : Nat) : Nat → List Int → Int × Int
  | _, [] => (0, 0)
  | i, x :: xs => let r := binFrom n k (i + 1) xs; (x * cosTurn n (k * i) + r.1, r.2 - x * sinTurn n (k * i))
def binOf (n k : Nat) (xs : List Int) : Int × Int := binFrom n k 0 xs

/-- |X_k|^2. -/
def binPower (n k : Nat) (xs : List Int) : Nat := let b := binOf n k xs; b.1.natAbs ^ 2 + b.2.natAbs ^ 2

/-! ### The peak of a readout (R152) -/

/-- Twice the median of a list of numbers (DESIGN CHOICE, log 93: of an even count, the mean of the middle two). -/
def median2 (ns : List Nat) : Nat :=
  let l := sortNats ns
  natAt l (l.length / 2) + natAt l ((l.length - 1) / 2)

/-- The first place of the greatest number of a list. -/
def peakOf (ns : List Nat) : Nat := ns.findIdx (fun n => decide (n = maxOf id ns))

/-- The whole decibels, 0 to 255, by which a power stands above half a doubled one (DESIGN CHOICE, log 93: rounded down). -/
def decibels (p m2 : Nat) : Nat :=
  ((List.range 255).filter (fun d => decide (0 < p) && decide (10 ^ (d + 1) * m2 ^ 10 ≤ (2 * p) ^ 10))).length

/-! ### binary32 (R278) -/

/-- The binary32 nearest to p / q, ties to even, for q > 0. -/
def binary32 (p : Int) (q : Nat) : Nat :=
  let a := p.natAbs
  if a = 0 then 0
  else
    let e0 : Int := (Nat.log2 a : Int) - Nat.log2 q
    let low := if 0 ≤ e0 then decide (a < q * 2 ^ e0.toNat) else decide (a * 2 ^ (-e0).toNat < q)
    let e := max (if low then e0 - 1 else e0) (-126)
    let num := if e ≤ 23 then a * 2 ^ (23 - e).toNat else a
    let den := if e ≤ 23 then q else q * 2 ^ (e - 23).toNat
    let up := decide (den < 2 * (num % den)) || (decide (2 * (num % den) = den) && decide (num / den % 2 = 1))
    let m := num / den + b2n up
    let bits := if m < 8388608 then m else (e + 126).toNat * 8388608 + m
    min bits 2139095040 + (if p < 0 then 2147483648 else 0)

end Sys2Proof.Machine
end

