-- ==== Sys2Proof/Machine/Courses.lean ====
section
/-! DEFINITION. Scanned courses: slots, cycles, results, urgent requests (05, R123 to R155), and the open-wire monitors of both
kinds of channel (04, R108 to R111; 05, R143 to R145). -/

namespace Sys2Proof.Machine

/-! ### Settings and lengths (R125, R126, R129, R130, R133, R150) -/

def courseAt (s : State) (c : Nat) : CourseRun := tget courseRun0 s.fe.courses c
def putCourse (c : Nat) (r : CourseRun) (s : State) : State := { s with fe.courses := tput courseRun0 s.fe.courses c r }
def courseOf (g : Settings) (c : Nat) : CourseSet := tget courseSet0 g.courses c
def scanOf (g : Settings) (n : Nat) : ScanSet := tget scanSet0 g.scan n

/-- Kinds by position (R126). -/
def kindDivider : Nat := 2
def kindVoltDiff : Nat := 3
def kindVoltSe : Nat := 4
def kindVw : Nat := 5

/-- Slot lengths in ns by position (R125), and window rounding units. -/
def slotNs (p : Nat) : Nat := natAt [100000, 200000, 500000, 1000000, 2000000, 5000000, 10000000, 20000000, 100000000] p
def roundNs (p : Nat) : Nat := natAt [5000, 20000000, 50000000] p

/-- Length of an entry's slot in ns (R133). -/
def entryNs (cs : CourseSet) (sc : ScanSet) : Nat := if sc.kind = kindVw then 50000000 * cs.vwSlot else slotNs cs.slot

/-- Conversion window of an ordinary entry (R130), measurement window of a VW entry (R150), in ns; 0 where none is left. -/
def windowNs (cs : CourseSet) (sc : ScanSet) : Nat :=
  if sc.kind = kindVw then 50000000 * cs.vwSlot - (100 + 1000 * sc.d + 50000000 + 1000000 * sc.listen)
  else roundNs cs.rounding * ((slotNs cs.slot - (100 + 1000 * sc.d + 1000 * sc.s)) / roundNs cs.rounding)

/-- Entries of a course that name an enabled channel (R133). -/
def courseList (g : Settings) (c : Nat) : List Nat := (courseOf g c).scan.filter (fun p => (scanOf g (8 * c + p)).enable)

/-- The first `n` entries' slots in ns, and T_cyc. -/
def slotsBefore (g : Settings) (c n : Nat) : Nat :=
  ((courseList g c).take n).foldl (fun a p => a + entryNs (courseOf g c) (scanOf g (8 * c + p))) 0
def cycleNs (g : Settings) (c : Nat) : Nat := slotsBefore g c (courseList g c).length

/-- Value and sign format of a kind (R127): offset binary for DIVIDER and VOLTAGE_SE. -/
def offsetKind (k : Nat) : Bool := decide (k = kindDivider) || decide (k = kindVoltSe)

/-! ### Settings taking effect (R136, R141) -/

/-- What waits for the end of the cycle differs: enabling, or the kind to or from VW. -/
def structDiffers (a b : ScanSet) : Bool :=
  decide (a.enable ≠ b.enable) || decide (decide (a.kind = kindVw) ≠ decide (b.kind = kindVw))

/-- A channel's settings take effect at the start of its slot, unless they change the cycle. -/
def applyChan (n : Nat) (s : State) : State :=
  if structDiffers (scanOf s.cfg n) (scanOf s.live n) then s
  else { s with live.scan := tput scanSet0 s.live.scan n (scanOf s.cfg n) }

/-- The measurement window's start in CCLK after a VW slot's start (R150). -/
def vwWindowStart (sc : ScanSet) : Nat := (100 + 1000 * sc.d + 50000000 + 1000000 * sc.listen) * 2 / 5

/-- Current limit, driver and realign policy take effect at a slot boundary; a driver switched on again ends R140. -/
def applySlot (c : Nat) (s0 : State) : State :=
  let n := courseOf s0.cfg c
  let r := courseAt s0 c
  let s := if r.driverOn then endAlarm 0x0204 c [] (putCourse c { r with driverOn := false, driverOff := false } s0) else s0
  { s with live.courses := tput courseSet0 s.live.courses c
             { courseOf s.live c with iLim := n.iLim, driver := n.driver, realign := n.realign } }

/-- Everything of a course takes effect at the end of its cycle. -/
def applyCourse (c : Nat) (s : State) : State :=
  { s with live.courses := tput courseSet0 s.live.courses c (courseOf s.cfg c)
           live.scan := tputAll scanSet0 s.live.scan ((List.range 8).map (8 * c + ·)) (fun n => scanOf s.cfg n) }

/-- A change waits for the end of the cycle. -/
def cycleChange (s : State) (c : Nat) : Bool :=
  let a := courseOf s.cfg c
  let b := courseOf s.live c
  decide ((a.scan, a.slot, a.vwSlot, a.rounding) ≠ (b.scan, b.slot, b.vwSlot, b.rounding)) ||
    (List.range 8).any (fun p => structDiffers (scanOf s.cfg (8 * c + p)) (scanOf s.live (8 * c + p)))

/-! ### Slots (R129, R133 to R136, R147) -/

/-- COURSE_CYCLE reports the window of every entry in 100 ns (R136, R217). -/
def cycleEvent (c b : Nat) (s : State) : State :=
  let ws := (courseList s.live c).map (fun p => leBytes 3 (windowNs (courseOf s.live c) (scanOf s.live (8 * c + p)) / 100))
  eventAt 0x0302 c (stampOf (b / 2)) (padTo 48 ws.flatten) s

/-- Start a slot at boundary `b`. -/
def startSlot (c b pos : Nat) (urgent : Option CmdHdr) (redo : Bool) (s : State) : State :=
  let t := applyChan (8 * c + pos) s
  let r := courseAt t c
  let len := 2 * entryNs (courseOf t.live c) (scanOf t.live (8 * c + pos))
  putCourse c { r with slot := some { entry := r.entry, pos := pos, start := b, len := len, urgent := urgent, redo := redo
                                      slipped := urgent.isSome || decide (0 < r.slip) }
                       redoNext := if urgent.isSome then r.redoNext else false, seen := [] } t

/-- The slip of an entry that starts at `b`: how far its cycle is off a multiple of T_cyc (R135), in ns; an event where it
changes to one. -/
def noteSlip (c b : Nat) (s : State) : State :=
  let r := courseAt s c
  let cyc := cycleNs s.live c
  let slip := (b / 2 + cyc - slotsBefore s.live c r.entry % cyc) % cyc
  let t := putCourse c { r with slip := slip } s
  if slip ≠ r.slip ∧ 0 < slip then eventAt 0x0301 c (stampOf (b / 2)) (leSigned 8 slip) t else t

/-- Start the entry at which the sequence stands. -/
def startEntry (c b : Nat) (s : State) : State :=
  let t := noteSlip c b s
  let r := courseAt t c
  startSlot c b (natAt (courseList t.live c) r.entry) none r.redoNext t

/-- A course between cycles takes its settings and waits for a multiple of T_cyc (R134 to R136). -/
def awaitCycle (c b : Nat) (s : State) : State :=
  let changed := cycleChange s c || (courseAt s c).list.isEmpty
  let t := applyCourse c s
  let l := courseList t.live c
  let r := courseAt t c
  if l.isEmpty then putCourse c { r with waiting := false, entry := 0, list := [] } t
  else if b % (2 * cycleNs t.live c) = 0 then
    startEntry c b ((if changed then cycleEvent c b else id)
      (putCourse c { r with waiting := false, entry := 0, list := l, slip := 0, realignOnce := false } t))
  else putCourse c { r with waiting := true, entry := 0, list := if changed then [] else r.list, realignOnce := false } t

/-- The sequence goes on at boundary `b`: the next entry, or the end of the cycle, after which the course may wait. -/
def runSequence (c b : Nat) (s : State) : State :=
  let r := courseAt s c
  if r.waiting ∨ r.list.isEmpty then awaitCycle c b s
  else if r.entry < r.list.length then startEntry c b s
  else if cycleChange s c ∨ r.realignOnce = true then awaitCycle c b s
  else
    let t := noteSlip c b (putCourse c { r with entry := 0 } s)
    if (courseOf t.live c).realign = 1 ∧ 0 < (courseAt t c).slip then awaitCycle c b t else startEntry c b t

/-- The next slot of a course at boundary `b`: a queued urgent request first (R147). -/
def nextSlot (c b : Nat) (s : State) : State :=
  let t := applySlot c s
  let r := courseAt t c
  match r.urgents with
  | u :: rest =>
    if u.due ≤ b then startSlot c b u.pos (some u.hdr) u.redo (putCourse c { r with urgents := rest } t) else runSequence c b t
  | [] => runSequence c b t

/-! ### Results (R131, R139 to R145, R150 to R155) -/

/-- N and Δ of R151: the crossings from the window's start to before its end, in CCLK after the slot start. -/
def vwCount (start stop : Nat) (crossings : List Nat) : Nat × Nat :=
  let l := crossings.filter (fun t => decide (start ≤ t) && decide (t < stop))
  (l.length - 1, natAt l (l.length - 1) - natAt l 0)

/-- The bin of the spectral peak, and its margin in dB over the median of the other bins in the sweep band (R152): bins 1 to 511 of the Hann
spectrum, a bin of the band having its centre in it (DESIGN CHOICE, log 93). -/
def vwPeak (sc : ScanSet) (samples : List Int) : Nat × Nat :=
  let xs := windowed 1 1024 samples
  let ps := (List.range 511).map (fun i => binPower 1024 (i + 1) xs)
  let k := peakOf ps + 1
  let band := ((List.range 511).map (· + 1)).filter (fun j =>
    decide (sc.sweepLo * 10000 ≤ j * 390625) && decide (j * 390625 ≤ sc.sweepHi * 10000) && decide (j ≠ k))
  (k, decibels (natAt ps (k - 1)) (median2 (band.map (fun j => natAt ps (j - 1)))))

/-- The VW value, its status and the peak's margin (R151, R152). -/
def vwResult (sc : ScanSet) (len : Nat) (m : SlotMeas) : Int × Nat × Nat :=
  let n := vwCount (vwWindowStart sc) len m.crossings
  let f := if n.2 = 0 then 0 else roundDiv (n.1 * 256 * 400000000) n.2
  let p := vwPeak sc m.samples
  if n.1 < 32 then (0, 1, p.2)
  else if p.1 * 390625 < sc.sweepLo * 10000 ∨ sc.sweepHi * 10000 < p.1 * 390625 then (0, 2, p.2)
  else if 40 * 2560000 < (f * 10000 - (p.1 : Int) * 390625 * 256).natAbs then (0, 3, p.2)
  else if p.2 < 12 then (0, 4, p.2)
  else (clip 0 16777215 f, 0, p.2)

/-- Monitors that tag a slot's result (R143). -/
def slotMonitors (sc : ScanSet) (driven : Bool) (seen : List Monitor) : List Monitor :=
  if sc.openWire then
    seen.filter (fun m => match m with
      | .tap => driven && decide (0 < sc.iMin)
      | .sense => decide (sc.kind ≠ kindVw) && (sc.ratio || decide (sc.kind = kindDivider))
      | .input => true)
  else []

/-- Start of the settle phase, or of the pluck, in half ns after the slot start (R129, R150). -/
def settleStart (sc : ScanSet) : Nat := 200 + 2000 * sc.d

/-- Faults of a course that reach a position: its own, and the sense pair's. -/
def breaksOf (r : CourseRun) (pos : Nat) : List Monitor :=
  (r.breaks.filter (fun e => decide (e.2 = none) || decide (e.2 = some pos))).map (·.1)

/-- Monitors that report in the slot's settle and conversion: those seen, and the faults still present (R143, R144). -/
def slotFaults (r : CourseRun) (pos : Nat) : List Monitor := r.seen ++ (breaksOf r pos).filter (fun m => !r.seen.contains m)

/-- The least status other than OK (R155). -/
def leastStatus (codes : List Nat) : Nat :=
  match codes.filter (fun c => decide (c ≠ 0)) with
  | [] => 0
  | c :: cs => cs.foldl min c

/-- The result of the slot that ends (R131, R139, R140, R142, R143, R150, R152, R189, R505). -/
def slotResult (s : State) (c : Nat) (sl : Slot) (m : SlotMeas) : ScanOut :=
  let r := courseAt s c
  let n := 8 * c + sl.pos
  let sc := scanOf s.live n
  let vw := decide (sc.kind = kindVw)
  let exc := decide (sc.exc ≠ 0)
  let driven := exc && (courseOf s.live c).driver && !r.driverOff
  let undriven := exc && !driven
  let noRef := undriven && (sc.ratio || decide (sc.kind = kindDivider)) && !vw
  let v := vwResult sc (sl.len / 5) m
  let raw := correct (factorsAt s (132 + c)).set sc.gain m.raw
  let ob := offsetKind sc.kind
  let x := if vw then v.1 else if noRef then (if ob then -8388608 else 0) else clipInput ob raw
  let overRange := !vw && !noRef && decide (x ≠ raw)
  let mons := slotMonitors sc driven (slotFaults r sl.pos)
  let coil := vw && m.coilOpen
  let outOfReg := driven && (m.outOfReg || m.limited)
  let low := (dieAt s (c / 8)).vexcLow
  let cal := decide ((factorsAt s (132 + c)).set.result ≠ 0) && decide ((factorsAt s (132 + c)).set.result ≠ 7)
  let wire := !mons.isEmpty || coil
  let valid := !(wire || overRange || undriven || low || cal || (sl.redo && outOfReg) || (vw && decide (v.2.1 ≠ 0)))
  let stEnd := sl.start + sl.len
  { course := c, pos := sl.pos, x := x, zero := noRef || (vw && decide (v.2.1 ≠ 0)), vw := vw, offsetBin := ob,
    tags := mkTag valid false wire overRange (undriven || outOfReg || low || sl.redo) false false,
    stamp := stEnd / 2 - windowNs (courseOf s.live c) sc / 2, slotEnd := stEnd, urgent := sl.urgent.isSome, redone := sl.redo
    slipped := sl.slipped
    status := leastStatus ([if vw then v.2.1 else 0, if coil then 5 else 0, if outOfReg || low then 0x20 else 0,
      if undriven then 0x21 else 0] ++ mons.map (fun k => 0x10 + monitorCode k))
    aux := if vw then v.2.2 else 0 }

/-- Code of the monitor that an open-wire result names: the first of those that tag it (R145). -/
def slotMonitorCode (s : State) (c : Nat) (sl : Slot) : Nat :=
  let sc := scanOf s.live (8 * c + sl.pos)
  let driven := decide (sc.exc ≠ 0) && (courseOf s.live c).driver && !(courseAt s c).driverOff
  match (slotMonitors sc driven (slotFaults (courseAt s c) sl.pos)).head? with | some k => monitorCode k | none => 2

/-- The 24-bit field of a scanned value before correction. -/
def scanField (o : ScanOut) : Nat := if o.offsetBin then (o.x + 8388608).toNat else field24 o.x

/-- The entry of the course's result buffer (R155). -/
def resultEntry (s : State) (o : ScanOut) : ResultEntry :=
  { word := sampleWord false (scanField o) o.tags, stamp := stampOf o.stamp, fret := o.slotEnd / period2 s % 4294967296
    chan := 8 * o.course + o.pos
    flags := b2n o.urgent + 2 * b2n o.redone + 4 * b2n o.vw + 8 * b2n o.slipped, status := o.status, aux := o.aux }

/-- Its 16 bytes. -/
def entryBytes (e : ResultEntry) : List Byte :=
  leBytes 4 e.word ++ leBytes 4 e.stamp ++ leBytes 4 e.fret ++
    [BitVec.ofNat 8 e.chan, BitVec.ofNat 8 e.flags, BitVec.ofNat 8 e.status, BitVec.ofNat 8 e.aux]

/-- Put an entry into the circular buffer of 64 (R154). -/
def bufferEntry (c : Nat) (e : ResultEntry) (s : State) : State :=
  let r := courseAt s c
  if 64 ≤ r.buffer.length then
    putCourse c { r with buffer := r.buffer.drop 1 ++ [e], overwrites := (r.overwrites + 1) % 4294967296 } s
  else putCourse c { r with buffer := r.buffer ++ [e] } s

/-- Consecutive OPEN_WIRE results raise the event; the first without clears it (R145). -/
def noteScanWire (o : ScanOut) (mon : Nat) (s : State) : State :=
  let n := 8 * o.course + o.pos
  let r := tget scanRun0 s.fe.scan n
  let put (q : ScanRun) (t : State) : State := { t with fe.scan := tput scanRun0 t.fe.scan n q }
  let code := chanCode ⟨.scanned, n⟩
  if bitOf o.tags tagOpenWire then
    let first := if r.owRun = 0 then stampOf o.stamp else r.owFirst
    let t := put { r with owRun := r.owRun + 1, owFirst := first, owRaised := r.owRaised || decide (1 ≤ r.owRun) } s
    if 1 ≤ r.owRun ∧ ¬ r.owRaised then eventAt 0x0201 code first [BitVec.ofNat 8 mon] t else t
  else
    let t := put { r with owRun := 0, owRaised := false } s
    if r.owRaised then eventAt 0x0202 code (stampOf o.stamp) [] t else t

/-- Three consecutive VW failures raise an event (R153). -/
def noteVw (o : ScanOut) (s : State) : State :=
  let n := 8 * o.course + o.pos
  let r := tget scanRun0 s.fe.scan n
  let fails := if o.vw ∧ 1 ≤ o.status ∧ o.status ≤ 4 then r.vwFails + 1 else 0
  let t := { s with fe.scan := tput scanRun0 s.fe.scan n { r with vwFails := fails } }
  if fails = 3 then eventAt 0x0303 (chanCode ⟨.scanned, n⟩) (stampOf o.stamp) [BitVec.ofNat 8 o.status] t else t

/-- Deliver a result: its fret buffer, the trigger unit 80 CCLK after the slot end, the result buffer, the events, and the
completion of an urgent request (R132, R145, R147, R154, R232). -/
def deliverScan (o : ScanOut) (mon : Nat) (urgent : Option CmdHdr) (s : State) : State :=
  let e := resultEntry s o
  let t1 := match s.fret.gather with
    | none => s
    | some b => { s with fret.gather := some { b with scans := b.scans ++ [o] } }
  let t2 := { t1 with trig.flight := t1.trig.flight ++
                        [{ src := ⟨.scanned, 8 * o.course + o.pos⟩, x := o.x, tags := o.tags, inst := o.stamp, arrive := o.slotEnd + 400 }] }
  let t3 := noteVw o (noteScanWire o mon (bufferEntry o.course e t2))
  match urgent with
  | none => t3
  | some h => finish h 0x0209 (okData (entryBytes e)) t3

/-- Two slots in current limit throughout switch the driver off (R140). -/
def noteLimit (c : Nat) (limited : Bool) (s : State) : State :=
  let r := courseAt s c
  let k := if limited then r.limits + 1 else 0
  if 2 ≤ k ∧ ¬ r.driverOff then raiseAlarm 0x0204 c [] (putCourse c { r with limits := 0, driverOff := true } s)
  else putCourse c { r with limits := k } s

/-- A slot ends at the boundary at which a large step is due: it counts as interrupted (R54). -/
def cutByStep (sl : Slot) (s : State) : Bool :=
  (largeStepAt (sl.start + sl.len) s).isSome && decide (sl.start + sl.len = period2 s * (s.fret.idx + 1))

/-- SLOT_END: the slot's result, and the next slot (R132, R133). A slot that a large step interrupts stays for FRET_BOUNDARY, which restarts its
entry (R54). -/
def onSlotEnd (c : Nat) (m : SlotMeas) (s : State) : State :=
  match (courseAt s c).slot with
  | none => s
  | some sl =>
    let s1 := toInstant (sl.start + sl.len) s
    if cutByStep sl s then s1
    else
      let o := slotResult s1 c sl m
      let exc := decide ((scanOf s1.live (8 * c + sl.pos)).exc ≠ 0)
      let s2 := deliverScan o (slotMonitorCode s1 c sl) sl.urgent (noteLimit c (exc && m.limited && (courseOf s1.live c).driver) s1)
      let r := courseAt s2 c
      nextSlot c (sl.start + sl.len) (putCourse c { r with slot := none, entry := if sl.urgent.isSome then r.entry else r.entry + 1 } s2)

def execSlotEnd (course : Nat) (meas : SlotMeas) (s : State) : Host.Outcome State Fault Refusal := .next (onSlotEnd course meas s)

/-! ### Boundaries (R134, R141, R142, R147) -/

/-- A forced change reaches the running slot (R141, R142): the limit changed, or, under an excited channel, its excitation or the driver, one
that R140 switched off and the command brings back included. What a command without FORCE has changed waits as before. -/
def forceAffects (s : State) (c : Nat) (sl : Slot) : Bool :=
  let r := courseAt s c
  let a := scanOf s.cfg (8 * c + sl.pos)
  let b := scanOf s.live (8 * c + sl.pos)
  let whole := r.forced.contains none
  (whole && decide ((courseOf s.cfg c).iLim ≠ (courseOf s.live c).iLim)) ||
    (decide (b.exc ≠ 0) && ((r.forced.contains (some sl.pos) && decide (a.exc ≠ b.exc)) ||
      (whole && decide ((courseOf s.cfg c).driver ≠ (courseOf s.live c).driver)) || (!r.forced.isEmpty && r.driverOn && r.driverOff)))

/-- The result of a redo that is itself aborted: value 0 with EXC_EVENT and VALID = 0, at the abort boundary (R142). -/
def abortedRedo (s : State) (c b : Nat) (sl : Slot) : ScanOut :=
  let sc := scanOf s.live (8 * c + sl.pos)
  { course := c, pos := sl.pos, x := if offsetKind sc.kind then -8388608 else 0, vw := decide (sc.kind = kindVw)
    zero := true, offsetBin := offsetKind sc.kind, tags := mkTag false false false false true false false, stamp := b / 2, slotEnd := b
    urgent := sl.urgent.isSome, redone := true, slipped := sl.slipped, status := 0x20, aux := 0 }

/-- A slot is aborted by a forced change (R142). -/
def forceAbort (c b : Nat) (sl : Slot) (s : State) : State :=
  let r := courseAt s c
  let t := applyChan (8 * c + sl.pos) s
  if sl.redo then
    let u := deliverScan (abortedRedo t c b sl) 2 sl.urgent t
    let q := courseAt u c
    nextSlot c b (putCourse c { q with slot := none, entry := if sl.urgent.isSome then q.entry else q.entry + 1 } u)
  else
    match sl.urgent with
    | some h =>
      nextSlot c b (putCourse c { r with slot := none, urgents := { pos := sl.pos, due := b, redo := true, hdr := h } :: r.urgents } t)
    | none => nextSlot c b (putCourse c { r with slot := none, redoNext := true } t)

/-- A course at a fret boundary: a forced change, an urgent request, a cycle that begins. -/
def courseBoundary (b c : Nat) (s : State) : State :=
  let r := courseAt s c
  match r.slot with
  | none => nextSlot c b (putCourse c { r with forced := [] } s)
  | some sl =>
    if sl.start + sl.len ≤ b then s
    else
      let s1 := putCourse c { r with forced := [] } s
      if forceAffects s c sl then forceAbort c b sl s1
      else
        match r.urgents with
        | u :: _ =>
          if sl.urgent.isNone ∧ u.due ≤ b then nextSlot c b (putCourse c { courseAt s1 c with slot := none, redoNext := sl.redo } s1)
          else s1
        | [] => s1

/-- A course stops: its slot gives no result, its urgent requests complete REFUSED_STATE (R149, R401). -/
def stopCourse (code : Nat) (c : Nat) (s : State) : State :=
  let r := courseAt s c
  let running := match r.slot with | none => [] | some sl => match sl.urgent with | none => [] | some h => [h]
  let hs := running ++ r.urgents.map (·.hdr)
  let t := putCourse c { r with slot := none, waiting := false, entry := 0, list := [], slip := 0, redoNext := false, forced := []
                                urgents := [], seen := [], limits := 0 } s
  hs.foldl (fun u h => finish h 0x0209 (refusedState code 0) u) (applyCourse c t)

/-- A large step interrupts a slot: its entry, or its urgent request, runs again from its gap (R54). -/
def regridCourse (b c : Nat) (s : State) : State :=
  let r := courseAt s c
  match r.slot with
  | none => s
  | some sl =>
    match sl.urgent with
    | some h => putCourse c { r with slot := none, urgents := { pos := sl.pos, due := b, redo := sl.redo, hdr := h } :: r.urgents } s
    | none => putCourse c { r with slot := none, redoNext := sl.redo } s

/-! ### Open-wire monitors (R108, R111, R143) -/

/-- A learning run meets an open wire: the spare is released, unless it replaces a stuck slice. -/
def wireInLearning (c : Nat) (s : State) : State :=
  let r := spareAt s (c / 32)
  if r.phase = .learning ∧ r.chan = c ∧ r.use ≠ .replace then releaseSpare (c / 32) (finishSpare (c / 32) okReply s) else s

/-- A monitor reports a fault of a dynamic channel, where the monitor watches (R108). -/
def dynWire (m : Monitor) (c : Nat) (s : State) : State :=
  let d := dynLive s c
  let blank := railOff s (railOf c) || railRamp s (railOf c) s.time.half || decide ((railLive s (railOf c)).voltage = 0)
  if d.enable && d.openWire && monitorWatches d m && (decide (m = .input) || !blank) && !dieOut s (c / 32) then
    let r := dynRun s c
    wireInLearning c (putDyn c { r with openMon := if r.openMon.contains m then r.openMon else r.openMon ++ [m]
                                        owClear := r.owClear.filter (fun k => decide (k ≠ m)) } s)
  else s

/-- The running slot of a course is in its settle or conversion phase (R143). -/
def slotWatches (s : State) (c : Nat) (sl : Slot) : Bool := decide (sl.start + settleStart (scanOf s.live (8 * c + sl.pos)) ≤ s.time.half)

/-- The monitors that the running slot has seen, with faults that reach its position now. -/
def seeBreaks (s : State) (c : Nat) (ms : List (Monitor × Option Nat)) : List Monitor :=
  let r := courseAt s c
  match r.slot with
  | none => r.seen
  | some sl =>
    if slotWatches s c sl then r.seen ++ (breaksOf { r with breaks := ms } sl.pos).filter (fun m => !r.seen.contains m) else r.seen

/-- A fault of a scanned channel, or of a course's sense pair, begins: it is there until its monitor reports it gone (R143, R144; DESIGN CHOICE,
log 95). -/
def slotWire (m : Monitor) (c : Nat) (pos : Option Nat) (s : State) : State :=
  let r := courseAt s c
  putCourse c { r with breaks := if r.breaks.contains (m, pos) then r.breaks else r.breaks ++ [(m, pos)], seen := seeBreaks s c [(m, pos)] } s

/-- A fault of a scanned channel, or of a course's sense pair, ends: the slot it was present in still sees it (R143). -/
def slotClear (m : Monitor) (c : Nat) (pos : Option Nat) (s : State) : State :=
  let r := courseAt s c
  putCourse c { r with breaks := r.breaks.filter (fun e => decide (e ≠ (m, pos)))
                       seen := seeBreaks s c (r.breaks.filter (fun e => decide (e = (m, pos)))) } s

/-- OPEN_WIRE_DETECT (R108, R143). -/
def onWire (m : Monitor) (site : WireSite) (s : State) : State :=
  match site with
  | .channel c =>
    match c.kind with
    | .dynamic => dynWire m c.num s
    | .scanned => slotWire m (c.num / 8) (some (c.num % 8)) s
    | _ => s
  | .rail e => ((List.range 8).map (8 * e + ·)).foldl (fun t c => dynWire m c t) s
  | .course c => slotWire m c none s

def execOpenWireDetect (monitor : Monitor) (site : WireSite) (s : State) : Host.Outcome State Fault Refusal :=
  .next (onWire monitor site s)

/-- A monitor of a dynamic channel has been quiet for 1 ms: the fault clears at the next boundary (R111). -/
def wireQuiet (m : Monitor) (c : Nat) (s : State) : State :=
  let r := dynRun s c
  if r.openMon.contains m then putDyn c { r with owClear := if r.owClear.contains m then r.owClear else r.owClear ++ [m] } s else s

/-- OPEN_WIRE_CLEAR_TIMEOUT (R111); a course's event clears with its next result without the tag (R145). -/
def onWireQuiet (m : Monitor) (site : WireSite) (s : State) : State :=
  match site with
  | .channel c =>
    match c.kind with
    | .dynamic => wireQuiet m c.num s
    | .scanned => slotClear m (c.num / 8) (some (c.num % 8)) s
    | _ => s
  | .rail e => ((List.range 8).map (8 * e + ·)).foldl (fun t c => wireQuiet m c t) s
  | .course c => slotClear m c none s

def execOpenWireClearTimeout (monitor : Monitor) (site : WireSite) (s : State) : Host.Outcome State Fault Refusal :=
  .next (onWireQuiet monitor site s)

/-- Faults that clear at boundary `b`: outputs up to the channel's reset boundary keep OPEN_WIRE (DEDUCED, log 68), the channel is reset, the
event is raised (R111). -/
def wireBoundary (b : Nat) (s : State) : State :=
  (s.fe.dyn.filter (fun e => !e.2.owClear.isEmpty && decide (e.1 < 128))).foldl (fun t e =>
    let r := dynRun t e.1
    let d := dynLive t e.1
    let t1 := putDyn e.1 { r with openMon := r.openMon.filter (fun m => !r.owClear.contains m), owClear := [], owUntil := some (resetBoundary d b) } t
    let t2 := if d.enable && t.fret.acquiring && !dieOut t (e.1 / 32) then resetChannel e.1 b causeWire 0 false t1 else t1
    eventAt 0x0202 (dynCode e.1) (stampOf (resetBoundary d b / 2)) [] t2) s

/-! ### Commands (R135, R147 to R149, R154) -/

/-- COURSE_REALIGN: the wait of AT_CYCLE_END once, on one course or on all; it completes as accepted (R135, R392). -/
def execCourseRealign (h : CmdHdr) (course : Nat) (s : State) : Host.Outcome State Fault Refusal :=
  .next (runCommand h 0x0208 (fun _ => firstBad [(28, decide (31 < course) && decide (course ≠ 0xFF))])
    (fun t => finish h 0x0208 okReply
      ((if course = 0xFF then List.range 32 else [course]).foldl (fun u c => putCourse c { courseAt u c with realignOnce := true } u) t)) s)

/-- Urgent requests of a course, the running one included. -/
def urgentCount (s : State) (c : Nat) : Nat :=
  (courseAt s c).urgents.length + (match (courseAt s c).slot with | none => 0 | some sl => if sl.urgent.isSome then 1 else 0)

/-- Why an urgent request is refused (R148, R149). -/
def urgentCheck (h : CmdHdr) (chan : Chan) (s : State) : Option Reply :=
  let c := chan.num / 8
  orElseReply (firstBad [(12, decide (h.dataLen < 16)),
      (28, !(decide (chan.kind = .scanned) && chanOk chan) || !(scanOf s.live chan.num).enable)])
    (if !s.fret.acquiring then some (refusedState 2 0)
     else if dieOut s (c / 8) then some (refusedState 5 0)
     else if 4 ≤ urgentCount s c then some (busy 6 c) else none)

/-- URGENT_READ: queued for the first boundary after the hand-off (R147). -/
def execUrgentRead (h : CmdHdr) (chan : Chan) (s : State) : Host.Outcome State Fault Refusal :=
  .next (runCommand h 0x0209 (urgentCheck h chan)
    (fun t =>
      let c := chan.num / 8
      let r := courseAt t c
      putCourse c { r with urgents := r.urgents ++ [{ pos := chan.num % 8, due := boundaryAfter 1 t, redo := false, hdr := h }] } t) s)

/-- COURSE_RESULT_READ: the overwrite counter, the count, the entries oldest first (R154). -/
def execCourseResultRead (h : CmdHdr) (course : Nat) (s : State) : Host.Outcome State Fault Refusal :=
  .next (readCommand h 0x020A 8 (fun _ => firstBad [(28, decide (31 < course))])
    (fun t =>
      let r := courseAt t course
      leBytes 4 r.overwrites ++ leBytes 4 r.buffer.length ++ (r.buffer.map entryBytes).flatten) s)

end Sys2Proof.Machine
end

