-- ==== Sys2Proof/Machine/Dies.lean ====
section
/-! DEFINITION. Front-end dies: isolation and return, CAL_SELF, factor sets and their trim walk, temperature (01, R21; 07, R184
to R195). -/

namespace Sys2Proof.Machine

/-! ### Isolation and return (R21, R184, R188, R211) -/

/-- The die of a channel, where it has one. -/
def dieOfChan (c : Chan) : Option Nat :=
  match c.kind with | .dynamic => some (c.num / 32) | .scanned => some (c.num / 64) | _ => none

/-- Condition entries of some channels start with no previous word (R211, R234, R237). -/
def clearPrev (f : Chan → Bool) (s : State) : State :=
  { s with trig.conds := s.trig.conds.map (fun e =>
      if f (tget condSet0 s.live.conds e.1).src then (e.1, { e.2 with prev := none }) else e) }

/-- The runs of a die's channels end. -/
def dropRuns (k : Nat) (s : State) : State :=
  { s with fe.dyn := s.fe.dyn.map (fun e =>
      if e.1 < 128 ∧ e.1 / 32 = k then
        (e.1, { e.2 with runStart := none, resetAt := none, causes := 0, edges := 0, outs := 0, window := [], notches := [], overload := []
                         openMon := [], owClear := [], owUntil := none, owRun := 0, owRaised := false, dueAt := none
                         badUntil := none, excUntil := none })
      else e) }

/-- A die is isolated at a boundary: its spare is released, its rotation stops, its runs and slots end (R21, R184). -/
def isolateDie (k : Nat) (why : Isolation) (s : State) : State :=
  let s1 := stopRotation k (releaseSpare k (finishSpare k (refusedState 5 0) s))
  let s2 := putDie k { dieAt s1 k with isolated := some why, isoWait := none, returnWait := false } (dropRuns k s1)
  ((List.range 8).map (8 * k + ·)).foldl (fun t c => stopCourse 5 c t) s2

/-- The enabled channels of a die begin new runs at boundary `b`; its condition entries start afresh (R21, R188). -/
def rejoinDie (k b : Nat) (s : State) : State :=
  let s1 := if (dieAt s k).isolated = some .link then endAlarm 0x0B05 k (leBytes 4 (dieAt s k).linkErrors) s else s
  let t := putDie k { dieAt s1 k with isolated := none, returnWait := false } s1
  let u := clearPrev (fun c => decide (dieOfChan c = some k)) t
  if u.fret.acquiring then
    ((List.range 32).map (32 * k + ·)).foldl (fun v c =>
      if (dynLive v c).enable then resetChannel c b causeDie 0 true v else v) u
  else u

/-- A die at a fret boundary: CAL_SELF starts, a reload starts, an isolation or a return takes effect. -/
def dieBoundary (b k : Nat) (s : State) : State :=
  let d := dieAt s k
  if d.calWait ∧ d.isolated = none then
    let t := isolateDie k .calibration s
    putDie k { dieAt t k with calWait := false, calEnd := some (b + 900000000) } t
  else if d.loadWait ∧ d.isolated = none then
    let t := isolateDie k .microcode s
    putDie k { dieAt t k with loadWait := false, loadEnd := some (b + 200000000) } t
  else if d.calWait then putDie k { d with calWait := false, calEnd := some (b + 900000000) } s
  else
    match d.isoWait with
    | some why => if d.isolated = none then isolateDie k why s else putDie k { d with isoWait := none } s
    | none => if d.returnWait then rejoinDie k b s else s

/-- A large step restarts a calibration from step 1 at the next boundary (R188). -/
def restartCal (k : Nat) (s : State) : State :=
  let d := dieAt s k
  if d.calEnd.isSome then putDie k { d with calEnd := none, calWait := true, calRestarts := d.calRestarts + 1 } s else s

/-! ### Factor sets (R187 to R195) -/

/-- The 41 factor-set numbers of a die in SETS order: slices, spare, courses (R192). -/
def dieSet (k i : Nat) : Nat := if i < 32 then 32 * k + i else if i = 32 then 128 + k else 132 + 8 * k + (i - 33)

/-- One tap toward a target (R194). -/
def tapToward (a t : Int) : Int := if a < t then a + 1 else if t < a then a - 1 else a
def tapNat (a t : Nat) : Nat := if a < t then a + 1 else a - (if t < a then 1 else 0)

/-- Trims move one tap; the rest of the set follows with the last trim (R194). -/
def walkSet (f : Factors) : Factors :=
  match f.target with
  | none => f
  | some t =>
    let th := List.zipWith tapToward f.set.thresh t.thresh
    let de := List.zipWith tapNat f.set.delay t.delay
    if th = t.thresh ∧ de = t.delay then { set := t, target := none }
    else { f with set := { f.set with thresh := th, delay := de } }

/-- TRIM_WALK_STEP of every set that moves. -/
def walkTrims (s : State) : State := { s with fe.factors := s.fe.factors.map (fun e => (e.1, walkSet e.2)) }

/-- CAL_WRITE commands whose sets have all arrived complete (R194, R392). -/
def finishWrites (effect : Nat) (s : State) : State :=
  let done (e : CmdHdr × List Nat) : Bool := e.2.all (fun n => (factorsAt s n).target.isNone)
  (s.fe.calWrites.filter done).foldl (fun t e => finishAt e.1 0x0303 okReply effect t)
    { s with fe.calWrites := s.fe.calWrites.filter (fun e => !done e) }

/-- A set's TEMP from which a die's temperature is more than 15 °C off (R195). -/
def driftedFrom (now temp : Int) : Bool := decide (temp ≠ -128) && decide (15 < (now - temp).natAbs)

/-- TEMP of the first of a die's loaded sets that its temperature has left; -128 none (R195). -/
def setsTemp (s : State) (k : Nat) : Int :=
  match (List.range 41).find? (fun i => driftedFrom (dieAt s k).temp (factorsAt s (dieSet k i)).set.temp) with
  | none => -128
  | some i => (factorsAt s (dieSet k i)).set.temp

/-- TEMP_DRIFT event where a die's temperature is more than 15 °C from a TEMP (R195). -/
def driftEvent (k : Nat) (temp : Int) (s : State) : State :=
  if driftedFrom (dieAt s k).temp temp then
    event 0x0211 k (leSigned 1 (dieAt s k).temp ++ leSigned 1 temp) s
  else s

/-- TEMP_DRIFT (R195). -/
def execTempDrift (die : Nat) (temp : Int) (s : State) : Host.Outcome State Fault Refusal :=
  let t := putDie die { dieAt s die with temp := temp } s
  .next (driftEvent die (setsTemp t die) t)

/-! ### CAL_SELF (R184 to R189) -/

/-- Readings of nothing. -/
def calReading0 : CalReading := { splits := [], gains := [], tone := 0 }

/-- What one set measured: kept with its result; a failing slice falls due as stuck, one that was stuck before included, a passing one is stuck
no longer; a failing course raises its alarm (R185 to R189). -/
def takeMeasured (k i : Nat) (m : CalReading) (s : State) : State :=
  let n := dieSet k i
  let j := measured (decide (i < 33)) (freshNat s) (List.zip (List.range 8) m.gains) m (dieAt s k).temp (factors0 n).set
  let t := useFree (putFactors n { set := j, target := none } s)
  if i < 32 then
    if j.result = 0 then clearStuck n t else putDyn n { dynRun t n with stuck := false, stuckDue := true } t
  else if i = 32 then t
  else if j.result = 0 then endAlarm 0x0214 (n - 132) [] t else raiseAlarm 0x0214 (n - 132) [BitVec.ofNat 8 j.result] t

/-- A set of the die failed. -/
def setFailed (s : State) (k i : Nat) : Bool :=
  decide ((factorsAt s (dieSet k i)).set.result ≠ 0) && decide ((factorsAt s (dieSet k i)).set.result ≠ 7)

/-- The CAL_RESULT event (R188). -/
def calResult (k : Nat) (s : State) : State :=
  let failed := (List.range 41).filter (setFailed s k)
  event 0x0210 k (leBytes 4 (maskOf (failed.filter (fun i => decide (i < 32)))) ++ [BitVec.ofNat 8 (b2n (failed.contains 32))] ++
    leBytes 1 (maskOf ((failed.filter (fun i => decide (33 ≤ i))).map (fun i => i - 33)))) s

/-- A die of a CAL_SELF command has ended: the next die starts, or the command completes with the count of restarts in
RESULT (R184, R188, DESIGN CHOICE, log 17). -/
def jobDieDone (k : Nat) (s : State) : State :=
  match s.fe.calJobs.find? (fun j => j.left.contains k) with
  | none => s
  | some j =>
    let left := j.left.filter (fun d => decide (d ≠ k))
    let others := s.fe.calJobs.filter (fun i => decide (i ≠ j))
    match left with
    | [] =>
      let n := j.dies.foldl (fun a d => a + (dieAt s d).calRestarts) 0
      finish j.hdr 0x0301 (okResult (leBytes 4 n)) { s with fe.calJobs := others }
    | d :: _ =>
      let t := { s with fe.calJobs := others ++ [{ j with left := left }] }
      if j.single then putDie d { dieAt t d with calWait := true, calRestarts := 0 } t else t

/-- CAL_SELF_END: at b + 450 ms the sets are judged and the die rejoins (R188). -/
def onCalEnd (k : Nat) (ms : List CalReading) (s : State) : State :=
  match (dieAt s k).calEnd with
  | none => s
  | some t =>
    let s1 := toInstant t s
    let s2 := (List.range 41).foldl (fun u i => takeMeasured k i ((ms[i]?).getD calReading0) u) s1
    let s3 := putDie k { dieAt s2 k with calEnd := none, returnWait := true } s2
    jobDieDone k (calResult k s3)

def execCalSelfEnd (die : Nat) (measured : List CalReading) (s : State) : Host.Outcome State Fault Refusal :=
  .next (onCalEnd die measured s)

/-- A die cannot be taken: isolated, or in CAL_SELF or waiting for it; or a command holds a channel of it (R184, R404). -/
def dieTaken (s : State) (k : Nat) : Option Reply :=
  let d := dieAt s k
  if d.isolated.isSome || d.calWait || d.calEnd.isSome || d.loadWait || d.isoWait.isSome ||
      s.fe.calJobs.any (fun j => j.left.contains k) then some (busy 1 k)
  else if (spareAt s k).hdr.isSome then some (busy 2 (dynCode (spareAt s k).chan))
  else none

/-- The first refusal among dies in ascending order. -/
def firstTaken (s : State) (ks : List Nat) : Option Reply := ks.foldl (fun a k => orElseReply a (dieTaken s k)) none

/-- CAL_SELF (R184): all dies together while stopped or with PARALLEL, else one at a time. -/
def execCalSelf (h : CmdHdr) (dies : List Nat) (s : State) : Host.Outcome State Fault Refusal :=
  .next (runCommand h 0x0301
    (fun t => orElseReply (firstBad [(28, dies.any (fun k => decide (3 < k)))]) (firstTaken t (sortNats dies)))
    (fun t =>
      let ks := sortNats dies
      let single := t.fret.acquiring && !h.parallel
      if ks.isEmpty then finish h 0x0301 (okResult (leBytes 4 0)) t
      else
        (if single then ks.take 1 else ks).foldl (fun u k => putDie k { dieAt u k with calWait := true, calRestarts := 0 } u)
          { t with fe.calJobs := t.fe.calJobs ++ [{ hdr := h, dies := ks, left := ks, single := single }] }) s)

/-- CAL_READ: the named sets as blocks, in mask order (R192). -/
def execCalRead (h : CmdHdr) (die : Nat) (sets : List Nat) (s : State) : Host.Outcome State Fault Refusal :=
  .next (readCommand h 0x0302 (132 * sets.length)
    (fun _ => firstBad [(28, decide (3 < die)), (29, sets.any (fun i => decide (40 < i)))])
    (fun t => ((sortNats sets).map (fun i =>
      let n := dieSet die i
      setBlock (setKind n) die (setIndex n) (factorsAt t n).set)).flatten) s)

/-- The 132 bytes of a block, read (R191). -/
def readSet (bs : List Byte) : CalBlock :=
  let word (i g : Nat) : Nat := fieldAt bs (i + 4 * g) 4
  { format := fieldAt bs 3 1, kind := fieldAt bs 2 1, die := fieldAt bs 1 1, index := fieldAt bs 0 1, uid := fieldAt bs 8 8
    set := { thresh := (List.range 15).map (fun t => asSigned 4 (fieldAt bs 16 8 / 16 ^ t)), delay := (List.range 8).map (fun g => fieldAt bs (24 + g) 1 % 64)
             offset := (List.range 8).map (fun g => asSigned 32 (word 32 g)), gain := (List.range 8).map (word 64)
             verified := (List.range 8).map (word 96), temp := asSigned 8 (fieldAt bs 4 1), result := fieldAt bs 5 1, failGain := fieldAt bs 6 1 }
    checkOk := decide (bs.length = 132) && decide (fieldAt bs 128 4 = (crc32c (bs.take 128)).toNat) }

/-- A set as its slice, spare or course takes it: a course has no trims (R181). -/
def forSet (n : Nat) (f : FactorSet) : FactorSet :=
  if n < 132 then f else { f with thresh := (factors0 n).set.thresh, delay := (factors0 n).set.delay }

/-- The offending fields of a CAL_WRITE block, by offset in its 132 bytes (R193). -/
def blockFaults (h : CmdHdr) (die n : Nat) (b : CalBlock) : List (Nat × Bool) :=
  [(0, decide (b.kind ≠ setKind n) || decide (b.die ≠ die) || decide (b.index ≠ setIndex n)),
   (5, decide (b.set.result ≠ 0)),
   (8, !h.force && decide (b.uid ≠ Config.feUid die % 18446744073709551616)),
   (128, !b.checkOk)]

/-- CAL_WRITE checks (R193). -/
def calWriteCheck (h : CmdHdr) (die : Nat) (sets : List Nat) (bytes : List (List Byte)) (s : State) : Option Reply :=
  let blocks := bytes.map readSet
  let ns := (sortNats sets).map (dieSet die)
  let faults := ((List.zip (List.range blocks.length) (List.zip ns blocks)).map (fun e =>
    (blockFaults h die e.2.1 e.2.2).map (fun f => (0x8000 + 132 * e.1 + f.1, f.2)))).flatten
  orElseReply
    (firstBad ([(12, decide (h.dataLen < 132 * sets.length) || decide (blocks.length ≠ sets.length)), (28, decide (3 < die)),
      (29, sets.any (fun i => decide (40 < i)))] ++ faults))
    (match blocks.find? (fun b => decide (b.format ≠ 1)) with
     | some b => some (versionBad b.format 1)
     | none =>
       let d := dieAt s die
       if d.isolated.isSome || d.calWait || d.calEnd.isSome || s.fe.calJobs.any (fun j => j.left.contains die) then some (busy 1 die)
       else none)

/-- CAL_WRITE: the sets become targets; the command completes with the last (R194); TEMP_DRIFT at once (R195). -/
def execCalWrite (h : CmdHdr) (die : Nat) (sets : List Nat) (blocks : List (List Byte)) (s : State) :
    Host.Outcome State Fault Refusal :=
  .next (runCommand h 0x0303 (calWriteCheck h die sets blocks)
    (fun t =>
      let ns := (sortNats sets).map (dieSet die)
      let u := (List.zip ns blocks).foldl (fun v e => putFactors e.1 { factorsAt v e.1 with target := some (forSet e.1 (readSet e.2).set) } v) t
      let w := match (blocks.map readSet).find? (fun b => driftedFrom (dieAt u die).temp b.set.temp) with
        | none => u
        | some b => driftEvent die b.set.temp u
      { w with fe.calWrites := w.fe.calWrites ++ [(h, ns)] }) s)

/-! ### DIE_ISOLATE (R21) -/

/-- A die that can return by command: isolated by one, or by a fault. -/
def returnable (d : DieRun) : Bool :=
  match d.isolated with | some .command => true | some .supply => true | some .link => true | _ => false

/-- DIE_ISOLATE checks. -/
def isolateCheck (die action : Nat) (s : State) : Option Reply :=
  let d := dieAt s die
  if action = 0 then (if d.isolated.isSome ∧ returnable d then none else dieTaken s die)
  else if d.isolated = none then (if d.calWait then some (busy 1 die) else none)
  else if returnable d then none
  else if d.isolated = some .unpowered then some (refusedState 5 0)
  else some (busy 1 die)

/-- DIE_ISOLATE: isolation and return, each at the next boundary (R21). -/
def execDieIsolate (h : CmdHdr) (die action : Nat) (s : State) : Host.Outcome State Fault Refusal :=
  .next (runCommand h 0x020F
    (fun t => orElseReply (firstBad [(28, decide (3 < die)), (29, decide (1 < action))]) (isolateCheck die action t))
    (fun t =>
      let d := dieAt t die
      if action = 0 then
        if d.isolated.isSome then finish h 0x020F okReply t
        else finishAtBoundary h 0x020F (putDie die { d with isoWait := some .command } t)
      else if d.isolated.isSome then finishAtBoundary h 0x020F (putDie die { d with returnWait := true } t)
      else finish h 0x020F okReply t) s)

end Sys2Proof.Machine
end

