-- ==== Sys2Proof/Machine/Admission.lean ====
section
/-! DEFINITION. Admission of configurations: the worst fret of R84, the reduction budgets of R279 and R281, the excitation
dissipation of R105 and R138, and the quota arithmetic of capture units (R244 to R246). -/

namespace Sys2Proof.Machine

/-! ### Counts of a configuration -/

/-- Settings of a dynamic channel in a copy. -/
def dynOf (c : Settings) (n : Nat) : DynSet := tget dynSet0 c.dyn n

/-- Outputs in the worst fret for a period in ns: P / T, and 1 where T exceeds P (R84, R214). -/
def wordsPer (t p : Nat) : Nat := if t ≤ p then p / t else 1

/-- Words of a dynamic channel in its worst fret; none where it is disabled. -/
def dynWords (c : Settings) (n : Nat) : Nat := if (dynOf c n).enable then wordsPer (outNs (dynOf c n)) c.period else 0

/-- Enabled dynamic and scanned channels of a die. -/
def dynOn (c : Settings) (k : Nat) : List Nat := ((List.range 32).map (32 * k + ·)).filter (fun n => (dynOf c n).enable)
def scanOn (c : Settings) (k : Nat) : List Nat := ((List.range 64).map (64 * k + ·)).filter (fun n => (scanOf c n).enable)

/-- Courses of a die that are not idle (R133). -/
def coursesOn (c : Settings) (k : Nat) : List Nat := ((List.range 8).map (8 * k + ·)).filter (fun i => !(courseList c i).isEmpty)

/-- Settings of a field port in a copy, and its slot length in ns (R428). -/
def fpOf (c : Settings) (p : Nat) : FpSet := tget fpSet0 c.fp p
def fpSlotNs (f : FpSet) : Nat := 1000000 * natAt [1, 2, 5, 10, 20, 50, 100] f.slot

/-- Enabled directory entries of a port, by number. -/
def portEntries (c : Settings) (p : Nat) : List (Nat × DirEntry) := c.dir.filter (fun e => e.2.enable && decide (e.2.port = p))

/-- A port polls: enabled, with an enabled entry. -/
def portOn (c : Settings) (p : Nat) : Bool := (fpOf c p).enable && !(portEntries c p).isEmpty

/-- Lengths of `n` items of `size` bytes split into blocks of at most `per` items, each after `head` bytes. -/
def splitBlocks (head size per n : Nat) : List Nat :=
  (List.range (ceilDiv n per)).map (fun i => head + size * min per (n - i * per))

/-! ### The records of the worst fret (R84) -/

/-- Payload lengths of the blocks of a stream's largest record, each with whether a history block serves it (R207 to R217). -/
def worstBlocks (c : Settings) (n : Nat) (x : StreamCtx) : List (Nat × Bool) :=
  let dies := [0, 1, 2, 3]
  if x.type = tySample then
    dies.filterMap (fun k =>
      let sel := (dynOn c k).filter (fun d => x.select.contains d)
      if sel.isEmpty then none else some (4 * sumOf (dynWords c) sel, !x.right && decide (sel = dynOn c k)))
  else if x.type = tyScan then
    dies.filterMap (fun k =>
      let live := (coursesOn c k).filter (fun i => (courseList c i).any (fun p => x.select.contains (8 * i + p)))
      if live.isEmpty then none
      else some (4 * live.length, !x.right && (scanOn c k).all (fun d => x.select.contains d)))
  else if x.type = tyPolled then
    (List.range 8).filterMap (fun p =>
      if (fpOf c p).enable && (portEntries c p).any (fun e => x.select.contains e.1) then some (12, true) else none)
  else
    match x.select with
    | [i] =>
      if x.type = tyCapHeader then
        let u := tget unitSet0 c.units i
        if i < 8 ∧ u.stream = n then [(96 + 256 * (bitsOf 4 u.select).length, false)] else []
      else if x.type = tyStats then
        let t := tget statsSet0 c.stats i
        if 0 < t.interval ∧ t.stream = n then (splitBlocks 0 28 2340 t.entries.length).map (fun b => (b, false)) else []
      else if x.type = tyRain then
        let t := tget rainSet0 c.rain i
        if 0 < t.interval ∧ t.stream = n then t.chans.map (fun _ => (32928, false)) else []
      else if x.type = tySpec then
        let t := tget specSet0 c.spec i
        let bins := 2 ^ (t.log2n - 1) + 1
        if 0 < t.a ∧ t.stream = n then
          ((t.chans.map (fun _ => splitBlocks 32 4 8192 bins)).flatten ++ (t.pairs.map (fun _ => splitBlocks 32 8 4096 bins)).flatten).map
            (fun b => (b, false))
        else []
      else []
    | _ => []

/-- Open streams with the blocks of their records in the worst fret. -/
def worstRecords (c : Settings) (ss : Table StreamCtx) : List (StreamCtx × List (Nat × Bool)) :=
  (ss.filter (fun e => e.2.isOpen)).map (fun e => (e.2, worstBlocks c e.1 e.2))

/-- The records that close. -/
def worstClosed (c : Settings) (ss : Table StreamCtx) : List (StreamCtx × List (Nat × Bool)) :=
  (worstRecords c ss).filter (fun e => !e.2.isEmpty)

/-- S, N, B, H and A of R84; each compressed stream adds 32 bytes to B (R281). -/
def worstS (c : Settings) : Nat :=
  sumOf (fun n => if (dynOf c n).enable then wordsPer (sincNs (dynOf c n)) c.period else 0) (List.range 128) +
    sumOf (fun k => (coursesOn c k).length) [0, 1, 2, 3]
def worstN (c : Settings) (ss : Table StreamCtx) : Nat := (worstClosed c ss).length
def worstB (c : Settings) (ss : Table StreamCtx) : Nat :=
  sumOf (fun e => 32 + sumOf (fun b => blockLen b.1) e.2) (worstClosed c ss) +
    32 * (ss.filter (fun e => e.2.isOpen && decide (0 < e.2.level))).length
def worstA (ss : Table StreamCtx) : Nat := (ss.filter (fun e => e.2.isOpen)).length
def worstH (c : Settings) (ss : Table StreamCtx) : Nat :=
  sumOf (fun k => (if (dynOn c k).isEmpty then 0 else blockLen (4 * sumOf (dynWords c) (dynOn c k)) + 4) +
      (if (coursesOn c k).isEmpty then 0 else blockLen (4 * (coursesOn c k).length) + 4)) [0, 1, 2, 3] +
    sumOf (fun p => if portOn c p then 28 else 0) (List.range 8) +
    sumOf (fun e => 36 + sumOf (fun b => if b.2 then 0 else blockLen b.1 + 4) e.2) (worstClosed c ss) +
    sumOf (fun e => 64 + (if 0 < e.2.level then 36 else 0)) (ss.filter (fun e => e.2.isOpen))

/-! ### The reduction and compression engines (R281) -/

/-- Words that a list of channels brings in one fret: a dynamic channel its outputs, a course or a port at most one word for
each time one of its channels is named. -/
def listWords (c : Settings) (cs : List Chan) : Nat :=
  let times (x : Chan) : Nat := (cs.filter (fun y => decide (y = x))).length
  sumOf (fun x => if x.kind = .dynamic then dynWords c x.num else 0) cs +
    sumOf (fun i => maxOf (fun p => times ⟨.scanned, 8 * i + p⟩) (courseList c i)) (List.range 32) +
    sumOf (fun p => if (fpOf c p).enable then maxOf (fun e => times ⟨.polled, e.1⟩) (portEntries c p) else 0) (List.range 8)

/-- The channels of all statistics entries, and of all rainflow sets, in operation. -/
def statsChans (c : Settings) : List Chan := ((c.stats.filter (fun e => decide (0 < e.2.interval))).map (fun e => e.2.entries)).flatten
def rainChans (c : Settings) : List Chan :=
  ((c.rain.filter (fun e => decide (0 < e.2.interval))).map (fun e => e.2.chans.map (·.chan))).flatten

/-- F_e of R275 in frets. -/
def rainFrets (interval p : Nat) : Nat := ceilDiv (1000000000 * interval) (2 * p)

/-- Cost of the statistics, rainflow and compression work in the worst fret. -/
def worstRC (c : Settings) (ss : Table StreamCtx) : Nat :=
  listWords c (statsChans c) + 8 * (statsChans c).length + 4 * listWords c (rainChans c) +
    sumOf (fun e => if 0 < e.2.interval then ceilDiv (4224 * e.2.chans.length) (rainFrets e.2.interval c.period) else 0) c.rain +
    sumOf (fun e => if 0 < e.1.level then
        16 + (if e.1.level ≤ 2 then 1 else if e.1.level = 3 then 2 else 4) * sumOf (fun b => ceilDiv b.1 4) e.2
      else 0) (worstClosed c ss)

/-! ### The FFT pipeline (R279) -/

/-- W_s + E_s of a set. -/
def specCost (t : SpecSet) : Nat :=
  if t.a = 0 then 0
  else 2 ^ t.log2n * ceilDiv t.chans.length 2 + 2 * ((2 ^ (t.log2n - 1) + 1) * (t.chans.length + t.pairs.length))

/-- Hop in words (R276). -/
def specHop (t : SpecSet) : Nat := 2 ^ (t.log2n - t.overlap)

/-- Hop of a set in CCLK: the output period of its channels is one. -/
def specHopCclk (c : Settings) (t : SpecSet) : Nat := specHop t * (2 * outNs (dynOf c (natAt t.chans 0)) / 5)

/-- W_total, and the sets in operation. -/
def specTotal (c : Settings) : Nat := sumOf (fun e => specCost e.2) c.spec
def specSets (c : Settings) : List SpecSet := (c.spec.map (·.2)).filter (fun t => decide (0 < t.a) && !t.chans.isEmpty)

/-! ### The partitions of the DRAM (R268, R293) -/

/-- Bytes of the rolling history, which begins at address 0: whole pages. -/
def historyBytes (c : Settings) (s : State) : Nat := 16384 * (s.dram.mib * 64 * (50 + 5 * c.mem.h) / 100)

/-- The capo pool and the pin margin within it. -/
def capoPool (c : Settings) (s : State) : Nat := historyBytes c s * c.mem.c / 100
def pinMargin (c : Settings) (s : State) : Nat := historyBytes c s * c.mem.c / 400 + 67108864

/-- The address at which the firmware area begins, in the top 256 MiB. -/
def firmwareStart (s : State) : Nat := 1048576 * (s.dram.mib - 256)

/-- Bytes of the accumulator partition, which lies between the two. -/
def accumBytes (c : Settings) (s : State) : Nat := firmwareStart s - historyBytes c s

/-- An address lies in the accumulator partition in force. -/
def inAccum (s : State) (a : Nat) : Bool := decide (historyBytes s.live s ≤ a) && decide (a < firmwareStart s)

/-- Bytes that the sets take; how many the engine gives an entry, a channel or a bin is its own (DESIGN CHOICE, log 19). -/
def accumNeed (c : Settings) : Nat :=
  sumOf (fun e => if 0 < e.2.interval then Config.accumUnit 0 * e.2.entries.length else 0) c.stats +
    sumOf (fun e => if 0 < e.2.interval then Config.accumUnit 1 * e.2.chans.length else 0) c.rain +
    sumOf (fun e => if 0 < e.2.a then Config.accumUnit 2 * ((2 ^ (e.2.log2n - 1) + 1) * (e.2.chans.length + e.2.pairs.length)) else 0) c.spec

/-! ### Excitation dissipation (R105, R138) -/

/-- Dissipation of a rail and of a course in microwatts. -/
def railMicroW (c : Settings) (e : Nat) : Nat :=
  let r := tget railSet0 c.rails e
  if r.voltage = 0 then 0 else (100 * tget vexc0 c.vexc (e / 4) - railMv r.voltage) * (10 * (r.iLim + 1))
def courseMicroW (c : Settings) (i : Nat) : Nat :=
  maxOf (fun p => if (scanOf c (8 * i + p)).exc = 0 then 0
    else (100 * tget vexc0 c.vexc (i / 8) - railMv (scanOf c (8 * i + p)).exc) * (5 * (courseOf c i).iLim)) (courseList c i)
def dissipation (c : Settings) : Nat := sumOf (railMicroW c) (List.range 16) + sumOf (courseMicroW c) (List.range 32)

/-! ### Verdicts (R86) -/

/-- BUDGET_EXCEEDED where a cost exceeds its bound; the excess is given in units, rounded up. -/
def overBudgetBy (resource unit cost bound : Nat) : Option Reply :=
  if bound < cost then some (overBudget resource (ceilDiv (cost - bound) unit)) else none

/-- The history writer's bound: half a fret, and half of that under the address orders that keep a slice within fewer banks (R84, R302). -/
def writerBound (c : Settings) (s : State) : Nat := if s.dram.order = 0 then fretCclk c / 2 else fretCclk c / 2 / 2

/-- The first resource of R84 whose bound is broken. -/
def admitFret (c : Settings) (ss : Table StreamCtx) (s : State) : Option Reply :=
  let bound := fretCclk c - 400
  orElseReply (overBudgetBy 1 1 (96 + 2 * worstS c) bound)
    (orElseReply (overBudgetBy 2 1 (128 + 16 * worstN c ss + ceilDiv (worstB c ss) 32 + 16 * worstA ss) bound)
      (orElseReply (overBudgetBy 3 1 (ceilDiv (ceilDiv (worstH c ss) 32 * 3200) s.dram.mts) (writerBound c s))
        (overBudgetBy 4 1 (worstRC c ss) bound)))

/-- The FFT pipeline's bound (R279): W_total within 0.8 of the shortest hop. -/
def admitFft (c : Settings) : Option Reply :=
  match (specSets c).map (specHopCclk c) with
  | [] => none
  | h :: hs => overBudgetBy 5 1 (specTotal c) (8 * hs.foldl min h / 10)

/-- Fits of R84, R279 and R268 in table order. -/
def admission (c : Settings) (ss : Table StreamCtx) (s : State) : Option Reply :=
  orElseReply (admitFret c ss s) (orElseReply (admitFft c) (overBudgetBy 6 1024 (accumNeed c) (accumBytes c s)))

/-- The dissipation bound of 2.5 W (R105). -/
def admitPower (c : Settings) : Option Reply := overBudgetBy 10 1000 (dissipation c) 2500000

/-! ### Quota (R244 to R246) -/

/-- Settings of a capture unit in a copy. -/
def unitOf (c : Settings) (u : Nat) : UnitSet := tget unitSet0 c.units u

/-- Dynamic dies, scanned dies and ports of a selection (R242). -/
def selDyn (sel : Nat) : List Nat := bitsOf 4 sel
def selScan (sel : Nat) : List Nat := bitsOf 4 (sel / 16)
def selPorts (sel : Nat) : List Nat := bitsOf 8 (sel / 256)

/-- W / 2 of an entry, and the polled lead of a port, in ns (R244, R436). -/
def halfWindow (c : Settings) (n : Nat) : Nat := windowNs (courseOf c (n / 8)) (scanOf c n) / 2
def portLead (c : Settings) (p : Nat) : Nat :=
  if (fpOf c p).enable then maxOf (fun e => fpSlotNs (fpOf c p) + 1000 * e.2.age) (portEntries c p) else 0

/-- LEAD of a selection in ns (R244). -/
def leadOf (c : Settings) (sel : Nat) : Nat :=
  max (maxOf (fun k => maxOf (fun n => delayTotal (dynOf c n)) (dynOn c k)) (selDyn sel))
    (max (maxOf (fun k => maxOf (fun i => maxOf (fun p => halfWindow c (8 * i + p)) (courseList c i)) (coursesOn c k)) (selScan sel))
      (maxOf (portLead c) (selPorts sel)))

/-- B_f of a selection in bytes (R244). -/
def fretBytes (c : Settings) (sel : Nat) : Nat :=
  32 + sumOf (fun k => 12 + 4 * sumOf (dynWords c) (dynOn c k)) (selDyn sel) + 44 * (selScan sel).length + 24 * (selPorts sel).length

/-- N_max (R244). -/
def maxFrets (c : Settings) (u : UnitSet) : Nat := (1000 * (u.pre + u.post) + leadOf c u.select - 1) / c.period + 2

/-- LENGTH_EXCEEDS_QUOTA where the largest capo would not fit (R244). -/
def quotaCheck (c : Settings) (u : Nat) : Option Reply :=
  let x := unitOf c u
  let need := maxFrets c x * fretBytes c x.select
  if 1048576 * x.quota < need then some (overQuota u (ceilDiv (need - 1048576 * x.quota) 1024)) else none

/-- A configuration command and one capture unit (R246). -/
def unitRecheck (old new : Settings) (s : State) (u : Nat) : Option Reply :=
  let sel := (unitOf old u).select
  if leadOf old sel = leadOf new sel ∧ fretBytes old sel = fretBytes new sel then none
  else
    match (tget unitRun0 s.trig.units u).state with
    | .armed => quotaCheck new u
    | .full => quotaCheck new u
    | .capturing => some (refusedState 6 u)
    | _ => none

/-- The arm checks that a configuration command must pass (R246). -/
def recheckUnits (new : Settings) (s : State) : Option Reply :=
  (List.range 8).foldl (fun a u => orElseReply a (unitRecheck s.cfg new s u)) none

/-- A configuration command's admission: budgets, then the arm checks. -/
def admitConfig (new : Settings) (s : State) : Option Reply := orElseReply (admission new s.streams s) (recheckUnits new s)

end Sys2Proof.Machine
end

