-- ==== Sys2Proof/Machine/Budget.lean ====
section
/-! DEFINITION. The streaming budget of the ring: a stream's figures, the gateway's ledger, and how a command gets its grant
(12, R327, R329, R330). -/

namespace Sys2Proof.Machine

/-! ### Figures (R319, R329) -/

/-- Length of a record whose blocks have these payloads. -/
def lenOf (ps : List Nat) : Nat := 32 + sumOf blockLen ps

/-- A rate in b/s: bytes per ns, rounded up, with the allowance for EPOCH and EVENT records. -/
def rateOf (bytes ns : Nat) : Nat := (if ns = 0 then 0 else ceilDiv (8000000000 * bytes) ns) + 16000

/-- Course `i` ends a slot of a selected entry at `t` ns of its nominal grid. -/
def slotEndsAt (c : Settings) (i t : Nat) (sel : List Nat) : Bool :=
  let l := courseList c i
  (List.range l.length).any (fun j =>
    decide (slotsBefore c i (j + 1) % cycleNs c i = t % cycleNs c i) && sel.contains (8 * i + natAt l j))

/-- Wire bytes of the SCAN record of the fret that begins at `t` ns, 0 where none closes. -/
def scanWire (c : Settings) (t : Nat) (sel : List Nat) : Nat :=
  let blocks := [0, 1, 2, 3].filterMap (fun k =>
    let n := ((coursesOn c k).filter (fun i => slotEndsAt c i t sel)).length
    if n = 0 then none else some (4 * n))
  if blocks.isEmpty then 0 else wireBytes (lenOf blocks)

/-- Port `p` ends the slot of a selected entry at `t` ns. -/
def pollEndsAt (c : Settings) (p t : Nat) (sel : List Nat) : Bool :=
  let es := portEntries c p
  let l := fpSlotNs (fpOf c p)
  portOn c p && decide (0 < l ∧ t % l = 0) && sel.contains (natAt (es.map (·.1)) ((t / l + es.length - 1) % es.length))

/-- Wire bytes of the POLLED record of the fret that begins at `t` ns. -/
def pollWire (c : Settings) (t : Nat) (sel : List Nat) : Nat :=
  let n := ((List.range 8).filter (fun p => pollEndsAt c p t sel)).length
  if n = 0 then 0 else wireBytes (lenOf (List.replicate n 12))

/-- Wire bytes over a cycle of frets. -/
def cycleWire (f : Nat → Nat) (cycle p : Nat) : Nat := sumOf (fun i => f (p * (i + 1))) (List.range (cycle / p))

/-- Cycle of the courses, or ports, that a stream selects, in ns. -/
def scanCycle (c : Settings) (sel : List Nat) : Nat :=
  (List.range 32).foldl (fun a i => if (courseList c i).any (fun p => sel.contains (8 * i + p)) then Nat.lcm a (cycleNs c i) else a) c.period
def pollCycle (c : Settings) (sel : List Nat) : Nat :=
  (List.range 8).foldl (fun a p => if portOn c p ∧ (portEntries c p).any (fun e => sel.contains e.1) = true
    then Nat.lcm a (fpSlotNs (fpOf c p) * (portEntries c p).length) else a) c.period

/-- The cycle of a stream in ns, and its wire bytes in it (R329). -/
def streamCycle (c : Settings) (n : Nat) (x : StreamCtx) : Nat × Nat :=
  let whole := match worstBlocks c n x with
    | [] => 0
    | b :: bs => wireBytes (lenOf ((b :: bs).map (·.1)))
  let set := natAt x.select 0
  if x.type = tySample then
    (match x.select.find? (fun d => (dynOf c d).enable) with
     | none => (c.period, 0)
     | some d => (max c.period (outNs (dynOf c d)), whole))
  else if x.type = tyScan then (scanCycle c x.select, cycleWire (fun t => scanWire c t x.select) (scanCycle c x.select) c.period)
  else if x.type = tyPolled then (pollCycle c x.select, cycleWire (fun t => pollWire c t x.select) (pollCycle c x.select) c.period)
  else if x.type = tyStats then (1000 * (tget statsSet0 c.stats set).interval, whole)
  else if x.type = tyRain then (1000000000 * (tget rainSet0 c.rain set).interval, whole)
  else
    let t := tget specSet0 c.spec set
    (t.a * specHop t * outNs (dynOf c (natAt t.chans 0)), whole)

/-- ρ and σ of a stream (R329). -/
def figures (c : Settings) (n : Nat) (x : StreamCtx) : Nat × Nat :=
  let cyc := streamCycle c n x
  let burst := match worstBlocks c n x with
    | [] => 0
    | b :: bs => wireBytes (lenOf ((b :: bs).map (·.1)))
  (rateOf cyc.2 cyc.1, burst + 512)

/-- A stream takes part in the budget: open, on the ring, not a capture stream (R261). -/
def budgeted (x : StreamCtx) : Bool := x.isOpen && x.ring && decide (x.type ≠ tyCapHeader)

/-! ### The ledger (R330) -/

/-- The hub knows of a valid lease: it holds the role, or a valid message came within 125 ms (R333). -/
def leaseKnown (l : LeaseRun) (now : Nat) : Bool :=
  l.held || (l.holder.isSome && (match l.lastMsg with | none => false | some t => decide (now < t + 125000000)))

/-- Line rate in b/s. -/
def lineRate (s : State) : Nat := if s.live.ring.rate10G then 10000000000 else 25000000000

/-- Sums over ledger lines other than one stream's. -/
def ledgerRho (s : State) (hub n : Nat) : Nat :=
  sumOf (fun e => if e.1 = hub ∧ e.2.1 = n then 0 else e.2.2.1) s.ring.ledger
def ledgerSigma (s : State) (hub n : Nat) : Nat :=
  sumOf (fun e => if e.1 = hub ∧ e.2.1 = n then 0 else e.2.2.2) s.ring.ledger

/-- The gateway's verdict on a request: none grants it; else the resource and the excess (R329, R394). -/
def judge (s : State) (hub n rho sigma : Nat) : Option (Nat × Nat) :=
  let r := ledgerRho s hub n + rho
  let b := ledgerSigma s hub n + sigma
  if 8 * lineRate s < 10 * r then some (7, ceilDiv (10 * r - 8 * lineRate s) 10)
  else if 1024 * s.live.ring.reserve < b then some (8, b - 1024 * s.live.ring.reserve)
  else none

/-- Write a ledger line. -/
def putLedger (hub n rho sigma : Nat) (s : State) : State :=
  { s with ring.ledger := s.ring.ledger.filter (fun e => !(decide (e.1 = hub) && decide (e.2.1 = n))) ++
      (if rho = 0 ∧ sigma = 0 then [] else [(hub, n, rho, sigma)]) }

/-- Figures granted to a stream of this hub. -/
def grantOf (s : State) (n : Nat) : Nat × Nat := tget (0, 0) s.ring.grants n
def putGrant (n : Nat) (g : Nat × Nat) (s : State) : State := { s with ring.grants := tput (0, 0) s.ring.grants n g }

/-- Streams of a prospective configuration whose figures exceed their grants. -/
def needGrants (c : Settings) (ss : Table StreamCtx) (s : State) : List (Nat × Nat × Nat) :=
  (ss.filter (fun e => budgeted e.2)).filterMap (fun e =>
    let f := figures c e.1 e.2
    let g := grantOf s e.1
    if g.1 < f.1 ∨ g.2 < f.2 then some (e.1, f.1, f.2) else none)

/-- Streams whose figures lie below their grants return the difference (R327); while no pair is ACTIVE no BUDGET message is sent, and
the difference is returned when one is again (R419). -/
def returnGrants (c : Settings) (ss : Table StreamCtx) (s : State) : State :=
  (if pairActive s then s.ring.grants else []).foldl (fun t e =>
    let x := tget streamCtx0 ss e.1
    let f := if budgeted x then figures c e.1 x else (0, 0)
    if f.1 < e.2.1 ∨ f.2 < e.2.2 then
      let u := putGrant e.1 (min f.1 e.2.1, min f.2 e.2.2) t
      if u.ring.gateway.held then putLedger u.live.ring.hubId e.1 (min f.1 e.2.1) (min f.2 e.2.2) u
      else sendControl 24 u.ring.gateway.holder (.budget (.request u.live.ring.hubId e.1 (min f.1 e.2.1) (min f.2 e.2.2))) u
    else t) s

/-- A gateway grants its own streams in turn, up to a refusal. -/
def grantLocally (needs : List (Nat × Nat × Nat)) (s : State) : Option Reply × State :=
  needs.foldl (fun acc n =>
    match acc.1 with
    | some _ => acc
    | none =>
      match judge acc.2 acc.2.live.ring.hubId n.1 n.2.1 n.2.2 with
      | some (res, excess) => (some (overBudget res excess), acc.2)
      | none => (none, putGrant n.1 (n.2.1, n.2.2) (putLedger acc.2.live.ring.hubId n.1 n.2.1 n.2.2 acc.2))) (none, s)

/-- A command whose configuration needs grants: it goes on once all are held, waits for the gateway's answer, or is refused
(R330). `cmd` is what the answer runs again. -/
def withGrants (h : CmdHdr) (op : Nat) (cmd : Instr) (c : Settings) (ss : Table StreamCtx) (go : State → State) (s : State) : State :=
  match needGrants c ss s with
  | [] => returnGrants c ss (go s)
  | n :: ns =>
    if s.ring.state ≠ .joined then finish h op (refusedState 4 0) s
    else if s.ring.gateway.held then
      let g := grantLocally (n :: ns) s
      match g.1 with
      | some r => finish h op r s
      | none => returnGrants c ss (go g.2)
    else if leaseKnown s.ring.gateway (nowNs s) then
      sendControl 24 s.ring.gateway.holder (.budget (.request s.live.ring.hubId n.1 n.2.1 n.2.2))
        { s with ring.asks := s.ring.asks ++ [{ stream := n.1, rho := n.2.1, sigma := n.2.2, hdr := h, opcode := op, cmd := cmd }] }
    else finish h op (refusedState 7 0) s

end Sys2Proof.Machine
end

