-- ==== Sys2Proof/Machine/FeCommands.lean ====
section
/-! DEFINITION. The commands that set the front ends and the fret period, and their read twins (15, R396; 03, R78 to R80; 04,
R98 to R107; 05, R125 to R128; 06, R158 to R160, R169, R170). -/

namespace Sys2Proof.Machine

/-! ### Checks shared -/

/-- A channel is the SRC of a value output with SAFETY on, or the source of an entry whose combiner drives one (R477). -/
def safetyChan (c : Settings) (x : Chan) : Bool :=
  c.val.any (fun v => v.2.safety &&
    (decide (v.2.src = x) ||
      (match v.2.comb with
       | none => false
       | some q => c.conds.any (fun e => e.2.enable && decide (e.2.src = x) && decide (e.2.comb = q)))))

/-- A command runs a substitution or a slice test on a dynamic channel (R404). -/
def heldByCommand (s : State) (n : Nat) : Bool :=
  (spareAt s (n / 32)).hdr.isSome && decide ((spareAt s (n / 32)).chan = n)

/-- The spare stands in for the channel or takes its place in a swap already decided (R119). -/
def spareInPlace (s : State) (n : Nat) : Bool :=
  decide ((spareAt s (n / 32)).chan = n) && (spareServes (spareAt s (n / 32)) || decide ((spareAt s (n / 32)).phase = .swapDue))

/-- The first of some channels that a condition holds for. -/
def firstOf (ns : List Nat) (p : Nat → Bool) (r : Nat → Reply) : Option Reply := (ns.find? p).map r

/-- The first refusal of several checks. -/
def checks (rs : List (Option Reply)) : Option Reply := rs.foldl orElseReply none

/-! ### FRET_SET (R75, R78) -/

/-- A period that the configured chains and slots do not fit (R79, R80, R269). -/
def periodMisfit (c : Settings) (p : Nat) : Bool :=
  (List.range 128).any (fun n => (dynOf c n).enable && !chainFits (dynOf c n) p) ||
    (List.range 32).any (fun i => !(courseList c i).isEmpty && decide (slotNs (courseOf c i).slot % p ≠ 0)) ||
    (List.range 8).any (fun q => (fpOf c q).enable && decide (fpSlotNs (fpOf c q) % p ≠ 0)) ||
    c.stats.any (fun e => decide (1000 * e.2.interval % p ≠ 0))

/-- FRET_SET checks. -/
def fretSetCheck (pos : Nat) (s : State) : Option Reply :=
  let p := natAt fretPeriods pos
  checks [firstBad [(28, decide (6 < pos))], (if s.fret.acquiring then some (refusedState 1 0) else none),
    firstBad [(28, periodMisfit s.cfg p)], admitConfig { s.cfg with period := p } s]

/-- FRET_SET: only while stopped, at the next boundary (R78). -/
def execFretSet (h : CmdHdr) (period : Nat) (s : State) : Host.Outcome State Fault Refusal :=
  .next (runCommand h 0x0201 (fretSetCheck period)
    (fun t => finishAtBoundary h 0x0201 (accept (fun c => { c with period := natAt fretPeriods period }) t)) s)

def execFretSetTwin (h : CmdHdr) (s : State) : Host.Outcome State Fault Refusal :=
  .next (readCommand h 0x0281 1 (fun _ => none) (fun t => leBytes 1 (fretPeriods.findIdx (· = t.cfg.period))) s)

/-! ### DYN_CHAN_SET (R98, R101, R107) -/

/-- A channel's settings with those of the command. -/
def withDyn (p : DynChanP) (d : DynSet) : DynSet :=
  { d with enable := decide (p.enable = 1), se := decide (p.mode = 1), gain := p.gain, ratio := decide (p.ref = 1)
           tap := decide (p.tap = 1), iMin := p.iMin, openWire := decide (p.openWire = 1), tone := decide (p.tone = 1) }

/-- The configuration after the command. -/
def dynChanConfig (p : DynChanP) (c : Settings) : Settings :=
  { c with dyn := tputAll dynSet0 c.dyn p.chans (fun n => withDyn p (dynOf c n)) }

/-- Fields out of range, or that break R79 or R101 on an enabled channel. -/
def dynChanBad (p : DynChanP) (c : Settings) : Option Reply :=
  let on := decide (p.enable = 1)
  let rail (n : Nat) : RailSet := tget railSet0 c.rails (n / 8)
  let off := p.chans.any (fun n => decide ((rail n).voltage = 0))
  firstBad [(44, decide (1 < p.enable)), (45, decide (1 < p.mode)), (46, decide (7 < p.gain)), (47, decide (1 < p.ref)),
    (48, decide (1 < p.tap)), (49, decide (60 < p.iMin)), (50, decide (1 < p.openWire)), (51, decide (1 < p.tone)),
    (44, on && p.chans.any (fun n => !chainFits (dynOf c n) c.period)),
    (45, on && decide (p.mode = 1) && decide (p.ref = 1)),
    (47, on && decide (p.ref = 1) && off), (48, on && decide (p.tap = 1) && off),
    (49, on && p.chans.any (fun n => decide (20 * ((rail n).iLim + 1) < p.iMin)))]

/-- What a change of gain, input mode or reference touches. -/
def inputDiffers (a b : DynSet) : Bool := decide ((a.gain, a.se, a.ratio) ≠ (b.gain, b.se, b.ratio))

/-- DYN_CHAN_SET checks (R101, R246, R404, R477; 04, changes during a substitution). -/
def dynChanCheck (p : DynChanP) (s : State) : Option Reply :=
  checks [dynChanBad p s.cfg,
    firstOf p.chans (heldByCommand s) (fun n => busy 2 (dynCode n)),
    firstOf p.chans (fun n => spareInPlace s n && inputDiffers (dynOf s.cfg n) (withDyn p (dynOf s.cfg n))) (fun _ => refusedState 0 0),
    firstOf p.chans (fun n => safetyChan s.cfg ⟨.dynamic, n⟩ &&
      ((dynOf s.cfg n).openWire && decide (p.openWire = 0) || (dynOf s.cfg n).tone && decide (p.tone = 0))) (fun _ => refusedState 0 0),
    admitConfig (dynChanConfig p s.cfg) s]

def execDynChanSet (h : CmdHdr) (p : DynChanP) (s : State) : Host.Outcome State Fault Refusal :=
  .next (runCommand h 0x0202 (dynChanCheck p) (fun t => finishAtBoundary h 0x0202 (accept (dynChanConfig p) t)) s)

/-- Exactly one item is named (R391). -/
def oneItem (ns : List Nat) : Bool := decide (ns.length = 1)

def execDynChanSetTwin (h : CmdHdr) (chans : List Nat) (s : State) : Host.Outcome State Fault Refusal :=
  .next (readCommand h 0x0282 8 (fun _ => firstBad [(28, !oneItem chans)])
    (fun t =>
      let d := dynOf t.cfg (natAt chans 0)
      [b2n d.enable, b2n d.se, d.gain, b2n d.ratio, b2n d.tap, d.iMin, b2n d.openWire, b2n d.tone].map (BitVec.ofNat 8)) s)

/-! ### RAIL_SET and VEXC_SET (R99, R101, R102, R105, R106) -/

/-- The configuration after a RAIL_SET. -/
def railConfig (rail voltage iLim : Nat) (c : Settings) : Settings :=
  { c with rails := tput railSet0 c.rails rail { voltage := voltage, iLim := iLim } }

/-- RAIL_SET checks: a rail switched off is accepted whatever its channels hold (R101). -/
def railCheck (rail voltage iLim : Nat) (s : State) : Option Reply :=
  let c := s.cfg
  checks [firstBad [(28, decide (15 < rail)), (29, decide (3 < voltage)), (30, decide (5 < iLim))],
    firstBad [(29, decide (0 < voltage) && decide (100 * tget vexc0 c.vexc (rail / 4) < railMv voltage + 1500)),
      (30, decide (0 < voltage) &&
        ((List.range 8).map (8 * rail + ·)).any (fun n => (dynOf c n).enable && decide (20 * (iLim + 1) < (dynOf c n).iMin)))],
    admitPower (railConfig rail voltage iLim c)]

def execRailSet (h : CmdHdr) (rail voltage iLim : Nat) (s : State) : Host.Outcome State Fault Refusal :=
  .next (runCommand h 0x0203 (railCheck rail voltage iLim)
    (fun t => finishAtBoundary h 0x0203 (accept (railConfig rail voltage iLim) t)) s)

def execRailSetTwin (h : CmdHdr) (rail : Nat) (s : State) : Host.Outcome State Fault Refusal :=
  .next (readCommand h 0x0283 2 (fun _ => firstBad [(28, decide (15 < rail))])
    (fun t => leBytes 1 (tget railSet0 t.cfg.rails rail).voltage ++ leBytes 1 (tget railSet0 t.cfg.rails rail).iLim) s)

/-- The configuration after a VEXC_SET. -/
def vexcConfig (die nom : Nat) (c : Settings) : Settings := { c with vexc := tput vexc0 c.vexc die nom }

/-- VEXC_SET checks (R99, R102). -/
def vexcCheck (die nom : Nat) (s : State) : Option Reply :=
  let c := s.cfg
  let rails := ((List.range 4).map (4 * die + ·)).map (fun e => (tget railSet0 c.rails e).voltage)
  let entries := (((List.range 64).map (64 * die + ·)).filter (fun n => (scanOf c n).enable)).map (fun n => (scanOf c n).exc)
  checks [firstBad [(28, decide (3 < die)), (29, decide (nom < 45) || decide (120 < nom) ||
      (rails ++ entries).any (fun v => decide (0 < v) && decide (100 * nom < railMv v + 1500)))],
    admitPower (vexcConfig die nom c)]

def execVexcSet (h : CmdHdr) (die nom : Nat) (s : State) : Host.Outcome State Fault Refusal :=
  .next (runCommand h 0x0204 (vexcCheck die nom) (fun t => finishAtBoundary h 0x0204 (accept (vexcConfig die nom) t)) s)

def execVexcSetTwin (h : CmdHdr) (die : Nat) (s : State) : Host.Outcome State Fault Refusal :=
  .next (readCommand h 0x0284 1 (fun _ => firstBad [(28, decide (3 < die))]) (fun t => leBytes 1 (tget vexc0 t.cfg.vexc die)) s)

/-! ### DYN_CHAIN_SET (R158 to R160, R172, R213, R276) -/

/-- A channel's settings with the command's chain. -/
def withChain (p : DynChainP) (d : DynSet) : DynSet :=
  { d with chain := p.chain, osr := p.osr, m := p.m, r := p.r, notch := p.notch, width := p.width }

/-- The configuration after the command. -/
def chainConfig (p : DynChainP) (c : Settings) : Settings :=
  { c with dyn := tputAll dynSet0 c.dyn p.chans (fun n => withChain p (dynOf c n)) }

/-- The chain that a DynSet runs, as far as it shows in its words. -/
def chainKey (d : DynSet) : Nat × Nat × Nat × Nat × Nat := (chainOsr d, chainM d, chainR d, d.notch, if d.notch = 0 then 0 else d.width)

/-- Fields out of range, or a chain that breaks R79, R159 or R160: a preset's rules take in CHAIN, a custom chain's OSR. -/
def chainBad (p : DynChainP) (period : Nat) : Option Reply :=
  let d := withChain p dynSet0
  let bad := !chainFits d period || !notchOk d
  checks [firstBad [(44, decide (7 < p.chain)), (45, decide (3 < p.osr)), (54, decide (3 < p.notch)), (55, decide (2 < p.width))],
    firstBad [(44, decide (p.chain < 7) && bad), (45, decide (p.chain = 7) && (bad || decide (1000000000 < delayTotal d))),
      (46, decide (p.chain = 7) && (decide (p.m < 1) || decide (65536 < p.m) || decide (p.m < p.r))),
      (50, decide (p.chain = 7) && decide (p.r < 1))]]

/-- A SAMPLE stream holds some of the channels whose chain changes and others as well (R213). -/
def splitsStream (ns : List Nat) (s : State) : Bool :=
  s.streams.any (fun e => e.2.isOpen && decide (e.2.type = tySample) && e.2.select.any (fun n => ns.contains n) &&
    e.2.select.any (fun n => !ns.contains n))

/-- DYN_CHAIN_SET checks. -/
def chainCheck (p : DynChainP) (s : State) : Option Reply :=
  let changed := p.chans.filter (fun n => decide (chainKey (withChain p (dynOf s.cfg n)) ≠ chainKey (dynOf s.cfg n)))
  checks [chainBad p s.cfg.period,
    firstOf p.chans (heldByCommand s) (fun n => busy 2 (dynCode n)),
    (if changed.isEmpty then none
     else if changed.any (spareInPlace s) || splitsStream changed s ||
         s.cfg.spec.any (fun e => decide (0 < e.2.a) && e.2.chans.any (fun n => changed.contains n)) then some (refusedState 0 0)
     else none),
    admitConfig (chainConfig p s.cfg) s]

/-- DYN_CHAIN_SET: at the next boundary, once the grants of ring streams cover it (R172, R327). -/
def onDynChainSet (h : CmdHdr) (p : DynChainP) (s : State) : State :=
  runCommand h 0x0205 (chainCheck p)
    (fun t => withGrants h 0x0205 (.dynChainSet h p) (chainConfig p t.cfg) t.streams
      (fun u => finishAtBoundary h 0x0205 (accept (chainConfig p) u)) t) s

def execDynChainSet (h : CmdHdr) (p : DynChainP) (s : State) : Host.Outcome State Fault Refusal := .next (onDynChainSet h p s)

def execDynChainSetTwin (h : CmdHdr) (chans : List Nat) (s : State) : Host.Outcome State Fault Refusal :=
  .next (readCommand h 0x0285 12 (fun _ => firstBad [(28, !oneItem chans)])
    (fun t =>
      let d := dynOf t.cfg (natAt chans 0)
      leBytes 1 d.chain ++ leBytes 1 d.osr ++ leBytes 4 d.m ++ leBytes 4 d.r ++ leBytes 1 d.notch ++ leBytes 1 d.width) s)

/-! ### COURSE_SET (R125, R128, R136, R141) -/

/-- SCAN_LIST up to 0xFF. -/
def scanList (bs : List Nat) : List Nat := bs.takeWhile (fun p => decide (p ≠ 0xFF))

/-- The course's settings after the command. -/
def courseNew (p : CourseP) : CourseSet :=
  { scan := scanList p.scan, slot := p.slot, vwSlot := p.vwSlot, iLim := p.iLim, rounding := p.rounding, realign := p.realign
    driver := decide (p.driver = 1) }
def courseConfig (p : CourseP) (c : Settings) : Settings := { c with courses := tput courseSet0 c.courses p.course (courseNew p) }

/-- A window too short: of a slot below 40 us or one rounding unit, of a VW entry below 150 ms (R128). -/
def windowShort (cs : CourseSet) (sc : ScanSet) : Bool :=
  if sc.kind = kindVw then decide (windowNs cs sc < 150000000) else decide (windowNs cs sc < 40000)

/-- COURSE_SET's fields (R80, R125, R128). -/
def courseBad (p : CourseP) (c : Settings) : Option Reply :=
  let n := courseNew p
  let on := ((List.range 8).map (8 * p.course + ·)).filter (fun q => (scanOf c q).enable)
  let listed := on.filter (fun q => n.scan.contains (q % 8))
  let vw (q : Nat) : Bool := decide ((scanOf c q).kind = kindVw)
  checks [firstBad [(28, decide (31 < p.course)), (29, n.scan.isEmpty || decide (16 < n.scan.length) || n.scan.any (fun q => decide (7 < q))),
      (45, decide (8 < p.slot)), (46, decide (p.vwSlot < 5) || decide (20 < p.vwSlot)), (47, decide (p.iLim < 1) || decide (6 < p.iLim)),
      (48, decide (2 < p.rounding)), (49, decide (1 < p.realign)), (50, decide (1 < p.driver))],
    firstBad [(45, decide (slotNs p.slot % c.period ≠ 0) || listed.any (fun q => !vw q && windowShort n (scanOf c q))),
      (46, decide (50000000 * p.vwSlot % c.period ≠ 0) || listed.any (fun q => vw q && windowShort n (scanOf c q))),
      (47, on.any (fun q => decide (10 * p.iLim < (scanOf c q).iMin))),
      (50, on.any (fun q => decide (0 < (scanOf c q).exc) &&
        decide (100 * tget vexc0 c.vexc (p.course / 8) < railMv (scanOf c q).exc + 1500)))]]

/-- COURSE_SET checks. -/
def courseCheck (p : CourseP) (s : State) : Option Reply :=
  checks [courseBad p s.cfg, admitConfig (courseConfig p s.cfg) s, admitPower (courseConfig p s.cfg)]

/-- A change of a running course completes as accepted, one that a boundary governs at the boundary (R136, R141, R392). -/
def courseDone (h : CmdHdr) (op c : Nat) (s : State) : State :=
  if h.force || !s.fret.acquiring || dieOut s (c / 8) || (courseList s.live c).isEmpty then finishAtBoundary h op s
  else finish h op okReply s

/-- Note what a command forces, the course's settings (`none`) or those of some positions, and one that sets the excitation again (R140 to
R142). -/
def noteExc (c : Nat) (force on : Bool) (what : List (Option Nat)) (s : State) : State :=
  let r := courseAt s c
  putCourse c { r with forced := if force then r.forced ++ what else r.forced, driverOn := r.driverOn || on } s

def execCourseSet (h : CmdHdr) (p : CourseP) (s : State) : Host.Outcome State Fault Refusal :=
  .next (runCommand h 0x0206 (courseCheck p)
    (fun t => courseDone h 0x0206 p.course
      (noteExc p.course h.force (decide (p.driver = 1)) [none] (accept (courseConfig p) t))) s)

def execCourseSetTwin (h : CmdHdr) (course : Nat) (s : State) : Host.Outcome State Fault Refusal :=
  .next (readCommand h 0x0286 22 (fun _ => firstBad [(28, decide (31 < course))])
    (fun t =>
      let c := courseOf t.cfg course
      c.scan.map (BitVec.ofNat 8) ++ List.replicate (16 - c.scan.length) 0xFF ++
        [c.slot, c.vwSlot, c.iLim, c.rounding, c.realign, b2n c.driver].map (BitVec.ofNat 8)) s)

/-! ### SCAN_CHAN_SET (R126 to R128) -/

/-- A scanned channel's settings after the command. -/
def scanNew (p : ScanChanP) : ScanSet :=
  { enable := decide (p.enable = 1), kind := p.kind, gain := p.gain, ratio := decide (p.ref = 1), exc := p.exc, iMin := p.iMin
    d := p.d, s := p.s, openWire := decide (p.openWire = 1), sweepLo := p.sweepLo, sweepHi := p.sweepHi, listen := p.listen }
def scanChans (p : ScanChanP) : List Nat := p.positions.map (8 * p.course + ·)
def scanConfig (p : ScanChanP) (c : Settings) : Settings := { c with scan := tputAll scanSet0 c.scan (scanChans p) (fun _ => scanNew p) }

/-- SCAN_CHAN_SET's fields (R126, R128); the second list holds where the command enables. -/
def scanBad (p : ScanChanP) (c : Settings) : Option Reply :=
  let cs := courseOf c p.course
  let on := decide (p.enable = 1)
  let volt := decide (p.kind = kindVoltDiff) || decide (p.kind = kindVoltSe)
  let short := p.positions.any (fun q => cs.scan.contains q) && windowShort cs (scanNew p)
  checks [firstBad [(28, decide (31 < p.course)), (30, decide (1 < p.enable)), (31, decide (5 < p.kind)), (32, decide (7 < p.gain)),
      (33, decide (1 < p.ref)), (34, decide (3 < p.exc)), (35, decide (60 < p.iMin)), (36, decide (p.d < 1) || decide (64 < p.d)),
      (37, decide (1000 < p.s)), (39, decide (1 < p.openWire)), (40, decide (p.sweepLo < 400) || decide (6000 < p.sweepLo)),
      (42, decide (p.sweepHi < 400) || decide (6000 < p.sweepHi)), (44, decide (50 < p.listen))],
    (if on then
      firstBad [(30, decide (slotNs cs.slot % c.period ≠ 0)),
        (31, decide (p.kind = kindDivider) && (decide (p.gain ≠ 0) || decide (p.exc = 0)) || volt && decide (p.ref = 1) ||
          decide (p.kind = kindVw) && (decide (p.exc = 0) || short)),
        (33, decide (p.ref = 1) && decide (p.exc = 0) && decide (p.kind ≠ kindVw)),
        (34, decide (0 < p.exc) && decide (100 * tget vexc0 c.vexc (p.course / 8) < railMv p.exc + 1500)),
        (35, decide (10 * cs.iLim < p.iMin)), (36, decide (p.kind ≠ kindVw) && short), (40, decide (p.sweepHi < p.sweepLo + 200))]
     else none)]

/-- SCAN_CHAN_SET checks. -/
def scanCheck (p : ScanChanP) (s : State) : Option Reply :=
  checks [scanBad p s.cfg,
    firstOf (scanChans p) (fun n => safetyChan s.cfg ⟨.scanned, n⟩ && (scanOf s.cfg n).openWire && decide (p.openWire = 0))
      (fun _ => refusedState 0 0),
    admitConfig (scanConfig p s.cfg) s, admitPower (scanConfig p s.cfg)]

def execScanChanSet (h : CmdHdr) (p : ScanChanP) (s : State) : Host.Outcome State Fault Refusal :=
  .next (runCommand h 0x0207 (scanCheck p)
    (fun t => courseDone h 0x0207 p.course
      (noteExc p.course h.force (decide (0 < p.exc)) (p.positions.map some) (accept (scanConfig p) t))) s)

def execScanChanSetTwin (h : CmdHdr) (course : Nat) (positions : List Nat) (s : State) : Host.Outcome State Fault Refusal :=
  .next (readCommand h 0x0287 15 (fun _ => firstBad [(28, decide (31 < course)), (29, !oneItem positions)])
    (fun t =>
      let c := scanOf t.cfg (8 * course + natAt positions 0)
      [b2n c.enable, c.kind, c.gain, b2n c.ratio, c.exc, c.iMin, c.d].map (BitVec.ofNat 8) ++ leBytes 2 c.s ++ leBytes 1 (b2n c.openWire) ++
        leBytes 2 c.sweepLo ++ leBytes 2 c.sweepHi ++ leBytes 1 c.listen) s)

/-! ### SYNC_RESET and SYNC_IN_SET (R169, R170) -/

/-- A TARGET of R390 in half ns where it is a boundary of the period in effect and ahead. -/
def targetCheck (off has target : Nat) (s : State) : Option Reply :=
  let t := targetNs (nowNs s) target
  if has = 0 then none
  else if t % (s.live.period : Int) ≠ 0 then some (badParam off)
  else if t ≤ nowNs s then some timedOut
  else none

/-- The boundary a command waits for: its target, or the next one (0). -/
def targetBoundary (has target : Nat) (s : State) : Nat := if has = 0 then 0 else 2 * (targetNs (nowNs s) target).toNat

/-- Channels of a reset command: all, one die, or a list. -/
def resetScope (p : SyncResetP) : List Nat :=
  if p.scope = 0 then List.range 128 else if p.scope = 1 then (List.range 32).map (32 * p.die + ·) else p.chans

def execSyncResetCmd (h : CmdHdr) (p : SyncResetP) (s : State) : Host.Outcome State Fault Refusal :=
  .next (runCommand h 0x020B
    (fun t => checks [firstBad [(28, decide (2 < p.scope)), (29, decide (p.scope = 1) && decide (3 < p.die)), (30, decide (1 < p.hasTarget))],
      targetCheck 31 p.hasTarget p.target t])
    (fun t => { t with fe.resets := t.fe.resets ++ [(targetBoundary p.hasTarget p.target t, resetScope p, h)] }) s)

/-- SYNC_IN_SET: at the next boundary (R23, R169). -/
def execSyncInSet (h : CmdHdr) (enable edge : Nat) (s : State) : Host.Outcome State Fault Refusal :=
  .next (runCommand h 0x0B03 (fun _ => firstBad [(28, decide (1 < enable)), (29, decide (1 < edge))])
    (fun t => finishAtBoundary h 0x0B03 (accept (fun c => { c with syncEnable := decide (enable = 1), syncFalling := decide (edge = 1) }) t)) s)

def execSyncInSetTwin (h : CmdHdr) (s : State) : Host.Outcome State Fault Refusal :=
  .next (readCommand h 0x0B83 2 (fun _ => none) (fun t => leBytes 1 (b2n t.cfg.syncEnable) ++ leBytes 1 (b2n t.cfg.syncFalling)) s)

end Sys2Proof.Machine
end

