-- ==== Sys2Proof/Machine/Replay.lean ====
section
/-! DEFINITION. Losses at a stream's host delivery point, replay from the history, and what reads of it are due (08, R222 to R226; 11, R300,
R309). -/

namespace Sys2Proof.Machine

/-! ### Reading the history (R222, R223, R225, R309) -/

/-- A record as a read gives it: its LOST_RANGE where it is lost, else the record with REPLAYED (R222, R223, R403). -/
def replayOf (s : State) (x : Stored) : Record :=
  if x.failover then lostRecord x.rcd.stream (runRange x.rcd x.rcd 1 lostFailover) s
  else if storedBad s x then lostRecord x.rcd.stream (runRange x.rcd x.rcd 1 lostDramUe) s
  else asReplayed x.rcd

/-! ### Replay into a host ring (R222, R225, R226) -/

/-- A stream that has delivered its newest record leaves replay; its ring waits no longer for it. -/
def replayEnds (n : Nat) (s : State) : State :=
  let c := streamAt s n
  if c.replay && decide (c.nextSeq ≤ c.point) && c.ranges.isEmpty then
    let t := putStream n { c with replay := false } s
    match c.hostRing with
    | none => t
    | some r => putRing r { ringAt t r with waiting := t.streams.any (fun e => decide (e.2.hostRing = some r) && e.2.replay) } t
  else s

/-- The first loss at the host delivery point becomes a held range, and the point moves past it (R225, R226): frets that never closed, a run
overwritten, a run lost at a failover, or a record that cannot be read. -/
def loseAtPoint (n : Nat) (s : State) : State :=
  let c := streamAt s n
  match c.safeDue with
  | l :: ls =>
    if l.firstSeq = c.point then putStream n { c with ranges := addRange l c.ranges, safeDue := ls } s
    else loseRecord c
  | [] => loseRecord c
where
  /-- A loss that takes numbers. -/
  loseRecord (c : StreamCtx) : State :=
    let g := passGone c
    if g.point ≠ c.point then putStream n (pruneGone g) s
    else
      match c.stored.find? (fun x => decide (x.rcd.seq = c.point)) with
      | none => s
      | some x =>
        if x.failover then
          let run := (storedFrom c c.point).takeWhile (·.failover)
          let last := (run.getLast?).getD x
          putStream n { c with ranges := addRange (runRange x.rcd last.rcd run.length lostFailover) c.ranges, point := c.point + run.length } s
        else if storedBad s x then
          putStream n { c with ranges := addRange (runRange x.rcd x.rcd 1 lostDramUe) c.ranges, point := c.point + 1 } s
        else s

/-- All losses at the delivery point, one after another, of a stream that has a host ring; `fuel` bounds them. -/
def findLosses (n : Nat) : Nat → State → State
  | 0, s => s
  | fuel + 1, s =>
    if (streamAt s n).hostRing.isNone then s
    else
      let t := loseAtPoint n s
      if (streamAt t n).ranges = (streamAt s n).ranges then s else findLosses n fuel t

/-- Losses there can be at one time. -/
def lossFuel (c : StreamCtx) : Nat := c.gone.length + c.stored.length + c.safeDue.length

/-- The first held range goes to the host ring, if it takes it; and whether one stands first. -/
def deliverRange (n : Nat) (s : State) : State × Bool :=
  let c := streamAt s n
  match c.hostRing, c.ranges with
  | some r, l :: ls =>
    let rec_ := lostRecord n l s
    if ringTakes s r (recordLen rec_) then
      (putStream n { c with ranges := ls } (ringWrite r (recordLen rec_) (.record (recordBytes rec_)) s), true)
    else (s, true)
  | _, _ => (s, false)

/-- The record at the delivery point goes to the host ring as `f` gives it, where the ring takes it. -/
def deliverAs (f : Record → Record) (n r : Nat) (x : Stored) (s : State) : State :=
  let rec_ := f x.rcd
  if ringTakes s r (recordLen rec_) then
    putStream n (pruneGone { streamAt s n with point := x.rcd.seq + 1 }) (ringWrite r (recordLen rec_) (.record (recordBytes rec_)) s)
  else s

/-- A read of a record that cannot be made: one range with COUNT 1 and DRAM_UE, and the point moves on (R225). -/
def loseRead (n : Nat) (x : Stored) (s : State) : State :=
  let c := streamAt s n
  putStream n { c with ranges := addRange (runRange x.rcd x.rcd 1 lostDramUe) c.ranges, point := x.rcd.seq + 1 } s

/-- The record at the delivery point is read, as far as the share of the fret lets it, and delivered or lost (R222, R300, R309). -/
def readPoint (req : Nat) (f : Record → Record) (n : Nat) (found : List ReadError) (s : State) : State :=
  let c := streamAt s n
  match c.hostRing, c.stored.find? (fun x => decide (x.rcd.seq = c.point)) with
  | some r, some x =>
    if ringTakes s r (recordLen (f x.rcd)) then
      let d := readStep n (sliceBytes x) (afterPause s)
      if d.2 then
        let e := readErrors req x found d.1
        if e.2 then (deliverRange n (loseRead n x e.1)).1 else deliverAs f n r x e.1
      else d.1
    else s
  | _, _ => s

/-- REPLAY_DELIVER: the next thing due at a stream in replay, or one whose LOST_RANGEs wait for its host ring; `found` is what the read
meets. Records that waited behind a range of a stream not in replay follow as they closed. -/
def onReplay (n : Nat) (found : List ReadError) (s : State) : State :=
  let c := streamAt s n
  if c.isOpen && (c.replay || !c.ranges.isEmpty || !c.safeDue.isEmpty) && decide (c.type ≠ tyCapHeader) then
    let t := findLosses n (lossFuel c) s
    let d := deliverRange n t
    let u := if d.2 then d.1 else if c.replay then readPoint 1 asReplayed n found t else t
    replayEnds n (hostDeliver n (streamAt u n).stored.length u)
  else s

def execReplayDeliver (stream : Nat) (found : List ReadError) (s : State) : Host.Outcome State Fault Refusal := .next (onReplay stream found s)

/-- A stream in replay, or a capture stream, has a record that its host ring takes: it is served before a lower requester (R300). -/
def replayReady (s : State) : Bool :=
  s.streams.any (fun e => e.2.isOpen && e.2.replay && (match e.2.hostRing, recordAt e.2 e.2.point with
    | some r, some x => ringTakes s r (recordLen (asReplayed x.rcd))
    | _, _ => false))
def captureReady (s : State) : Bool :=
  s.streams.any (fun e => e.2.isOpen && decide (e.2.type = tyCapHeader) && (match e.2.hostRing, recordAt e.2 e.2.point with
    | some r, some x => ringTakes s r (recordLen x.rcd)
    | _, _ => false))

end Sys2Proof.Machine
end

