-- ==== Sys2Proof/Machine/Capture.lean ====
section
/-! DEFINITION. Capture units and capos: triggers at a unit, the window, the close and its records, re-arming, and the unit
commands (09, R242 to R255, R261 to R263). -/

namespace Sys2Proof.Machine

/-! ### Units and their quota -/

def unitAt (s : State) (u : Nat) : UnitRun := tget unitRun0 s.trig.units u
def putUnit (u : Nat) (x : UnitRun) (s : State) : State := { s with trig.units := tput unitRun0 s.trig.units u x }

/-- QUOTA less the unit's unreleased capos, in bytes (R245). -/
def freeQuota (s : State) (u : Nat) : Nat := 1048576 * (unitOf s.live u).quota - sumOf (·.bytes) (unitAt s u).capos

/-- Room for another capo (R245, R251). -/
def unitRoom (s : State) (u : Nat) : Bool :=
  decide (maxFrets s.live (unitOf s.live u) * fretBytes s.live (unitOf s.live u).select ≤ freeQuota s u) &&
    decide ((unitAt s u).capos.length < 16)

/-- The unit becomes ARMED where it has room, else FULL (R251); `dead` is its dead time in ns. -/
def armOrFull (u dead : Nat) (s : State) : State :=
  if unitRoom s u then putUnit u { unitAt s u with state := .armed, armedAt := s.time.cclk, dead := min dead 4294967295 } s
  else putUnit u { unitAt s u with state := .full } s

/-- Lanes of a selection. -/
def selLanes (sel : Nat) : List Nat := (selDyn sel).map laneDyn ++ (selScan sel).map laneScan ++ (selPorts sel).map lanePort

/-! ### Triggers at a unit (R243, R247, R248, R253 to R255) -/

/-- Bits of STATUS (R262). -/
def stPreShort : Nat := 0
def stForced : Nat := 1
def stCommand : Nat := 2
def stSympathetic : Nat := 3
def stChained : Nat := 4
def stExtended : Nat := 5
def stClipped : Nat := 6
def stTimeStepped : Nat := 7
def stCutShort : Nat := 8
def stSafe : Nat := 9
def stUnlocked : Nat := 10
def stMerged : Nat := 11
def stFallback : Nat := 12

/-- A trigger is missed and counted (R243, R251). -/
def missTrigger (u : Nat) (t : Trigger) (s : State) : State :=
  let x := unitAt s u
  putUnit u { x with missed := satAdd 4294967295 x.missed 1, firstMissed := if x.missed = 0 then stampOf t.time else x.firstMissed } s

/-- The first fret of a selection that the history still holds (R248). -/
def oldestHeld (s : State) (sel : Nat) : Nat :=
  max s.hist.since (max (maxOf (tget 0 s.hist.freed) (selLanes sel))
    (maxOf (fun k => maxOf (fun j => tget 0 s.hist.chainSince (32 * k + j)) (List.range 32)) (selDyn sel)))

/-- CAPTURE_START: the capo is placed over its frets (R247, R248). -/
def startCapture (u : Nat) (t : Trigger) (s : State) : State :=
  let c := unitOf s.live u
  let x := unitAt s u
  let p := s.live.period
  let lead := leadOf s.live c.select
  let first := (t.time - 1000 * c.pre) / p
  let last := (t.time + 1000 * c.post + lead - 1) / p
  let held := max first (oldestHeld s c.select)
  let short := decide (first < held) || decide (t.time < 1000 * c.pre)
  putUnit u { x with
    state := .capturing, nextNo := x.nextNo + 1, toIdle := false
    cap := some { trig := t, first := first, last := last, lead := lead, bf := fretBytes s.live c.select
                  status := putBit t.status stPreShort short, cut := none, endNs := t.time + 1000 * c.post, era := s.hist.era }
    capos := x.capos ++ [{ no := x.nextNo, filling := true, first := held, last := last, bytes := 0, lanes := selLanes c.select, stream := none, lastSeq := 0, era := s.hist.era }] } s

/-- The running capture and its capo end at another fret. -/
def setLast (u last : Nat) (k : Capture) (s : State) : State :=
  let x := unitAt s u
  putUnit u { x with cap := some { k with last := last }
                     capos := x.capos.map (fun c => if c.filling then { c with last := last } else c) } s

/-- CAPTURE_EXTEND under EXTEND (R254); a capture already cut short keeps its end. -/
def extendCapture (u : Nat) (t : Trigger) (k : Capture) (s : State) : State :=
  let c := unitOf s.live u
  let p := s.live.period
  let last := (t.time + 1000 * c.post + k.lead - 1) / p
  let frets := freeQuota s u / k.bf
  let count (v : State) : State := putUnit u { unitAt v u with extends_ := satAdd 4294967295 (unitAt v u).extends_ 1 } v
  let wider := max k.endNs (t.time + 1000 * c.post)
  if last ≤ k.last ∨ k.cut.isSome = true then count s
  else if last + 1 ≤ k.first + frets then
    count (setLast u last { k with status := setBit k.status stExtended, endNs := wider } s)
  else if t.time / p + 1 ≤ k.first + frets then
    count (setLast u (k.first + frets - 1) { k with status := setBit (setBit k.status stExtended) stClipped, endNs := wider } s)
  else missTrigger u t (putUnit u { unitAt s u with cap := some { k with status := setBit k.status stClipped } } s)

/-- The unit that takes a hand-off: the lowest of CHAIN_MASK that is ARMED with SOURCE CHAIN (R253). -/
def chainTarget (s : State) (u : Nat) : Option Nat :=
  (List.range 8).find? (fun v => bitOf (unitOf s.live u).chainMask v && decide ((unitOf s.live v).source = 0x20) &&
    decide ((unitAt s v).state = .armed) && s.fret.acquiring)

/-- A trigger that finds a capture running is handled by POLICY; a hand-off starts 4 CCLK after the combiner output (R253, R254). -/
def policyTrigger (u : Nat) (t : Trigger) (s : State) : State :=
  let x := unitAt s u
  match x.cap with
  | none => s
  | some k =>
    let c := unitOf s.live u
    if c.policy = 1 then putUnit u { x with ignored := satAdd 4294967295 x.ignored 1 } s
    else if c.policy = 2 then
      match chainTarget s u with
      | some v => startCapture v { t with src := 0x30 + u, status := setBit t.status stChained, reach := t.reach + 2 } s
      | none => missTrigger u t s
    else extendCapture u t k s

/-- Order of triggers of one trigger time in one CCLK: combiner output, hand-off, sympathetic message, command; a forced one last (R252). -/
def triggerRank (t : Trigger) : Nat := if t.src < 16 then 0 else if 48 ≤ t.src then 1 else if t.src < 32 then 2 else if t.src = 32 then 3 else 4

/-- Of two triggers that reach a unit in one CCLK, the first starts the capture (R252). -/
def startsFirst (a b : Trigger) : Bool :=
  decide (a.reach = b.reach) && (decide (triggerRank b = 4) || decide (a.time < b.time) || (decide (a.time = b.time) && decide (triggerRank a < triggerRank b)))

/-- A unit's capture gives way to one that started in the same CCLK with an earlier trigger time; its own trigger then falls under POLICY, a forced
one under nothing (R252). -/
def replaceCapture (u : Nat) (t : Trigger) (k : Capture) (s : State) : State :=
  let x := unitAt s u
  let v := startCapture u t (putUnit u { x with nextNo := x.nextNo - 1, capos := x.capos.filter (fun c => !c.filling), cap := none } s)
  if triggerRank k.trig = 4 then v else policyTrigger u k.trig v

/-- A trigger reaches a unit (R243, R252, R253, R401). -/
def unitTrigger (u : Nat) (t : Trigger) (s : State) : State :=
  let x := unitAt s u
  match x.state with
  | .idle => s
  | .armed => if s.fret.acquiring then startCapture u t s else missTrigger u t s
  | .rearm => missTrigger u t s
  | .full => missTrigger u t s
  | .capturing =>
    match x.cap with
    | none => s
    | some k => if startsFirst t k.trig then replaceCapture u t k s else policyTrigger u t s

/-- A trigger goes to every unit with a SOURCE code. -/
def toUnits (source : Nat) (t : Trigger) (s : State) : State :=
  (List.range 8).foldl (fun v u => if (unitOf v.live u).source = source then unitTrigger u t v else v) s

/-- Captures end at a fret at the latest: acquisition stopped, DISARM, a large step, the safe state (R250, R255, R401). -/
def cutCapture (u last bit : Nat) (always idle : Bool) (s : State) : State :=
  let x := unitAt s u
  match x.cap with
  | none => s
  | some k =>
    let sooner := decide (last < k.last)
    let t := putUnit u { x with toIdle := x.toIdle || idle } s
    setLast u (min last k.last)
      { k with cut := some (min last k.last), status := if sooner || always then setBit k.status bit else k.status } t

/-! ### The close and its records (R250, R251, R261 to R263) -/

/-- Where a unit's records go: its STREAM, where that is an open capture stream of the unit (R242, R324). -/
def captureStream (s : State) (u : Nat) : Option Nat :=
  let n := (unitOf s.live u).stream
  let c := streamAt s n
  if c.isOpen && decide (c.type = tyCapHeader) && decide (c.select = [u]) then some n else none

/-- History blocks of a capo's fret, in lane order; none from the other side of a large step (R248, R299), and offline SCAN blocks only beside a
result of another selected die (R210). -/
def fretBlocks (s : State) (k : Capo) (fret : Nat) : List LaneBlock :=
  let all := (k.lanes.map (fun l =>
    s.hist.blocks.filter (fun b => decide (b.fret = fret) && decide (b.era = k.era) && decide (b.lane = l)))).flatten
  if all.any (fun b => decide (b.block.kind = 2)) then all else all.filter (fun b => decide (b.block.kind ≠ 10))

/-- One past the last fret of an era whose records have closed. -/
def closedUpTo (s : State) (era : Nat) : Nat := if era = s.hist.era then s.hist.upTo else s.hist.upBefore

/-- Gathered frets of a capo, and those among them that hold a selected block. -/
def capoFrets (s : State) (k : Capo) : List Nat :=
  ((List.range (min (k.last + 1) (closedUpTo s k.era) - k.first)).map (k.first + ·))
def dataFrets (s : State) (k : Capo) : List Nat := (capoFrets s k).filter (fun f => !(fretBlocks s k f).isEmpty)

/-- Length of the CAPTURE_DATA record of a fret. -/
def dataLen (s : State) (k : Capo) (fret : Nat) : Nat :=
  32 + sumOf (fun b => blockLen b.block.payload.length) (fretBlocks s k fret)

/-- FILTER_TABLE (R262). -/
def filterTable (s : State) (sel : Nat) : List Byte :=
  ((selDyn sel).map (fun k => ((List.range 32).map (fun j =>
    let d := dynLive s (32 * k + j)
    if d.enable then leBytes 4 (outNs d) ++ leBytes 4 (delayTotal d) else leBytes 8 0)).flatten)).flatten

/-- The CAPTURE_HEADER payload (R262). -/
def headerPayload (s : State) (u : Nat) (k : Capture) (o : Capo) : List Byte :=
  let c := unitOf s.live u
  let x := unitAt s u
  let p := s.live.period
  let t := k.trig
  let us (n : Nat) : Nat := min (n / 1000) 4294967295
  let bytes := sumOf (dataLen s o) (dataFrets s o)
  [BitVec.ofNat 8 u, BitVec.ofNat 8 t.src] ++ leBytes 2 k.status ++ leBytes 4 (stampOf t.time) ++ leBytes 6 (t.time / 1000000000) ++
    [BitVec.ofNat 8 t.sub, BitVec.ofNat 8 t.origin] ++ leBytes 4 (t.time % 1000000000) ++ leBytes 2 t.cond ++
    [BitVec.ofNat 8 t.comb, 0] ++ leBytes 4 c.pre ++ leBytes 4 c.post ++ leBytes 4 (min c.pre (us (t.time - o.first * p))) ++
    leBytes 4 (us (min k.endNs ((o.last + 1) * p - k.lead) - t.time)) ++ leBytes 4 o.first ++ leBytes 4 (capoFrets s o).length ++
    leBytes 8 bytes ++ leBytes 4 k.lead ++ leBytes 4 o.no ++ leBytes 4 x.missed ++ leBytes 4 x.firstMissed ++ leBytes 4 x.dead ++
    leBytes 4 x.ignored ++ leBytes 4 x.extends_ ++ [BitVec.ofNat 8 (c.select % 256), BitVec.ofNat 8 (c.select / 256), BitVec.ofNat 8 t.merged] ++
    List.replicate 9 0 ++ filterTable s c.select

/-- All sample words of a record are right-aligned as they stand in the history; where only some are, RIGHT_ALIGN is 0 (R201, R205, R263;
the mixed case is a DESIGN CHOICE, log 92). -/
def allRight (bs : List LaneBlock) : Bool :=
  let words := bs.filter (fun b => decide (b.block.kind < 4))
  !words.isEmpty && words.all (fun b => b.block.right)

/-- A CAPTURE_DATA record takes its number; it is delivered later (R261, R263). -/
def numberData (n : Nat) (k : Capo) (s : State) (fret : Nat) : State :=
  let c := streamAt s n
  let bs := fretBlocks s k fret
  let r : Record := { type := tyCapData, hub := s.live.ring.hubId, stream := n, seq := c.nextSeq, stamp := stampOf (fret * s.live.period)
                      fret := fret, flags := closeFlags tyCapData c s + 32 * b2n (allRight bs), aux := 0, blocks := bs.map (·.block) }
  putStream n { c with nextSeq := c.nextSeq + 1, started := true
                       stored := c.stored ++ [{ rcd := r, slices := bs.filterMap (·.slice), closedAt := s.time.cclk, failover := false
                                                coder := none }] } s

/-- The records of a closed capture: the header, then the data records, numbered consecutively (R261). -/
def captureRecords (n u : Nat) (k : Capture) (o : Capo) (s : State) : State :=
  let t := closeWhole n tyCapHeader (stampOf k.trig.time) (k.trig.time / s.live.period) 0 [mkBlock 5 0 0 0 (headerPayload s u k o)] s
  (dataFrets t o).foldl (numberData n o) t

/-- Every record of a capo has been delivered in the stream that has them; where no stream has them, none is undelivered (R249). -/
def capoDelivered (s : State) (k : Capo) : Bool :=
  match k.stream with
  | none => true
  | some n =>
    let c := streamAt s n
    (c.hostRing.isNone || decide (k.lastSeq < c.point)) && (!c.ring || decide (k.lastSeq < c.ringPoint))

/-- Release the unit's capos that AUTO_RELEASE frees (R249). -/
def autoRelease (s : State) (u : Nat) : State :=
  if (unitOf s.live u).autoRelease then
    let x := unitAt s u
    putUnit u { x with capos := x.capos.filter (fun k => k.filling || k.stream.isNone || !capoDelivered s k) } s
  else s

/-- A capture closes: its records, its size, its interrupt source, and REARM or IDLE (R250, R383). -/
def closeCapture (u : Nat) (s : State) : State :=
  let x := unitAt s u
  match x.cap, x.capos.find? (·.filling) with
  | some k, some o =>
    let t := match captureStream s u with | none => s | some n => captureRecords n u k o s
    let seq := match captureStream s u with | none => 0 | some n => (streamAt t n).nextSeq - 1
    let y := unitAt t u
    let head := (captureStream s u).isSome
    (fun v => autoRelease (setSource (224 + u) v) u) (putUnit u { y with
      state := if (unitOf t.live u).repeating && !y.toIdle then .rearm else .idle, cap := none
      missed := if head then 0 else y.missed, firstMissed := if head then 0 else y.firstMissed, ignored := if head then 0 else y.ignored
      extends_ := if head then 0 else y.extends_, toIdle := false, closedAt := t.time.cclk
      capos := y.capos.map (fun c => if c.filling then { c with filling := false, bytes := sumOf (dataLen t o) (dataFrets t o), stream := captureStream s u, lastSeq := seq } else c) } t)
  | _, _ => putUnit u { x with state := .idle, cap := none } s

/-- A capture is due to close: boundary last + 2 has passed and its records have closed; after a large step, once the fret
at which it was cut has closed (R250, R255). -/
def captureDue (s : State) (k : Capture) : Bool :=
  if s.fret.regrid || decide (k.era ≠ s.hist.era) then
    let clear (b : FretBuf) : Bool := decide (k.last < b.idx ∨ b.idx < k.first ∨ b.era ≠ k.era)
    s.fret.closing.all clear && s.fret.gather.toList.all clear
  else decide (k.last + 2 ≤ s.fret.idx) && !s.fret.closeDue

/-- CAPTURE_CLOSE (R250). -/
def onCaptureClose (u : Nat) (s : State) : State :=
  match (unitAt s u).cap with
  | none => s
  | some k => if captureDue s k then closeCapture u (toCclk s.fret.closeAt s) else s

def execCaptureClose (unit : Nat) (s : State) : Host.Outcome State Fault Refusal := .next (onCaptureClose unit s)

/-- REARM_END: two frets, in CCLK, after the close (R251). -/
def onRearmEnd (u : Nat) (s : State) : State :=
  if (unitAt s u).state = .rearm then
    let t := toCclk ((unitAt s u).closedAt + 2 * fretCclk s.live) s
    armOrFull u ((t.time.cclk - (unitAt t u).closedAt) * 5 / 2) t
  else s

def execRearmEnd (unit : Nat) (s : State) : Host.Outcome State Fault Refusal := .next (onRearmEnd unit s)

/-- The first fret boundary at or after now, in half ns. -/
def boundaryNow (s : State) : Nat := period2 s * ceilDiv s.time.half (period2 s)

/-- FULL_TO_ARMED: at a fret boundary at which the quota and the capo count allow it (R251). -/
def onFullToArmed (u : Nat) (s : State) : State :=
  if (unitAt s u).state = .full && unitRoom s u then
    let t := toInstant (boundaryNow s) s
    armOrFull u (if (unitAt t u).nextNo = 0 then 0 else (t.time.cclk - (unitAt t u).closedAt) * 5 / 2) t
  else s

def execFullToArmed (unit : Nat) (s : State) : Host.Outcome State Fault Refusal := .next (onFullToArmed unit s)

/-- AUTO_TRIGGER: the first fret boundary at or after the timeout forces a trigger there; the capture starts 2 CCLK later
(R252); suspended while acquisition is stopped (R401). -/
def onAutoTrigger (u : Nat) (s : State) : State :=
  let x := unitAt s u
  let c := unitOf s.live u
  if decide (x.state = .armed) && decide (0 < c.auto) && s.fret.acquiring then
    let t := toCclk (x.armedAt + 400000 * c.auto) s
    let due := t.time.half - 5 * (t.time.cclk - (x.armedAt + 400000 * c.auto))
    let b := period2 t * ceilDiv due (period2 t)
    startCapture u { time := b / 2, sub := 0, src := 0x21, status := setBit 0 stForced, origin := t.live.ring.hubId, cond := 0xFFFF
                     comb := 0xFF, merged := 1, reach := (toInstant b t).time.cclk } (toInstant (b + 10) t)
  else s

def execAutoTrigger (unit : Nat) (s : State) : Host.Outcome State Fault Refusal := .next (onAutoTrigger unit s)

/-! ### Boundaries -/

/-- An ARM or DISARM takes effect (R243). -/
def unitBoundary (s : State) (u : Nat) : State :=
  let x := unitAt s u
  match x.wait with
  | none => s
  | some true =>
    if x.state = .idle then
      armOrFull u 0 (putUnit u { x with wait := none, nextNo := 0, dead := 0 } s)
    else putUnit u { x with wait := none } s
  | some false =>
    if x.state = .capturing then cutCapture u s.fret.idx stCutShort true true (putUnit u { x with wait := none } s)
    else putUnit u { x with wait := none, state := .idle } s

/-- The AUTO timeout restarts when acquisition starts (R401). -/
def restartAuto (s : State) (u : Nat) : State :=
  if (unitAt s u).state = .armed then putUnit u { unitAt s u with armedAt := s.time.cclk } s else s

/-! ### Delivery of capture data (R249, R261, R309) -/

/-- A record as a read of the history gives it to the ring: itself, or its LOST_RANGE where it cannot be read (R225, R309). -/
def readOf (x : Stored) (bad : Bool) (s : State) : Record :=
  if bad || storedBad s x then lostRecord x.rcd.stream (rangeOf x.rcd lostDramUe) s else x.rcd

/-- A capture stream at its host delivery point: a held LOST_RANGE, or the record, read and delivered (R225, R226, R261). -/
def captureToHost (n : Nat) (found : List ReadError) (s : State) : State :=
  let t := findLosses n (lossFuel (streamAt s n)) s
  let d := deliverRange n t
  if d.2 then d.1 else readPoint 2 id n found t

/-- The same at the ring delivery point: it waits for credit in the RETRIEVAL class (R261, R332). -/
def captureToRing (n : Nat) (found : List ReadError) (s : State) : State :=
  let c := passGoneRing (streamAt s n)
  if c.ring && !c.hold && decide (s.ring.state = .joined) then
    match c.ringRanges, c.stored.find? (fun x => decide (x.rcd.seq = c.ringNext)) with
    | l :: ls, _ => queueRetrieval 64 false (lostRecord n l s) (putStream n { c with ringRanges := ls } s)
    | [], none => s
    | [], some x =>
      let d := readStep (128 + n) (sliceBytes x) (afterPause s)
      if d.2 then
        let e := readErrors 2 x found d.1
        putStream n { c with ringNext := c.ringNext + 1 } (queueRetrieval 64 false (readOf x e.2 e.1) e.1)
      else d.1
  else s

/-- CAPTURE_DATA_DELIVER: the next record of a capture stream goes to its host ring and to the ring, as the replays leave it a share
(R261, R300); `found` is what its read meets (R309). -/
def onCaptureData (n : Nat) (found : List ReadError) (s : State) : State :=
  let c := streamAt s n
  if c.isOpen && decide (c.type = tyCapHeader) && !replayReady s then
    (List.range 8).foldl autoRelease (captureToRing n found (captureToHost n found s))
  else s

def execCaptureDataDeliver (stream : Nat) (found : List ReadError) (s : State) : Host.Outcome State Fault Refusal :=
  .next (onCaptureData stream found s)

/-! ### Commands (R242 to R246, R249) -/

/-- The unit's settings after the command. -/
def unitNew (p : UnitP) : UnitSet :=
  { source := p.source, select := p.select, pre := p.pre, post := p.post, quota := p.quota, repeating := decide (p.repeating = 1)
    auto := p.auto, policy := p.policy, chainMask := p.chainMask, stream := p.stream, autoRelease := decide (p.autoRelease = 1) }
def unitConfig (p : UnitP) (c : Settings) : Settings := { c with units := tput unitSet0 c.units p.unit (unitNew p) }

/-- UNIT_SET checks (R242, R245). -/
def unitCheck (p : UnitP) (s : State) : Option Reply :=
  let others := sumOf (fun u => if u = p.unit then 0 else (unitOf s.cfg u).quota) (List.range 8)
  checks [firstBad [(28, decide (7 < p.unit)), (29, decide (0x21 < p.source)), (30, decide (p.select = 0)), (36, decide (p.post < 1)),
      (40, decide (capoPool s.cfg s < 1048576 * (others + p.quota))), (44, decide (1 < p.repeating)), (45, decide (3600000 < p.auto)),
      (49, decide (2 < p.policy)), (51, decide (127 < p.stream)), (52, decide (1 < p.autoRelease))],
    (if (unitAt s p.unit).state ≠ .idle ∨ (unitAt s p.unit).wait = some true then some (refusedState 6 p.unit) else none),
    admission (unitConfig p s.cfg) s.streams s]

def execUnitSet (h : CmdHdr) (p : UnitP) (s : State) : Host.Outcome State Fault Refusal :=
  .next (runCommand h 0x0503 (unitCheck p) (fun t => finishAtBoundary h 0x0503 (accept (unitConfig p) t)) s)

def execUnitSetTwin (h : CmdHdr) (unit : Nat) (s : State) : Host.Outcome State Fault Refusal :=
  .next (readCommand h 0x0583 24 (fun _ => firstBad [(28, decide (7 < unit))])
    (fun t =>
      let c := unitOf t.cfg unit
      leBytes 1 c.source ++ leBytes 2 c.select ++ leBytes 4 c.pre ++ leBytes 4 c.post ++ leBytes 4 c.quota ++ leBytes 1 (b2n c.repeating) ++
        leBytes 4 c.auto ++ [BitVec.ofNat 8 c.policy, BitVec.ofNat 8 c.chainMask, BitVec.ofNat 8 c.stream, BitVec.ofNat 8 (b2n c.autoRelease)]) s)

/-- ARM: at the next boundary, where the largest capo fits (R243, R244); a unit that is not IDLE stays as it is. -/
def execArm (h : CmdHdr) (unit : Nat) (s : State) : Host.Outcome State Fault Refusal :=
  .next (runCommand h 0x0504
    (fun t => checks [firstBad [(28, decide (7 < unit))], (if (unitAt t unit).state = .idle then quotaCheck t.cfg unit else none)])
    (fun t =>
      if (unitAt t unit).state = .idle then finishAtBoundary h 0x0504 (putUnit unit { unitAt t unit with wait := some true } t)
      else finish h 0x0504 okReply t) s)

/-- DISARM (R243, R255): at the next boundary. -/
def execDisarm (h : CmdHdr) (unit : Nat) (s : State) : Host.Outcome State Fault Refusal :=
  .next (runCommand h 0x0505 (fun _ => firstBad [(28, decide (7 < unit))])
    (fun t =>
      let x := unitAt t unit
      if x.state = .idle ∧ x.wait = none then finish h 0x0505 okReply t
      else if x.state = .capturing then
        finishAtBoundary h 0x0505 (cutCapture unit t.fret.idx stCutShort true true t)
      else finishAtBoundary h 0x0505 (putUnit unit { x with wait := some false } t)) s)

/-- CAPTURE_RELEASE checks: the capo is held, closed, and its records are delivered (R249). -/
def releaseCheck (unit no : Nat) (s : State) : Option Reply :=
  let x := unitAt s unit
  orElseReply (firstBad [(28, decide (7 < unit))])
    (match x.capos.find? (fun k => decide (k.no = no)) with
     | none => some notFound
     | some k => if k.filling = true ∨ capoDelivered s k = false then some (refusedState 6 unit) else none)

/-- CAPTURE_RELEASE: the oldest capo of that number is released (R249). -/
def execCaptureRelease (h : CmdHdr) (unit captureNo : Nat) (s : State) : Host.Outcome State Fault Refusal :=
  .next (runCommand h 0x0507 (releaseCheck unit captureNo)
    (fun t =>
      let x := unitAt t unit
      let before := x.capos.takeWhile (fun k => decide (k.no ≠ captureNo))
      finish h 0x0507 okReply (putUnit unit { x with capos := before ++ x.capos.drop (before.length + 1) } t)) s)

end Sys2Proof.Machine
end

