-- ==== Sys2Proof/Machine/ValueOutputs.lean ====
section
/-! DEFINITION. Value outputs: TRIP, FREQ and PWM, their FAIL levels and diagnosis, and the GPIO settings (18, R452 to R460). -/

namespace Sys2Proof.Machine

def valSetAt (c : Settings) (n : Nat) : ValSet := tget valSet0 c.val n
def valAt (s : State) (n : Nat) : ValRun := tget valRun0 s.loc.val n
def putVal (n : Nat) (r : ValRun) (s : State) : State := { s with loc.val := tput valRun0 s.loc.val n r }

/-- Modes by position (R452). -/
def modeTrip : Nat := 1
def modeFreq : Nat := 2
def modePwm : Nat := 3

/-! ### TRIP outputs (R456) -/

/-- VAL_TRIP (R459): 0 combiner, 1 command, 2 safe state; `lat` CCLK from now. -/
def tripEvent (n why lat : Nat) (s : State) : State :=
  let t := stampOf ((s.time.half + 5 * lat) / 2)
  eventAt 0x0A01 n t ([BitVec.ofNat 8 why, 0, 0, 0] ++ leBytes 4 t) s

/-- A combiner fires `lat` CCLK from now: the output de-energises, and its hold starts again (R456). -/
def tripOutput (lat : Nat) (s : State) (n : Nat) : State :=
  let r := valAt s n
  let c := valSetAt s.live n
  let t := putVal n { r with on := false, tripped := true
                             holdEnd := if c.hold = 0 then none else some (s.time.cclk + lat + 4 + 400000 * c.hold)
                             switched := if r.on then s.time.cclk + lat + 4 else r.switched } s
  if r.on then tripEvent n 0 lat t else t

/-- VAL_TRIP of every TRIP output of a combiner; in the safe state all are off already (R470). -/
def tripOutputs (comb lat : Nat) (s : State) : State :=
  if s.safety.safe then s
  else ((List.range 8).filter (fun n => decide ((valSetAt s.live n).mode = modeTrip) && decide ((valSetAt s.live n).comb = some comb))).foldl
    (tripOutput lat) s

/-- VAL_TRIP_HOLD_END (R456). -/
def onHoldEnd (n : Nat) (s : State) : State :=
  match (valAt s n).holdEnd with
  | none => s
  | some t =>
    let u := toCclk t s
    if u.safety.safe ∨ (valSetAt u.live n).mode ≠ modeTrip then putVal n { valAt u n with holdEnd := none } u
    else putVal n { valAt u n with on := true, tripped := false, holdEnd := none, switched := u.time.cclk } u

def execValTripHoldEnd (out : Nat) (s : State) : Host.Outcome State Fault Refusal := .next (onHoldEnd out s)

/-! ### FREQ and PWM outputs (R454, R455) -/

/-- (v - LO) clipped to the span, and the span (R454). -/
def valNum (c : ValSet) (v : Int) : Nat := (clip 0 (c.hi - c.lo) (v - c.lo)).toNat
def valDen (c : ValSet) : Nat := (c.hi - c.lo).toNat

/-- On-time of a FREQ period: half of it, or PULSE. -/
def freqHigh (c : ValSet) (period : Nat) : Nat := if c.pulse = 0 then period / 2 else 400 * c.pulse

/-- Period and on-time in CCLK for a value (R454). -/
def valWave (c : ValSet) (v : Int) : Nat × Nat :=
  if c.mode = modeFreq then
    let p := (roundDiv (400000000 * (valDen c : Int)) (1000 * valDen c + 9000 * valNum c v)).toNat
    (p, freqHigh c p)
  else (400000, (roundDiv (40000 * (valDen c : Int) + 320000 * (valNum c v : Int)) (valDen c)).toNat)

/-- Period and on-time at the FAIL level (R455): OFF, LOW, HIGH. -/
def failWave (c : ValSet) : Nat × Nat :=
  if c.fail = 0 then (400000, 0)
  else if c.mode = modeFreq then
    (if c.fail = 1 then (800000, freqHigh c 800000) else (36364, freqHigh c 36364))
  else (400000, if c.fail = 1 then 20000 else 380000)

/-- DIAG_BLIND follows the on-time (R458). -/
def noteBlind (n : Nat) (s : State) : State :=
  let r := valAt s n
  let b := decide (0 < r.high ∧ r.high < 8000)
  if b = r.blind then s
  else event 0x0A04 n ([BitVec.ofNat 8 (b2n b), 0, 0, 0] ++ leBytes 4 r.high) (putVal n { r with blind := b } s)

/-- When the next period of an output starts, in half ns: PWM at grid multiples of 1 ms, FREQ as its period ends (R454). -/
def nextPeriod (s : State) (n : Nat) : Nat :=
  let r := valAt s n
  if (valSetAt s.live n).mode = modePwm then 2000000 * ceilDiv s.time.half 2000000
  else s.time.half + 5 * (r.start + r.period - s.time.cclk)

/-- VAL_PERIOD_START: the waveform of the latest word, or the FAIL level (R454, R455); no waveform before the first word
(DESIGN CHOICE, log 20). -/
def onPeriod (n : Nat) (s : State) : State :=
  let c := valSetAt s.live n
  if (c.mode = modeFreq ∨ c.mode = modePwm) ∧ s.safety.safe = false then
    let t := toInstant (nextPeriod s n) s
    let r := valAt t n
    if r.failWord then
      let w := failWave c
      let u := putVal n { r with start := t.time.cclk, period := w.1, high := w.2, atFail := true } t
      noteBlind n (if r.atFail then u else event 0x0A05 n [0] u)
    else
      match r.word with
      | none => putVal n { r with start := t.time.cclk, period := 400000, high := 0, atFail := false } t
      | some v =>
        let w := valWave c v
        noteBlind n (putVal n { r with start := t.time.cclk, period := w.1, high := w.2, atFail := false } t)
  else s

def execValPeriodStart (out : Nat) (s : State) : Host.Outcome State Fault Refusal := .next (onPeriod out s)

/-- VAL_STALE_TIMEOUT: STALE has passed without a word with VALID = 1 (R455). -/
def onStale (n : Nat) (s : State) : State :=
  match (valAt s n).staleAt with
  | none => s
  | some t =>
    let u := toCclk t s
    let r := valAt u n
    let v := putVal n { r with failWord := true, atFail := true, staleAt := none } u
    if r.atFail then v else event 0x0A05 n [1] v

def execValStaleTimeout (out : Nat) (s : State) : Host.Outcome State Fault Refusal := .next (onStale out s)

/-- A word of the source in a record that closes: VALID = 0 puts the output aside, SETTLING keeps the last value (R455). -/
def valWord (n : Nat) (v : Int) (tags : Nat) (s : State) : State :=
  let r := valAt s n
  if bitOf tags tagValid then
    putVal n { r with word := if bitOf tags tagSettling then r.word else some v, failWord := false
                      staleAt := some (s.time.cclk + 400000 * (valSetAt s.live n).stale) } s
  else putVal n { r with failWord := true } s

/-- Words of closed records reach the FREQ and PWM outputs that name their channel (R454). -/
def valWords (ch : Chan) (v : Int) (tags : Nat) (s : State) : State :=
  ((List.range 8).filter (fun n => decide (modeFreq ≤ (valSetAt s.live n).mode) && decide ((valSetAt s.live n).src = ch))).foldl
    (fun t n => valWord n v tags t) s

/-! ### Diagnosis (R457) -/

/-- The output has a waveform. -/
def waving (s : State) (n : Nat) : Bool := decide (modeFreq ≤ (valSetAt s.live n).mode) && !s.safety.safe

/-- Since when the output has been, or is in each period, in the state a finding needs: energised for OPEN_LOAD, de-energised for STUCK_ON. None
where it is never so for the 20 µs of blanking and finding (R457). -/
def findingFrom (s : State) (n : Nat) (f : FbFinding) : Option Nat :=
  let r := valAt s n
  if waving s n then
    match f with
    | .openLoad => if 8000 ≤ r.high then some r.start else none
    | .stuckOn => if r.high = 0 then some r.start else if r.high + 8000 ≤ r.period then some (r.start + r.high) else none
  else if r.on = decide (f = .openLoad) then some r.switched else none

/-- VAL_FB_FINDING: no sooner than 10 µs of blanking and 10 µs without a break (R457). -/
def onFinding (n : Nat) (f : FbFinding) (s : State) : State :=
  match findingFrom s n f with
  | none => s
  | some c =>
    let t := toCclk (c + 8000) s
    let r := valAt s n
    match f with
    | .openLoad => raiseAlarm 0x0A02 n [] (putVal n { r with openLoad := true, openAt := t.time.cclk } t)
    | .stuckOn => raiseAlarm 0x0A03 n [] (putVal n { r with stuckOn := true, stuckAt := t.time.cclk } t)

def execValFbFinding (out : Nat) (finding : FbFinding) (s : State) : Host.Outcome State Fault Refusal := .next (onFinding out finding s)

/-- VAL_DIAG_CLEAR: 100 ms free of the finding, counted from when it was last made. -/
def onDiagClear (n : Nat) (f : FbFinding) (s : State) : State :=
  let r := valAt s n
  match f with
  | .openLoad => if r.openLoad then endAlarm 0x0A02 n [] (putVal n { r with openLoad := false } (toCclk (r.openAt + 40000000) s)) else s
  | .stuckOn => if r.stuckOn then endAlarm 0x0A03 n [] (putVal n { r with stuckOn := false } (toCclk (r.stuckAt + 40000000) s)) else s

def execValDiagClear (out : Nat) (finding : FbFinding) (s : State) : Host.Outcome State Fault Refusal := .next (onDiagClear out finding s)

/-! ### VAL_OUT_SET (R452, R453, R477) -/

/-- The output's settings after the command. -/
def valNew (p : ValOutP) : ValSet :=
  { mode := p.mode, safety := decide (p.safety = 1), src := p.src, comb := if p.comb = 0xFF then none else some p.comb, hold := p.hold
    lo := p.lo, hi := p.hi, pulse := p.pulse, fail := p.fail, stale := p.stale }
def valConfig (p : ValOutP) (c : Settings) : Settings := { c with val := tput valSet0 c.val p.out (valNew p) }

/-- A channel with open-wire detection or the tone off. -/
def diagOff (c : Settings) (x : Chan) : Bool :=
  match x.kind with
  | .dynamic => !(dynOf c x.num).openWire || !(dynOf c x.num).tone
  | .scanned => !(scanOf c x.num).openWire
  | _ => false

/-- The safety channels that the output's new settings make: its SRC, and the sources of its combiner (R477). -/
def outputChans (p : ValOutP) (c : Settings) : List Chan :=
  p.src :: if p.comb = 0xFF then []
  else (c.conds.filter (fun e => e.2.enable && decide (e.2.comb = p.comb))).map (·.2.src)

/-- VAL_OUT_SET checks. -/
def valOutCheck (p : ValOutP) (s : State) : Option Reply :=
  firstBad [(28, decide (7 < p.out)), (29, decide (3 < p.mode) ||
      (decide (p.safety = 1) && decide (p.mode = modeFreq) && decide (0 < p.pulse ∧ p.pulse < 20))),
    (30, decide (1 < p.safety) || (decide (p.safety = 1) && (outputChans p s.cfg).any (diagOff s.cfg))),
    (31, decide (p.src.kind = .gpio) || !chanOk p.src), (33, decide (15 < p.comb) && decide (p.comb ≠ 0xFF)), (34, decide (60000 < p.hold)),
    (38, decide (p.hi ≤ p.lo)), (46, decide (50 < p.pulse)), (47, decide (2 < p.fail)),
    (48, decide (p.stale < 1) || decide (10000 < p.stale))]

/-- Outputs named by a VAL_OUT_SET since the last boundary take their settings there: a TRIP output is energised; another mode
awaits its first period and its first word; an energised TRIP output that leaves TRIP trips by command (R453, R455, R456). -/
def setOutput (s : State) (n : Nat) : State :=
  let c := valSetAt s.live n
  let was := (valAt s n).on
  let fresh : ValRun := { valRun0 with openLoad := (valAt s n).openLoad, stuckOn := (valAt s n).stuckOn, blind := (valAt s n).blind, openAt := (valAt s n).openAt
                                       stuckAt := (valAt s n).stuckAt, switched := (valAt s n).switched }
  if c.mode = modeTrip then putVal n { fresh with on := true, blind := false, switched := if was then fresh.switched else s.time.cclk } s
  else
    let t := putVal n { fresh with start := s.time.cclk, switched := s.time.cclk
                                   staleAt := if c.mode = 0 then none else some (s.time.cclk + 400000 * c.stale) } s
    if was then tripEvent n 1 0 t else t

def execValOutSet (h : CmdHdr) (p : ValOutP) (s : State) : Host.Outcome State Fault Refusal :=
  .next (runCommand h 0x0B01 (valOutCheck p)
    (fun t => finishAtBoundary h 0x0B01 { accept (valConfig p) t with
      loc.valSet := if t.loc.valSet.contains p.out then t.loc.valSet else t.loc.valSet ++ [p.out] }) s)

def execValOutSetTwin (h : CmdHdr) (out : Nat) (s : State) : Host.Outcome State Fault Refusal :=
  .next (readCommand h 0x0B81 21 (fun _ => firstBad [(28, decide (7 < out))])
    (fun t =>
      let c := valSetAt t.cfg out
      leBytes 1 c.mode ++ leBytes 1 (b2n c.safety) ++ leBytes 2 (chanCode c.src) ++ leBytes 1 (c.comb.getD 0xFF) ++ leBytes 4 c.hold ++
        leSigned 4 c.lo ++ leSigned 4 c.hi ++ leBytes 1 c.pulse ++ leBytes 1 c.fail ++ leBytes 2 c.stale) s)

/-! ### GPIO_SET (R460) -/

def execGpioSet (h : CmdHdr) (dir out od : Nat) (s : State) : Host.Outcome State Fault Refusal :=
  .next (runCommand h 0x0B02 (fun _ => none)
    (fun t => finish h 0x0B02 okReply (setBoth (fun c => { c with gpio := { dir := dir, out := out, od := od } }) t)) s)

def execGpioSetTwin (h : CmdHdr) (s : State) : Host.Outcome State Fault Refusal :=
  .next (readCommand h 0x0B82 6 (fun _ => none)
    (fun t => leBytes 2 t.cfg.gpio.dir ++ leBytes 2 t.cfg.gpio.out ++ leBytes 2 t.cfg.gpio.od) s)

end Sys2Proof.Machine
end

