-- ==== Sys2Proof/Machine/Triggers.lean ====
section
/-! DEFINITION. The trigger unit: condition entries, combiners, sympathetic groups, and the trigger commands (09, R232 to R241,
R256 to R259; 15, R397). -/

namespace Sys2Proof.Machine

def condAt (s : State) (i : Nat) : CondRun := tget condRun0 s.trig.conds i
def combAt (s : State) (c : Nat) : CombRun := tget combRun0 s.trig.combs c
def putCond (i : Nat) (r : CondRun) (s : State) : State := { s with trig.conds := tput condRun0 s.trig.conds i r }
def putComb (c : Nat) (r : CombRun) (s : State) : State := { s with trig.combs := tput combRun0 s.trig.combs c r }
def groupAt (s : State) (g : Nat) : GroupSet := tget groupSet0 s.live.groups g
def combSetAt (c : Settings) (n : Nat) : CombSet := tget combSet0 c.combs n
def condSetAt (c : Settings) (i : Nat) : CondSet := tget condSet0 c.conds i

/-! ### Conditions (R234, R236, R238) -/

/-- Trigger time and SUB of a crossing of `b` between the previous word and this one (R238). -/
def crossing (b xa xk : Int) (ta tk : Nat) : Nat × Nat :=
  let q := if xk < xa then roundDiv (256 * (xa - b)) (xa - xk).toNat else roundDiv (256 * (b - xa)) (xk - xa).toNat
  if q = 256 then (tk, 0) else (((ta : Int) + roundDiv (q * ((tk : Int) - ta)) 256).toNat, q.toNat)

/-- x lies in [lo, hi). -/
def within (lo hi x : Int) : Bool := decide (lo ≤ x) && decide (x < hi)

/-- What a pair of words does to one half of an entry: its activation (with the bound crossed, if any) and its re-arming. -/
structure Half where
  fire : Bool
  bound : Option Int
  rearm : Bool
  deriving DecidableEq, Repr

def riseHalf (e : CondSet) (xa x : Int) : Half :=
  { fire := decide (xa < e.a) && decide (e.a ≤ x), bound := some e.a, rearm := decide (x < e.a - e.h) }
def fallHalf (e : CondSet) (xa x : Int) : Half :=
  { fire := decide (e.a < xa) && decide (x ≤ e.a), bound := some e.a, rearm := decide (e.a + e.h < x) }
def leaveHalf (e : CondSet) (xa x : Int) : Half :=
  { fire := within e.a e.b xa && !within e.a e.b x, bound := some (if x < e.a then e.a else e.b)
    rearm := within (e.a + e.h) (e.b - e.h) x }
def enterHalf (e : CondSet) (xa x : Int) : Half :=
  { fire := !within e.a e.b xa && within e.a e.b x, bound := some (if xa < e.a then e.a else e.b)
    rearm := !within (e.a - e.h) (e.b + e.h) x }
def stepHalf (e : CondSet) (xa x : Int) : Half :=
  { fire := decide (e.a ≤ (x - xa).natAbs), bound := none, rearm := decide (((x - xa).natAbs : Int) < e.a - e.h) }

/-- The half of a kind that has one, and the falling half of CROSS. -/
def mainHalf (e : CondSet) (xa x : Int) : Half :=
  if e.kind = 1 ∨ e.kind = 3 then riseHalf e xa x
  else if e.kind = 2 then fallHalf e xa x
  else if e.kind = 4 then leaveHalf e xa x
  else if e.kind = 5 then enterHalf e xa x
  else stepHalf e xa x

/-- A half that is armed activates and disarms; one that is not re-arms. -/
def nextArmed (armed : Bool) (h : Half) : Bool := if armed then !h.fire else h.rearm

/-- Trigger time and SUB of an activation. -/
def halfTime (h : Half) (xa x : Int) (ta tk : Nat) : Nat × Nat :=
  match h.bound with
  | none => (tk, 0)
  | some b => crossing b xa x ta tk

/-- An entry evaluates a word: its memory after it, and its activation. -/
def evalWord (e : CondSet) (r : CondRun) (w : TrigWord) : CondRun × Option (Nat × Nat) :=
  if e.kind = 7 then
    let hit := decide (w.tags % 256 &&& (e.a % 256).toNat ≠ 0)
    ({ r with riseArmed := !hit }, if r.riseArmed && hit then some (w.inst, 0) else none)
  else if e.kind = 0 ∨ 8 ≤ e.kind then (r, none)
  else if bitOf w.tags tagSettling || !bitOf w.tags tagValid then ({ r with prev := none }, none)
  else
    match r.prev with
    | none => ({ r with prev := some (w.x, w.inst) }, none)
    | some (xa, ta) =>
      let m := mainHalf e xa w.x
      let f := fallHalf e xa w.x
      ({ riseArmed := nextArmed r.riseArmed m, fallArmed := if e.kind = 3 then nextArmed r.fallArmed f else r.fallArmed
         prev := some (w.x, w.inst) },
       if r.riseArmed && m.fire then some (halfTime m xa w.x ta w.inst)
       else if decide (e.kind = 3) && r.fallArmed && f.fire then some (halfTime f xa w.x ta w.inst)
       else none)

/-! ### Sympathetic messages out (R256, R257, R259) -/

/-- The 32-byte payload (R257). -/
def sympPayload (msg group origin comb seq sub merged time : Nat) (unlocked fallback command : Bool) : List Byte :=
  let body := [BitVec.ofNat 8 msg, BitVec.ofNat 8 group, BitVec.ofNat 8 (origin % 64 + 64 * b2n unlocked + 128 * b2n fallback),
      BitVec.ofNat 8 (comb % 16 + 16 * b2n command)] ++ leBytes 2 seq ++ [BitVec.ofNat 8 sub, BitVec.ofNat 8 merged] ++
    leBytes 6 (time / 1000000000) ++ [0, 0] ++ leBytes 4 (time % 1000000000) ++ leBytes 4 (stampOf time) ++ [0, 0, 0, 0]
  body ++ leBytes 4 (crc32c body).toNat

/-- A message leaves in the trigger class 56 CCLK after the combiner output, which is `lat` CCLK from now; only a JOINED hub sends it (R88, R320,
R338). -/
def sendSymp (lat : Nat) (payload : List Byte) (s : State) : State :=
  if s.ring.state = .joined then sendJorva 1 32 (56 + lat) none 0 true (.sympathetic payload) s else s

/-- A trigger as a group delivers it to this hub's units at a CCLK (R262). -/
def groupTrigger (group time sub origin cond comb merged reach : Nat) (unlocked fallback command : Bool) : Trigger :=
  { time := time, sub := sub, src := 0x10 + group, origin := origin, cond := cond, comb := comb, merged := merged, reach := reach
    status := maskOf (stSympathetic :: (if command then [stCommand] else []) ++ (if unlocked then [stUnlocked] else []) ++
      (if 1 < merged then [stMerged] else []) ++ (if fallback then [stFallback] else [])) }

/-- Requests of a group that a TRIGGER answers are forgotten (R259). -/
def sawTrigger (group time : Nat) (s : State) : State :=
  { s with trig.requests := tmod [] s.trig.requests group (fun rs => rs.filter (fun r => decide (r.time < time))) }

/-- The arbiter takes a request `lat` CCLK from now: it opens the merge window or joins it; the earliest trigger time leads, on a tie that of the
lower hub (R259). -/
def takeRequest (group lat : Nat) (q : Merge) (s : State) : State :=
  match tget none s.trig.merges group with
  | none => { s with trig.merges := tput none s.trig.merges group
                       (some { q with endAt := s.time.cclk + lat + 400 * (groupAt s group).wG, count := 1 }) }
  | some m =>
    let lead := if q.time < m.time ∨ (q.time = m.time ∧ q.hub < m.hub) then q else m
    { s with trig.merges := tput none s.trig.merges group (some { lead with endAt := m.endAt, count := m.count + 1 }) }

/-- A firing, or a CAPTURE_TRIGGER, sends to a group `lat` CCLK from now: DIRECT to ring and own units; ARBITRATED a REQUEST, which the own units
take where no valid arbiter lease is known (R256, R259). `comb` is 0xFF for a command. -/
def sendGroup (group time sub cond comb lat : Nat) (command : Bool) (s : State) : State :=
  let hub := s.live.ring.hubId
  let unlocked := !s.time.locked
  let arb := (groupAt s group).arbitrated
  let t := sendSymp lat (sympPayload (if arb then 2 else 1) group hub (if comb = 0xFF then 0 else comb) s.trig.originSeq sub 1 time unlocked
    false command) s
  let u := if s.ring.state = .joined then { t with trig.originSeq := (s.trig.originSeq + 1) % 65536 } else t
  let own := groupTrigger group time sub hub cond comb 1 (s.time.cclk + lat) unlocked false command
  if arb then
    let taken := !leaseKnown s.ring.arbiter (nowNs s)
    let v := { u with trig.requests := tmod [] u.trig.requests group (fun rs => rs ++
      [{ time := time, sub := sub, comb := comb, sentAt := s.time.cclk + lat + 56, command := command, taken := taken }]) }
    if s.ring.arbiter.held then
      takeRequest group lat { endAt := 0, time := time, sub := sub, hub := hub, comb := comb, count := 1, seq := s.trig.originSeq,
                              unlocked := unlocked, command := command } v
    else if taken then toUnits (0x10 + group) own v
    else v
  else toUnits (0x10 + group) own u

/-! ### Combiners (R239 to R241) -/

/-- A firing passed on, `lat` CCLK from now: units, the event, the group and TRIP outputs (R241, R256, R456). -/
def passOn (c cond time sub lat : Nat) (s : State) : State :=
  let k := combSetAt s.live c
  let r := combAt s c
  let s1 := toUnits c { time := time, sub := sub, src := c, status := 0, origin := s.live.ring.hubId, cond := cond, comb := c, merged := 1,
                         reach := s.time.cclk + lat }
    (putComb c { r with lastFire := some time, heldSince := 0 } s)
  let s2 := if k.event then
      eventAt 0x0401 c (stampOf time) (secNs time ++ [BitVec.ofNat 8 sub, 0] ++ leBytes 2 cond ++ [0, 0] ++ leBytes 4 r.heldSince) s1
    else s1
  let s3 := match k.group with | none => s2 | some g => sendGroup g time sub cond c lat false s2
  tripOutputs c lat s3

/-- The terms that count with one at `t`: signed difference of short stamps within W (R240). -/
def counted (k : CombSet) (t : Nat) (ts : List Term) : List Term :=
  ts.filter (fun x => decide ((stampDiff (stampOf x.time) (stampOf t)).natAbs ≤ 1000 * k.w))

/-- The combiner's mode is satisfied (R240). -/
def combFires (s : State) (c : Nat) (k : CombSet) (n : List Term) : Bool :=
  if k.mode = 0 then true
  else if k.mode = 1 then s.live.conds.all (fun e => !(e.2.enable && decide (e.2.comb = c)) || n.any (fun x => decide (x.entry = e.1)))
  else decide (k.k ≤ n.length)

/-- The counted term whose time the combiner takes: earliest or latest (R240). -/
def anchorTerm (k : CombSet) (x : Term) (n : List Term) : Term :=
  n.foldl (fun a b => if k.anchor = 0 then (if b.time < a.time then b else a) else (if a.time < b.time then b else a)) x

/-- A firing within HOLDOFF of the last one passed on is suppressed and counted (R241). -/
def fireComb (c cond lat : Nat) (x : Term) (s : State) : State :=
  let r := combAt s c
  let hold := 1000 * (combSetAt s.live c).holdoff
  let soon := match r.lastFire with
    | none => false
    | some l => decide (0 < hold) && decide ((x.time : Int) - l < hold)
  if soon then putComb c { r with terms := [], held := (r.held + 1) % 4294967296, heldSince := (r.heldSince + 1) % 4294967296 } s
  else passOn c cond x.time x.sub lat (putComb c { r with terms := [] } s)

/-- An activation reaches its combiner, whose output follows `lat` CCLK from now (R88, R240, R264). -/
def activate (i time sub lat : Nat) (s : State) : State :=
  let c := (condSetAt s.live i).comb
  let k := combSetAt s.live c
  let r := combAt s c
  let x : Term := { entry := i, time := time, sub := sub }
  let ts := (r.terms.filter (fun y => decide (y.entry ≠ i) && decide (nowNs s < y.time + 2000000000))) ++ [x]
  let n := counted k time ts
  let t := putComb c { r with terms := ts } s
  if combFires s c k n then fireComb c i lat (anchorTerm k x n) t else t

/-! ### Words and edges (R232, R233) -/

/-- Entries in effect that watch a source. -/
def watching (s : State) (src : Chan) : List (Nat × CondSet) :=
  s.live.conds.filter (fun e => e.2.enable && decide (0 < e.2.kind) && decide (e.2.src = src))

/-- An entry takes a word: 6 CCLK to the condition result, 3 more to the combiner output (R88, R264). -/
def takeWord (w : TrigWord) (s : State) (e : Nat × CondSet) : State :=
  let q := evalWord e.2 (condAt s e.1) w
  let t := putCond e.1 q.1 s
  match q.2 with
  | none => t
  | some (time, sub) => activate e.1 time sub 9 t

/-- The word that arrives next. -/
def firstWord : List TrigWord → Option TrigWord
  | [] => none
  | w :: ws => match firstWord ws with
    | none => some w
    | some v => if v.arrive < w.arrive then some v else some w

/-- Remove the first copy of a word. -/
def dropWord (w : TrigWord) : List TrigWord → List TrigWord
  | [] => []
  | v :: vs => if v = w then vs else v :: dropWord w vs

/-- TRIGGER_WORD_ARRIVAL: the next word on its way reaches the trigger unit (R232, R236). -/
def onWord (s : State) : State :=
  match firstWord s.trig.flight with
  | none => s
  | some w =>
    let t := toInstant w.arrive { s with trig.flight := dropWord w s.trig.flight }
    (watching t w.src).foldl (takeWord w) t

def execTriggerWordArrival (s : State) : Host.Outcome State Fault Refusal := .next (onWord s)

/-- An EDGE entry takes an edge: 8 CCLK to the condition result, 3 more to the combiner output (R236, R264). -/
def takeEdge (level : Bool) (s : State) (e : Nat × CondSet) : State :=
  let r := condAt s e.1
  let selected := decide (e.2.a % 2 = (b2n (!level) : Int))
  if selected then
    if r.riseArmed then activate e.1 (nowNs s) 0 11 (putCond e.1 { r with riseArmed := false } s) else s
  else putCond e.1 { r with riseArmed := true } s

/-- GPIO_EDGE: an input changes level (R233, R460). -/
def onGpio (pin : Nat) (level : Bool) (s : State) : State :=
  let t := { s with loc.gpio := putBit s.loc.gpio pin level }
  if bitOf s.loc.gpio pin = level ∨ bitOf s.live.gpio.dir pin = true then t
  else ((watching t ⟨.gpio, pin⟩).filter (fun e => decide (e.2.kind = 8))).foldl (takeEdge level) t

def execGpioEdge (pin : Nat) (level : Bool) (s : State) : Host.Outcome State Fault Refusal := .next (onGpio pin level s)

/-- TERM_EXPIRY: hub time has passed the oldest stored term by 2 s (R240). -/
def onTermExpiry (c : Nat) (s : State) : State :=
  match (combAt s c).terms with
  | [] => s
  | x :: xs =>
    let oldest := xs.foldl (fun m y => min m y.time) x.time
    let t := toInstant (2 * (oldest + 2000000000)) s
    putComb c { combAt t c with terms := (combAt t c).terms.filter (fun y => decide (nowNs t < y.time + 2000000000)) } t

def execTermExpiry (comb : Nat) (s : State) : Host.Outcome State Fault Refusal := .next (onTermExpiry comb s)

/-! ### Sympathetic messages in (R258, R259) -/

/-- An event that merges with one of its code and source still waiting (R228, R258). -/
def coalesced (code source stamp : Nat) (args : List Byte) (s : State) : State :=
  let same (e : Event) : Bool := decide (e.code = code) && decide (e.source = source)
  if s.pairs.waitingEvents.any (fun e => same e.2) then
    { s with pairs.waitingEvents := s.pairs.waitingEvents.map (fun e => (e.1, if same e.2 then { e.2 with count := e.2.count + 1 } else e.2)) }
  else eventAt code source stamp args s

/-- CCLK from the first byte of a message to the capture start (R258). -/
def sympLatency (s : State) : Nat := if s.live.ring.rate10G then 56 else 40

/-- A message past its check, its age and the duplicate discard: TRIGGERs of other hubs, and the arbiter's of this hub's own
request, reach the group's units; a REQUEST goes to the arbiter, or is taken as a TRIGGER where no lease is known (R258, R259). -/
def acceptSymp (msg group origin comb seq sub merged time : Nat) (unlocked fallback command : Bool) (s : State) : State :=
  let t := groupTrigger group time sub origin 0xFFFF (if command then 0xFF else comb) merged (s.time.cclk + sympLatency s - 2) unlocked fallback command
  let own := decide (origin = s.live.ring.hubId)
  if msg = 1 then
    if own && !((groupAt s group).arbitrated && !fallback) then s
    else toUnits (0x10 + group) t (sawTrigger group time s)
  else if msg = 2 then
    if own then s
    else if s.ring.arbiter.held then
      takeRequest group 0 { endAt := 0, time := time, sub := sub, hub := origin, comb := comb, count := 1, seq := seq, unlocked := unlocked,
                            command := command } s
    else if leaseKnown s.ring.arbiter (nowNs s) then s
    else toUnits (0x10 + group) t s
  else s

/-- SYMPATHETIC_RX (R257, R258). -/
def onSymp (p : List Byte) (s : State) : State :=
  let body := p.take 28
  let msg := fieldAt p 0 1
  let group := fieldAt p 1 1 % 16
  let b2 := fieldAt p 2 1
  let b3 := fieldAt p 3 1
  let seq := fieldAt p 4 2
  let time := fieldAt p 8 6 * 1000000000 + fieldAt p 16 4
  let recent := s.trig.seenSymp.filter (fun e => decide (s.time.cclk < e.2 + 4000000))
  if recent.any (fun e => decide (e.1 = ofLe p)) then { s with trig.seenSymp := recent }
  else if p.length ≠ 32 ∨ (crc32c body).toNat ≠ fieldAt p 28 4 then
    { s with trig.seenSymp := recent ++ [(ofLe p, s.time.cclk)], trig.badCheck := (s.trig.badCheck + 1) % 4294967296 }
  else
    let t := { s with trig.seenSymp := recent ++ [(ofLe p, s.time.cclk)] }
    let age : Int := ((s.time.half + 5 * sympLatency s) / 2 : Nat) - (time : Int)
    if 2147483648 ≤ age ∨ age ≤ -2147483648 then
      coalesced 0x0402 group (stampOf ((s.time.half + 5 * sympLatency s) / 2)) ([BitVec.ofNat 8 (b2 % 64), 0, 0, 0] ++ leSigned 8 age)
        { t with trig.stale := (t.trig.stale + 1) % 4294967296 }
    else acceptSymp msg group (b2 % 64) (b3 % 16) seq (fieldAt p 6 1) (fieldAt p 7 1) time (bitOf b2 6) (bitOf b2 7) (bitOf b3 4) t

def execSympatheticRx (_port : Port) (payload : List Byte) (s : State) : Host.Outcome State Fault Refusal := .next (onSymp payload s)

/-- MERGE_WINDOW_END: 56 CCLK after it the arbiter sends one TRIGGER, which its own units take too (R259). -/
def onMergeEnd (g : Nat) (s : State) : State :=
  match tget none s.trig.merges g with
  | none => s
  | some m =>
    let t := toCclk (m.endAt + 56) { s with trig.merges := tput none s.trig.merges g none }
    if t.ring.arbiter.held then
      toUnits (0x10 + g)
        (groupTrigger g m.time m.sub m.hub 0xFFFF (if m.command then 0xFF else m.comb) (min m.count 255) t.time.cclk m.unlocked false m.command)
        (sawTrigger g m.time (sendSymp 0
          (sympPayload 1 g m.hub (if m.comb = 0xFF then 0 else m.comb) m.seq m.sub (min m.count 255) m.time m.unlocked false m.command) t))
    else t

def execMergeWindowEnd (group : Nat) (s : State) : Host.Outcome State Fault Refusal := .next (onMergeEnd group s)

/-- SYMPATHETIC_FALLBACK: 150 ms after a request without a TRIGGER, it is sent again as a TRIGGER (R259). -/
def onFallback (g : Nat) (s : State) : State :=
  match tget [] s.trig.requests g with
  | [] => s
  | q :: qs =>
    let t := toCclk (q.sentAt + 60000000) { s with trig.requests := tput [] s.trig.requests g qs }
    let hub := t.live.ring.hubId
    let u := sendSymp 0 (sympPayload 1 g hub (if q.comb = 0xFF then 0 else q.comb) t.trig.originSeq q.sub 1 q.time (!t.time.locked) true q.command) t
    let v := if t.ring.state = .joined then { u with trig.originSeq := (t.trig.originSeq + 1) % 65536 } else u
    if q.taken then v
    else toUnits (0x10 + g) (groupTrigger g q.time q.sub hub 0xFFFF q.comb 1 t.time.cclk (!t.time.locked) true q.command) v

def execSympatheticFallback (group : Nat) (s : State) : Host.Outcome State Fault Refusal := .next (onFallback group s)

/-! ### Boundaries and large steps -/

/-- Entries written since the last boundary take effect: no previous word, armed, their stored terms cleared (R237). -/
def triggerBoundary (s : State) : State :=
  { s with
    trig.conds := s.trig.written.foldl tdrop s.trig.conds
    trig.combs := s.trig.written.foldl (fun t i => t.foldl (fun u c =>
      tput combRun0 u c.1 { c.2 with terms := c.2.terms.filter (fun x => decide (x.entry ≠ i)) }) t) s.trig.combs
    trig.written := [] }

/-! ### COND_WRITE (R235, R237, R477) -/

/-- The first field of an entry that breaks a rule. -/
def condFault (e : CondP) : Option Nat :=
  let bad := [(0, !chanOk e.src || decide ((e.kind = 8) ≠ (e.src.kind = .gpio))),
    (2, decide (8 < e.kind) || (decide (e.kind = 4 ∨ e.kind = 5) && decide (e.b ≤ e.a)) ||
      (decide (e.kind = 4) && decide (e.b - e.a ≤ 2 * e.h)) || (decide (e.kind = 6) && (decide (e.a ≤ 0) || decide (e.a ≤ e.h)))),
    (3, decide (15 < e.comb)), (e.reserved.getD 0, e.reserved.isSome)]
  match (bad.filter (·.2)).map (·.1) with
  | [] => none
  | o :: os => some (os.foldl min o)

/-- The setting an entry makes. -/
def condNew (e : CondP) : CondSet := { src := e.src, kind := e.kind, enable := e.enable, comb := e.comb, a := e.a, b := e.b, h := e.h }

/-- Numbered entries of a write. -/
def condItems (first : Nat) (es : List CondP) : List (Nat × CondP) := (List.range es.length).map (first + ·) |>.zip es

def condConfig (first : Nat) (es : List CondP) (c : Settings) : Settings :=
  { c with conds := (condItems first es).foldl (fun t e => tput condSet0 t e.1 (condNew e.2)) c.conds }

/-- An entry makes a channel with open-wire detection or tone off a safety channel (R477). -/
def condUnsafe (c : Settings) (e : CondP) : Bool :=
  e.enable && c.val.any (fun v => v.2.safety && decide (v.2.comb = some e.comb)) && diagOff c e.src

def condCheck (first : Nat) (es : List CondP) (s : State) : Option Reply :=
  checks [firstBad [(28, decide (1024 < first + es.length) || decide (1023 < first))],
    firstBad ((condItems 0 es).filterMap (fun e => (condFault e.2).map (fun o => (0x8000 + 16 * e.1 + o, true)))),
    (if es.any (condUnsafe s.cfg) then some (refusedState 0 0) else none)]

def execCondWrite (h : CmdHdr) (first : Nat) (entries : List CondP) (s : State) : Host.Outcome State Fault Refusal :=
  .next (runCommand h 0x0501 (condCheck first entries)
    (fun t => finishAtBoundary h 0x0501 { accept (condConfig first entries) t with
      trig.written := distinct (t.trig.written ++ (condItems first entries).map (·.1)) }) s)

/-- An entry's 16 bytes (R235). -/
def condBytes (e : CondSet) : List Byte :=
  leBytes 2 (chanCode e.src) ++ [BitVec.ofNat 8 (e.kind + 16 * b2n e.enable), BitVec.ofNat 8 e.comb] ++ leSigned 4 e.a ++ leSigned 4 e.b ++
    leBytes 4 e.h

def execCondWriteTwin (h : CmdHdr) (first count : Nat) (s : State) : Host.Outcome State Fault Refusal :=
  .next (readCommand h 0x0581 (16 * count) (fun _ => firstBad [(28, decide (1024 < first + count) || decide (1023 < first))])
    (fun t => ((List.range count).map (fun i => condBytes (condSetAt t.cfg (first + i)))).flatten) s)

/-! ### COMB_SET (R239, R241) -/

def combNew (p : CombP) : CombSet :=
  { mode := p.mode, k := p.k, w := p.w, anchor := p.anchor, holdoff := p.holdoff
    group := if p.sympGroup = 0xFF then none else some p.sympGroup, event := decide (p.event = 1) }
def combConfig (p : CombP) (c : Settings) : Settings := { c with combs := tput combSet0 c.combs p.comb (combNew p) }

def combCheck (p : CombP) : Option Reply :=
  firstBad [(28, decide (15 < p.comb)), (29, decide (2 < p.mode)), (30, decide (p.k < 1 ∨ 1024 < p.k)), (32, decide (1000000 < p.w)),
    (36, decide (1 < p.anchor)), (37, decide (2000000 < p.holdoff) || (decide (p.sympGroup ≠ 0xFF) && decide (p.holdoff < 1000))),
    (41, decide (15 < p.sympGroup) && decide (p.sympGroup ≠ 0xFF)), (42, decide (1 < p.event))]

def execCombSet (h : CmdHdr) (p : CombP) (s : State) : Host.Outcome State Fault Refusal :=
  .next (runCommand h 0x0502 (fun _ => combCheck p) (fun t => finishAtBoundary h 0x0502 (accept (combConfig p) t)) s)

def execCombSetTwin (h : CmdHdr) (comb : Nat) (s : State) : Host.Outcome State Fault Refusal :=
  .next (readCommand h 0x0582 14 (fun _ => firstBad [(28, decide (15 < comb))])
    (fun t =>
      let c := combSetAt t.cfg comb
      leBytes 1 c.mode ++ leBytes 2 c.k ++ leBytes 4 c.w ++ leBytes 1 c.anchor ++ leBytes 4 c.holdoff ++ leBytes 1 (c.group.getD 0xFF) ++
        leBytes 1 (b2n c.event)) s)

/-! ### SYMP_GROUP_SET and CAPTURE_TRIGGER (R256, R259) -/

def execSympGroupSet (h : CmdHdr) (group mode wG : Nat) (s : State) : Host.Outcome State Fault Refusal :=
  .next (runCommand h 0x0508 (fun _ => firstBad [(28, decide (15 < group)), (29, decide (1 < mode)), (30, decide (10000 < wG))])
    (fun t => finishAtBoundary h 0x0508
      (accept (fun c => { c with groups := tput groupSet0 c.groups group { arbitrated := decide (mode = 1), wG := wG } }) t)) s)

def execSympGroupSetTwin (h : CmdHdr) (group : Nat) (s : State) : Host.Outcome State Fault Refusal :=
  .next (readCommand h 0x0588 3 (fun _ => firstBad [(28, decide (15 < group))])
    (fun t =>
      let g := tget groupSet0 t.cfg.groups group
      leBytes 1 (b2n g.arbitrated) ++ leBytes 2 g.wG) s)

def capTrigCheck (p : CapTrigP) : Option Reply :=
  firstBad [(28, decide (1 < p.target)), (29, decide (p.target = 0 ∧ 7 < p.index) || decide (p.target = 1 ∧ 15 < p.index)),
    (30, decide (1 < p.hasTime)), (37, decide (p.hasTime = 1 ∧ 1000000000 ≤ p.ns))]

/-- CAPTURE_TRIGGER: at a unit, or through a group, at the time given or now (R243, R256). -/
def execCaptureTrigger (h : CmdHdr) (p : CapTrigP) (s : State) : Host.Outcome State Fault Refusal :=
  .next (runCommand h 0x0506 (fun _ => capTrigCheck p)
    (fun t =>
      let time := if p.hasTime = 1 then p.sec * 1000000000 + p.ns else nowNs t
      finish h 0x0506 okReply
        (if p.target = 0 then
          unitTrigger p.index { time := time, sub := 0, src := 0x20, status := setBit 0 stCommand, origin := t.live.ring.hubId, cond := 0xFFFF
                                comb := 0xFF, merged := 1, reach := t.time.cclk } t
         else sendGroup p.index time 0 0xFFFF 0xFF 0 true t)) s)

end Sys2Proof.Machine
end

