-- ==== Sys2Proof/Machine/Reduction.lean ====
section
/-! DEFINITION. The reduction engine: interval statistics, rainflow counting and Welch spectra, their records, the self-test and
the commands (10, R265 to R281, R288, R289). -/

namespace Sys2Proof.Machine

/-! ### Words (R265) -/

/-- A word as the engine takes it, with its completion instant in ns. -/
structure RedWord where
  chan : Chan
  x : Int
  tags : Nat
  inst : Nat
  done : Nat
  deriving DecidableEq, Repr

/-- VALID = 1 and SETTLING = 0. -/
def included (w : RedWord) : Bool := bitOf w.tags tagValid && !bitOf w.tags tagSettling

/-- The words of a closed fret's buffer. -/
def bufWords (b : FretBuf) : List RedWord :=
  (b.words ++ b.scanWords).map (fun w => { chan := w.chan, x := w.signed, tags := w.tags, inst := w.inst, done := w.done / 2 }) ++
    b.polls.map (fun p => { chan := ⟨.polled, p.p⟩, x := p.signed, tags := p.tags, inst := p.inst, done := p.inst })

/-- A pause overlaps the interval from `start` to `stop` of a time between large steps (R289). -/
def RedPause.meets (p : RedPause) (era start stop : Nat) : Bool :=
  decide (p.era = era) && decide (p.start < stop) && (match p.stop with | none => true | some e => decide (start < e))
def pauseMeets (r : Reduction) (era start stop : Nat) : Bool := r.pauses.any (·.meets era start stop)

/-- The instant lies in a pause. -/
def inPause (r : Reduction) (era t : Nat) : Bool := pauseMeets r era t (t + 1)

/-- The interval takes the words of fret `idx`: a fret of its own time between large steps, up to its completing one. -/
def takesWords (era idx : Nat) (e : Ending) : Bool := decide (e.era = era) && decide (idx ≤ e.last)

/-- Fret `idx` completes the interval (R266). -/
def completes (era idx : Nat) (e : Ending) : Bool := decide (e.era = era) && !e.cut && decide (e.last ≤ idx)

/-- The most a 32-bit counter holds, and a counter as a block shows it: the engine's counts saturate there (R269, R274). -/
def countMax : Nat := 4294967295
def shown (n : Nat) : List Byte := leBytes 4 (min n countMax)

/-- BFLAGS of a derived block (R267). -/
def redFlags (r : Reduction) (e : Ending) (start stop : Nat) (saturated : Bool) : Nat :=
  b2n (r.failed || pauseMeets r e.era start stop) + 2 * b2n e.stepped + 4 * b2n saturated + 8 * b2n e.stopped

/-- SELECT of block `i` of a set (R267). -/
def redSelect (set i : Nat) : Nat := set + 65536 * i

/-- A channel's part of a set's LEAD in ns: that of an enabled channel, and of a polled one's port (R244, R266, R436). -/
def chanLead (c : Settings) (x : Chan) : Nat :=
  match x.kind with
  | .dynamic => if (dynOf c x.num).enable then delayTotal (dynOf c x.num) else 0
  | .scanned => if (courseList c (x.num / 8)).contains (x.num % 8) then halfWindow c x.num else 0
  | .polled => portLead c (tget dirEntry0 c.dir x.num).port
  | .gpio => 0

/-- n_c (R266). -/
def completing (c : Settings) (cs : List Chan) (stop : Nat) : Nat := (stop + maxOf (chanLead c) cs - 1) / c.period

/-- n_c of an open interval follows its channels' settings until its end, while acquisition runs. -/
def refreshed (b : Nat) (cs : List Chan) (stop : Nat) (s : State) (e : Ending) : Ending :=
  if s.fret.acquiring && !e.cut && !e.stopped && decide (b ≤ stop) then { e with last := completing s.live cs stop } else e

/-- How an interval that begins at this boundary will end. -/
def newEnding (last : Nat) (s : State) : Ending := { ending0 with era := s.hist.era, last := last }

/-- A stream that carries a set's records: open, of the type, selecting the set (R268). -/
def redStream (s : State) (type set n : Nat) : Bool :=
  (streamAt s n).isOpen && decide ((streamAt s n).type = type) && decide ((streamAt s n).select = [set])

/-! ### Statistics (R269 to R271) -/

def statsAt (s : State) (n : Nat) : StatsRun := tget statsRun0 s.red.stats n
def putStats (n : Nat) (r : StatsRun) (s : State) : State := { s with red.stats := tput statsRun0 s.red.stats n r }

/-- An accumulator takes a word. -/
def accWord (w : RedWord) (a : StatAcc) : StatAcc :=
  let b := { a with total := a.total + 1, tags := a.tags ||| (w.tags &&& 126) }
  if included w then
    { b with valid := a.valid + 1, min := if a.valid = 0 then w.x else min a.min w.x
             max := if a.valid = 0 then w.x else max a.max w.x, sum := a.sum + w.x, sumSq := a.sumSq + (w.x * w.x).toNat }
  else b

/-- Positions of a channel in a list. -/
def positions (cs : List Chan) (x : Chan) : List Nat := (List.range cs.length).filter (fun i => decide (cs[i]? = some x))

/-- An interval takes a word. -/
def statsWord (w : RedWord) (o : StatsOpen) : StatsOpen :=
  if o.start ≤ w.inst ∧ w.inst < o.stop then
    { o with acc := (positions o.set.entries w.chan).foldl (fun t i => tmod statAcc0 t i (accWord w)) o.acc }
  else o

/-- The die that an entry's channel lies on is offline (R211). -/
def dieOffline (dies : List Nat) (x : Option Chan) : Bool :=
  match x with
  | none => false
  | some c => (decide (c.kind = .dynamic) && dies.contains (c.num / 32)) || (decide (c.kind = .scanned) && dies.contains (c.num / 64))

/-- Entries of dies offline in a fret are marked (R211, R271). -/
def statsOffline (dies : List Nat) (start stop : Nat) (o : StatsOpen) : StatsOpen :=
  if o.start < stop ∧ start < o.stop then
    { o with acc := ((List.range o.set.entries.length).filter (fun i => dieOffline dies o.set.entries[i]?)).foldl
                     (fun t i => tmod statAcc0 t i (fun a => { a with offline := true })) o.acc }
  else o

/-- MEAN and RMS (R270). -/
def statMean (a : StatAcc) : Int := if a.valid = 0 then 0 else roundDiv (256 * a.sum) a.valid
def statRms (a : StatAcc) : Nat := if a.valid = 0 then 0 else (isqrtFrom 48 (4 * 65536 * a.sumSq / a.valid) 0 + 1) / 2

/-- An item (R271). -/
def statItem (x : Chan) (a : StatAcc) : List Byte :=
  leBytes 2 (chanCode x) ++ [BitVec.ofNat 8 (a.tags % 128 + 128 * b2n a.offline), 0] ++ shown a.valid ++ shown a.total ++
    leSigned 4 (if a.valid = 0 then 0 else a.min) ++ leSigned 4 (if a.valid = 0 then 0 else a.max) ++ leSigned 4 (statMean a) ++
    leBytes 4 (statRms a)

/-- The blocks of a STATS record: 2,340 items each (R271). -/
def statBlocks (r : Reduction) (set : Nat) (o : StatsOpen) : List Block :=
  let n := o.set.entries.length
  (List.range (ceilDiv n 2340)).map (fun i =>
    let ps := (List.range (min 2340 (n - 2340 * i))).map (2340 * i + ·)
    let sat := ps.any (fun p => decide (countMax < (tget statAcc0 o.acc p).total))
    mkBlock 4 0 (redFlags r o.ending o.start o.stop sat) (redSelect set i)
      ((ps.map (fun p => match o.set.entries[p]? with | none => [] | some x => statItem x (tget statAcc0 o.acc p))).flatten))

/-! ### Rainflow (R272 to R275) -/

def rainAt (s : State) (n : Nat) : RainSetRun := tget rainSetRun0 s.red.rain n
def putRain (n : Nat) (r : RainSetRun) (s : State) : State := { s with red.rain := tput rainSetRun0 s.red.rain n r }

/-- Half cycles added to cell (r, m). -/
def addCell (r m k : Nat) (t : Table Nat) : Table Nat := tmod 0 t (64 * r + m) (· + k)

/-- |a − b|. -/
def absDiff (a b : Nat) : Nat := (a - b) + (b - a)

/-- The four-point test on the newest points (R273); the stack stands newest first. -/
def fourPoint : Nat → List Nat → Table Nat → List Nat × Table Nat
  | fuel + 1, d :: c :: b :: a :: rest, t =>
    if absDiff b c ≤ absDiff a b ∧ absDiff b c ≤ absDiff c d then
      fourPoint fuel (d :: a :: rest) (addCell (absDiff b c) ((b + c) / 2) 2 t)
    else (d :: c :: b :: a :: rest, t)
  | _, st, t => (st, t)

/-- A turning point is pushed and tested. -/
def pushPoint (p : Nat) (r : RainRun) (t : Table Nat) : RainRun × Table Nat :=
  let q := fourPoint (r.stack.length + 1) (p :: r.stack) t
  ({ r with stack := q.1 }, q.2)

/-- A level meets the candidate (R273); the first candidate has no direction yet. -/
def rainLevel (g l : Nat) (r : RainRun) (t : Table Nat) : RainRun × Table Nat :=
  match r.cand with
  | none => ({ r with cand := some l }, t)
  | some c =>
    let turn (up : Bool) : RainRun × Table Nat :=
      let q := pushPoint c r t
      ({ q.1 with cand := some l, up := some up }, q.2)
    match r.up with
    | none => if c + g ≤ l then turn true else if l + g ≤ c then turn false else (r, t)
    | some true => if c < l then ({ r with cand := some l }, t) else if l + g ≤ c then turn false else (r, t)
    | some false => if l < c then ({ r with cand := some l }, t) else if c + g ≤ l then turn true else (r, t)

/-- The level of a value, unclamped (R273). -/
def rainQuant (p : RainChanP) (x : Int) : Int := (x - p.lo) / ((p.hi - p.lo) / 64)

/-- A channel takes a word into a matrix; words of a pause count as skipped (R273, R289). -/
def rainWord (p : RainChanP) (skip : Bool) (w : RedWord) (r : RainRun) (a : RainAcc) : RainRun × RainAcc :=
  if skip || !included w then (r, { a with skipped := a.skipped + 1 })
  else
    let l := rainQuant p w.x
    let q := rainLevel p.gate (clip 0 63 l).toNat r a.cells
    (q.1, { a with cells := q.2, words := a.words + 1, out := a.out + b2n (decide (l < 0) || decide (63 < l)) })

/-- Adjacent pairs of residue points each add a half cycle. -/
def closePairs : List Nat → Table Nat → Table Nat
  | d :: c :: rest, t => closePairs (c :: rest) (addCell (absDiff c d) ((c + d) / 2) 1 t)
  | _, t => t

/-- A channel's interval ends: CLOSE counts the residue and keeps its newest point; the residue is noted (R274). -/
def sealRain (p : RainChanP) (r : RainRun) (a : RainAcc) : RainRun × RainAcc :=
  if a.res.isSome then (r, a)
  else
    let q := if p.mode = 1 then { r with stack := r.stack.take 1 } else r
    (q, { a with cells := if p.mode = 1 then closePairs r.stack a.cells else a.cells, res := some (q.stack.reverse, q.cand) })

/-- One channel of an interval and its matrix change together, by position `i`. -/
def atPos (i : Nat) (f : RainChanP → RainRun → RainAcc → RainRun × RainAcc) (q : RainSetRun) (o : RainOpen) : RainSetRun × RainOpen :=
  match o.set.chans[i]? with
  | none => (q, o)
  | some p =>
    let z := f p (tget rainRun0 q.chans (256 * o.gen + i)) (tget rainAcc0 o.acc i)
    ({ q with chans := tput rainRun0 q.chans (256 * o.gen + i) z.1 }, { o with acc := tput rainAcc0 o.acc i z.2 })

/-- All channels of an interval end, if they have not (R274). -/
def sealAll (q : RainSetRun) (o : RainOpen) : RainSetRun × RainOpen :=
  (List.range o.set.chans.length).foldl (fun a i => atPos i sealRain a.1 a.2) (q, o)

/-- A set's open intervals change in turn, oldest first, with its channels. -/
def eachOpen (f : RainSetRun → RainOpen → RainSetRun × RainOpen) (q : RainSetRun) : RainSetRun :=
  let z := q.opened.foldl (fun a o => let y := f a.1 o; (y.1, a.2 ++ [y.2])) (q, ([] : List RainOpen))
  { z.1 with opened := z.2 }

/-- A word reaches an open interval: one that it has left behind ends for the channel, one that holds it takes it. -/
def rainTake (era idx : Nat) (skip : Bool) (w : RedWord) (q : RainSetRun) (o : RainOpen) : RainSetRun × RainOpen :=
  if takesWords era idx o.ending && decide (o.start ≤ w.inst) then
    (positions (o.set.chans.map (·.chan)) w.chan).foldl (fun a i =>
      atPos i (fun p r c => if o.stop ≤ w.inst then sealRain p r c else rainWord p skip w r c) a.1 a.2) (q, o)
  else (q, o)

/-- A channel's block payload (R275). -/
def rainPayload (p : RainChanP) (a : RainAcc) : List Byte :=
  let res := (a.res.getD ([], none)).1
  let pend := (a.res.getD ([], none)).2
  leBytes 2 (chanCode p.chan) ++ [BitVec.ofNat 8 p.gate, BitVec.ofNat 8 p.mode] ++ leSigned 4 p.lo ++ leSigned 4 p.hi ++ shown a.words ++
    shown a.skipped ++ shown a.out ++ leBytes 2 a.cells.length ++ [BitVec.ofNat 8 res.length, BitVec.ofNat 8 (pend.getD 0xFF)] ++
    List.replicate 4 0 ++ (res.take 128).map (BitVec.ofNat 8) ++ List.replicate (128 - res.length) 0xFF ++
    (a.cells.map (fun e => [BitVec.ofNat 8 (e.1 / 64), BitVec.ofNat 8 (e.1 % 64), 0, 0] ++ shown e.2)).flatten

def rainBlocks (r : Reduction) (set : Nat) (o : RainOpen) : List Block :=
  (List.range o.set.chans.length).filterMap (fun i =>
    (o.set.chans[i]?).map (fun p =>
      let a := tget rainAcc0 o.acc i
      let sat := a.cells.any (fun e => decide (countMax < e.2)) || decide (countMax < a.words) || decide (countMax < a.skipped)
      mkBlock 4 1 (redFlags r o.ending o.start o.stop sat) (redSelect set i) (rainPayload p a)))

/-! ### Spectra (R276 to R280) -/

def specAt (s : State) (n : Nat) : SpecRun := tget specRun0 s.red.spec n
def putSpec (n : Nat) (r : SpecRun) (s : State) : State := { s with red.spec := tput specRun0 s.red.spec n r }

/-- An average takes a word: an included one counts in each of its segments that hold the word's index (R278). -/
def specWord (skip : Bool) (w : RedWord) (o : SpecOpen) : SpecOpen :=
  if decide (w.chan.kind = .dynamic) && o.set.chans.contains w.chan.num && decide (0 < o.tOut) then
    let k := w.done / o.tOut
    let n := 2 ^ o.set.log2n
    let h := specHop o.set
    let first := ceilDiv (k + 1 - n) h
    let segs := ((List.range (k / h + 1 - first)).map (first + ·)).filter (fun g => decide (g / o.set.a = o.j))
    let p := { o with lastK := some (max (o.lastK.getD 0) k) }
    if skip || !included w then p
    else { p with segs := segs.foldl (fun t g => tmod 0 t g (· + 1)) o.segs
                  vals := tput 0 o.vals (128 * k + o.set.chans.idxOf w.chan.num) w.x }
  else o

/-- Segments averaged: those whose words are all included; and those begun (R278). -/
def goodSegs (o : SpecOpen) : List Nat :=
  ((List.range o.set.a).map (o.j * o.set.a + ·)).filter (fun g => decide (tget 0 o.segs g = 2 ^ o.set.log2n * o.set.chans.length))
def begunSegs (o : SpecOpen) : List Nat :=
  match o.lastK with
  | none => []
  | some k => ((List.range o.set.a).map (o.j * o.set.a + ·)).filter (fun g => decide (g * specHop o.set ≤ k))

/-- N_SEG, and the segments discarded. -/
def segCounts (o : SpecOpen) : Nat × Nat := ((goodSegs o).length, (begunSegs o).length - (goodSegs o).length)

/-- X_k of a segment, windowed, for the channel at a position of the set; with 84 fraction bits (R277, R278). -/
def segBin (o : SpecOpen) (pos g k : Nat) : Int × Int :=
  let n := 2 ^ o.set.log2n
  binOf n k (windowed o.set.window n ((List.range n).map (fun i => tget 0 o.vals (128 * (g * specHop o.set + i) + pos))))

/-- A sum over an average's segments scaled by c_k / (N_SEG × f_out × S_2): binary32, but for the units in the last place that the order of
summation leaves open (R278). -/
def specScale (o : SpecOpen) (k seed i : Nat) (total : Int) : List Byte :=
  let n := 2 ^ o.set.log2n
  let c : Int := if k = 0 ∨ 2 * k = n then 1 else 2
  let v := binary32 (c * total * o.tOut) ((goodSegs o).length * 1000000000 * windowPower o.set.window n * 2 ^ 120)
  leBytes 4 ((v + Config.spectrumUlp seed i) % 4294967296).toNat

/-- The values of bin `k` of a channel's auto-spectrum, or of a pair's cross-spectrum: real, then imaginary (R278, R280). -/
def autoBin (o : SpecOpen) (pos k seed : Nat) : List Byte :=
  specScale o k seed (2 * k) (sumOf (fun g => (segBin o pos g k).1.natAbs ^ 2 + (segBin o pos g k).2.natAbs ^ 2) (goodSegs o))
def crossBin (o : SpecOpen) (x y k seed : Nat) : List Byte :=
  let part (f : Int × Int → Int × Int → Int) : Int := (goodSegs o).foldl (fun t g => t + f (segBin o x g k) (segBin o y g k)) 0
  specScale o k seed (2 * k) (part (fun a b => a.1 * b.1 + a.2 * b.2)) ++ specScale o k seed (2 * k + 1) (part (fun a b => a.1 * b.2 - a.2 * b.1))

/-- Bin lists of a channel (`per` 8,192) or pair (4,096): first bin and count of each block. -/
def binBlocks (bins per : Nat) : List (Nat × Nat) := (List.range (ceilDiv bins per)).map (fun i => (i * per, min per (bins - i * per)))

/-- A block's payload for channels at positions of the set; every bin is 0 where no segment was averaged (R278, R280). -/
def specPayload (o : SpecOpen) (x : Nat) (y : Option Nat) (first count seed : Nat) : List Byte :=
  let n := segCounts o
  let code (p : Nat) : Nat := dynCode (natAt o.set.chans p)
  let bin (k : Nat) : List Byte := match y with | none => autoBin o x k seed | some z => crossBin o x z k seed
  leBytes 2 (code x) ++ leBytes 2 (match y with | none => 0xFFFF | some z => code z) ++ leBytes 4 first ++ leBytes 4 count ++
    leBytes 4 n.1 ++ leBytes 2 (min n.2 65535) ++ [BitVec.ofNat 8 o.set.window, BitVec.ofNat 8 o.set.log2n] ++ leBytes 4 o.tOut ++
    List.replicate 8 0 ++
    (if n.1 = 0 then List.replicate ((if y.isNone then 4 else 8) * count) 0 else ((List.range count).map (fun i => bin (first + i))).flatten)

/-- The blocks of a SPECTRUM record in order: channel, second channel, first bin, bins. -/
def specPieces (o : SpecOpen) : List (Nat × Option Nat × Nat × Nat) :=
  let bins := 2 ^ (o.set.log2n - 1) + 1
  ((List.range o.set.chans.length).map (fun p => (binBlocks bins 8192).map (fun f => (p, none, f.1, f.2)))).flatten ++
    (o.set.pairs.map (fun p => (binBlocks bins 4096).map (fun f => (o.set.chans.idxOf p.1, some (o.set.chans.idxOf p.2), f.1, f.2)))).flatten

/-- Bounds of an average in ns: its first word's instant, and one output period after that of its last (R278). -/
def specStart (o : SpecOpen) : Nat := o.j * o.set.a * specHop o.set * o.tOut - o.dTotal
def specStop (o : SpecOpen) : Nat := (((o.j + 1) * o.set.a - 1) * specHop o.set + 2 ^ o.set.log2n) * o.tOut - o.dTotal

def specBlocks (r : Reduction) (set seed : Nat) (o : SpecOpen) : List Block :=
  let ps := specPieces o
  let flags := redFlags r o.ending (specStart o) (specStop o) (decide (65535 < (segCounts o).2))
  (List.range ps.length).filterMap (fun i =>
    (ps[i]?).map (fun p => mkBlock 4 (if p.2.1.isNone then 2 else 3) flags (redSelect set i)
      (specPayload o p.1 p.2.1 p.2.2.1 p.2.2.2 (seed + i))))

/-! ### Taking the words of a closed fret -/

/-- All sets take a word of fret `idx`. -/
def reduceWord (era idx : Nat) (r : Reduction) (w : RedWord) : Reduction :=
  let skip := inPause r era w.inst
  { r with
    stats := if skip then r.stats else r.stats.map (fun e =>
      (e.1, { e.2 with opened := e.2.opened.map (fun o => if takesWords era idx o.ending then statsWord w o else o) }))
    rain := r.rain.map (fun e => (e.1, eachOpen (rainTake era idx skip w) e.2))
    spec := r.spec.map (fun e =>
      (e.1, { e.2 with opened := e.2.opened.map (fun o => if takesWords era idx o.ending then specWord skip w o else o) })) }

/-- CCLK from the completing fret's close to the derived record's close (R288), in frets: F_e for rainflow, the FFT's for spectra. -/
def rainDelay (c : Settings) (t : RainSet) : Nat := 1 + rainFrets t.interval c.period
def specDelay (c : Settings) : Nat := 1 + (128 + specTotal c) / fretCclk c

/-- The frets before a large step have closed: the records of cut intervals are due (R90, R288). -/
def cutDue (now delay pc : Nat) (e : Ending) : Ending :=
  if e.cut && e.due.isNone then { e with due := some (now + delay * pc) } else e

/-- The rainflow intervals that have completed end for all their channels (R274). -/
def sealWhere (f : Ending → Bool) (r : Reduction) : Reduction :=
  { r with rain := r.rain.map (fun e => (e.1, eachOpen (fun q o => if f o.ending then sealAll q o else (q, o)) e.2)) }

/-- The engine takes the words of a fret whose records have closed; intervals that the fret completes end (R266, R274, R289). -/
def reduceFret (b : FretBuf) (s : State) : State :=
  let p := s.live.period
  let taken := if s.red.failed then s.red else sealWhere (completes b.era b.idx) ((bufWords b).foldl (reduceWord b.era b.idx) s.red)
  { s with red := { taken with stats := taken.stats.map (fun e =>
      (e.1, { e.2 with opened := e.2.opened.map (fun o =>
        if takesWords b.era b.idx o.ending then statsOffline b.offline (b.idx * p) (b.idx * p + p) o else o) })) } }

/-- After the last fret before a large step. -/
def reduceCut (s : State) : State :=
  let pc := fretCclk s.live
  let now := s.time.cclk
  let r := if s.red.failed then s.red else sealWhere (fun e => e.cut && e.due.isNone) s.red
  { s with
    red := { r with
      stats := r.stats.map (fun e => (e.1, { e.2 with opened := e.2.opened.map (fun o => { o with ending := cutDue now 1 pc o.ending }) }))
      rain := r.rain.map (fun e =>
        (e.1, { e.2 with opened := e.2.opened.map (fun o => { o with ending := cutDue now (rainDelay s.live o.set) pc o.ending }) }))
      spec := r.spec.map (fun e =>
        (e.1, { e.2 with opened := e.2.opened.map (fun o => { o with ending := cutDue now (specDelay s.live) pc o.ending }) })) } }

/-! ### Boundaries: settings, intervals that begin, stops and large steps (R268, R401, R54) -/

/-- At boundary `b` in ns a statistics set takes new settings where its next interval would begin, and opens one. -/
def statsBoundary (b : Nat) (s : State) (n : Nat) : State :=
  let r := statsAt s n
  let live := tget statsSet0 s.live.stats n
  let on (t : StatsSet) : Bool := decide (0 < t.interval) && !t.entries.isEmpty
  let q := if r.set ≠ live ∧ (on r.set = false ∨ b % (1000 * r.set.interval) = 0) then { r with set := live } else r
  let kept := q.opened.map (fun o => { o with ending := refreshed b o.set.entries o.stop s o.ending })
  if on q.set && s.fret.acquiring && decide (b % (1000 * q.set.interval) = 0) then
    let stop := b + 1000 * q.set.interval
    putStats n { q with opened := kept ++ [{ start := b, stop := stop, set := q.set, acc := []
                                             ending := newEnding (completing s.live q.set.entries stop) s }] } s
  else putStats n { q with opened := kept } s

/-- The same of a rainflow set; new settings start with an empty residue, while the intervals of the old ones run on with theirs. -/
def rainBoundary (b : Nat) (s : State) (n : Nat) : State :=
  let r := rainAt s n
  let live := tget rainSet0 s.live.rain n
  let on (t : RainSet) : Bool := decide (0 < t.interval) && !t.chans.isEmpty
  let q := if r.set ≠ live ∧ (on r.set = false ∨ b % (1000000000 * r.set.interval) = 0) then
    { r with set := live, gen := r.gen + 1, chans := r.chans.filter (fun e => r.opened.any (fun o => decide (o.gen = e.1 / 256))) } else r
  let kept := q.opened.map (fun o => { o with ending := refreshed b (o.set.chans.map (·.chan)) o.stop s o.ending })
  if on q.set && s.fret.acquiring && decide (b % (1000000000 * q.set.interval) = 0) then
    let stop := b + 1000000000 * q.set.interval
    putRain n { q with opened := kept ++ [{ gen := q.gen, start := b, stop := stop, set := q.set, acc := []
                                            ending := newEnding (completing s.live (q.set.chans.map (·.chan)) stop) s }] } s
  else putRain n { q with opened := kept } s

/-- The average whose first word completes in the fret that begins at `b` ns, if one does. -/
def averageAt (c : Settings) (t : SpecSet) (b : Nat) : Option Nat :=
  let step := t.a * specHop t * outNs (dynOf c (natAt t.chans 0))
  let j := ceilDiv b step
  if 0 < step ∧ j * step < b + c.period then some j else none

/-- The same of a spectral set. -/
def specBoundary (b : Nat) (s : State) (n : Nat) : State :=
  let r := specAt s n
  let live := tget specSet0 s.live.spec n
  let on (t : SpecSet) : Bool := decide (0 < t.a) && !t.chans.isEmpty
  let q := if r.set ≠ live ∧ (on r.set = false ∨ (averageAt s.live r.set b).isSome) then { r with set := live } else r
  match (if on q.set && s.fret.acquiring then averageAt s.live q.set b else none) with
  | none => putSpec n q s
  | some j =>
    let d := dynOf s.live (natAt q.set.chans 0)
    let lastWord := (((j + 1) * q.set.a - 1) * specHop q.set + 2 ^ q.set.log2n - 1) * outNs d
    putSpec n { q with opened := q.opened ++ [{ j := j, set := q.set, tOut := outNs d, dTotal := delayTotal d, segs := [], vals := [], lastK := none
                                                ending := newEnding (lastWord / s.live.period) s }] } s

/-- REDUCTION_BEGIN at a boundary. -/
def reductionBoundary (b : Nat) (s : State) : State :=
  (List.range 8).foldl (specBoundary b) ((List.range 8).foldl (rainBoundary b) ((List.range 8).foldl (statsBoundary b) s))

/-- Acquisition stops with fret `l`, at `b` ns (R401). -/
def stopEnding (l b stop : Nat) (e : Ending) : Ending :=
  if l < e.last ∧ e.cut = false then { e with last := l, stopped := decide (b < stop) } else e

def stopReductions (l b : Nat) (s : State) : State :=
  { s with
    red.stats := s.red.stats.map (fun e => (e.1, { e.2 with opened := e.2.opened.map (fun o => { o with ending := stopEnding l b o.stop o.ending }) }))
    red.rain := s.red.rain.map (fun e => (e.1, { e.2 with opened := e.2.opened.map (fun o => { o with ending := stopEnding l b o.stop o.ending }) }))
    red.spec := s.red.spec.map (fun e =>
      (e.1, { e.2 with opened := e.2.opened.map (fun o => { o with ending := stopEnding l b (specStop o) o.ending }) })) }

/-- A large step is applied at `b` ns of the old time, after fret `l`: open intervals complete with it; one whose words are all
taken keeps the time left to its close (R54, R90, R288). -/
def stepEnding (l b stop delay taken p now : Nat) (e : Ending) : Ending :=
  if e.cut then e
  else if e.last < taken then { e with cut := true, due := some (now + 128 + 2 * ((e.last + 2 + delay) * p - b) / 5) }
  else { e with cut := true, last := min l e.last, stepped := decide (b < stop) }

def stepReductions (l b : Nat) (s : State) : State :=
  let u := s.hist.upTo
  let p := s.live.period
  let now := s.time.cclk
  { s with
    red.stats := s.red.stats.map (fun e => (e.1, { e.2 with opened := e.2.opened.map (fun o =>
      { o with ending := stepEnding l b o.stop 1 u p now o.ending }) }))
    red.rain := s.red.rain.map (fun e => (e.1, { e.2 with opened := e.2.opened.map (fun o =>
      { o with ending := stepEnding l b o.stop (rainDelay s.live o.set) u p now o.ending }) }))
    red.spec := s.red.spec.map (fun e => (e.1, { e.2 with opened := e.2.opened.map (fun o =>
      { o with ending := stepEnding l b (specStop o) (specDelay s.live) u p now o.ending }) })) }

/-- The safe state: open intervals never close (10; R225). -/
def dropReductions (s : State) : State :=
  { s with red.stats := s.red.stats.map (fun e => (e.1, { e.2 with opened := [] }))
           red.rain := s.red.rain.map (fun e => (e.1, { e.2 with opened := [] }))
           red.spec := s.red.spec.map (fun e => (e.1, { e.2 with opened := [] })) }

/-! ### The derived records (R271, R275, R280) -/

/-- The state at the close of a derived record, where it is due: its completing fret has closed, and boundary n_c + 2 + delay has
passed; 128 CCLK after that boundary, or the CCLK count a large step left (R288). -/
def derivedDue (delay : Nat) (e : Ending) (s : State) : Option State :=
  match e.due with
  | some t => some (toCclk t s)
  | none =>
    if e.cut = false ∧ e.last < s.hist.upTo ∧ e.last + 2 + delay ≤ s.fret.idx then
      some (toInstant ((e.last + 2 + delay) * period2 s + 640) s)
    else none

/-- The contents that a derived record reports: while a failed self-test stops the engine, all counts are 0 (R289). -/
def unlessFailed (s : State) (o zero : α) : α := if s.red.failed then zero else o

/-- Close a derived record; where its accumulators held an uncorrectable burst, LOST_RANGE with COUNT 1 and DRAM_UE takes its number
and its place (10, Special cases; R225, R309); the syndrome in its log entry is free (DESIGN CHOICE, log 2). No record comes before the stream's
START EPOCH (R219). -/
def closeDerived (ue : Option Nat) (n type stamp fret : Nat) (blocks : List Block) (s : State) : State :=
  if !(streamAt s n).started then s else
  match ue.filter (inAccum s) with
  | none => closeWhole n type stamp fret 0 blocks s
  | some a =>
    let t := ueRead 4 a (1 + freshNat s % 255) (useFree s)
    let c := streamAt t n
    let r := lostRecord n { firstSeq := c.nextSeq, count := 1, firstFret := fret, lastFret := fret, reason := lostDramUe, reasons := 0
                            stamp := stamp } t
    let w := writeRecord fret [recordLen r] (putStream n { c with nextSeq := c.nextSeq + 1, started := true } t)
    keepAndDeliver n { rcd := r, slices := w.2, closedAt := s.time.cclk, failover := false, coder := none } w.1

/-- STATS_RECORD_CLOSE: the set's oldest interval (R271); that a die was offline is told even while the engine is stopped. -/
def onStatsClose (n : Nat) (ue : Option Nat) (s : State) : State :=
  match (statsAt s n).opened with
  | [] => s
  | o :: rest =>
    match derivedDue 1 o.ending s with
    | none => s
    | some t =>
      let stopped (o : StatsOpen) : StatsOpen := { o with acc := o.acc.map (fun e => (e.1, { statAcc0 with offline := e.2.offline })) }
      let u := putStats n { statsAt t n with opened := rest } t
      if redStream u tyStats n o.set.stream then
        closeDerived ue o.set.stream tyStats (stampOf o.start) o.ending.last (statBlocks u.red n (unlessFailed u o (stopped o))) u
      else u

def execStatsRecordClose (set : Nat) (ue : Option Nat) (s : State) : Host.Outcome State Fault Refusal :=
  .next (onStatsClose set ue s)

/-- RAINFLOW_RECORD_CLOSE (R275). -/
def onRainClose (n : Nat) (ue : Option Nat) (s : State) : State :=
  match (rainAt s n).opened with
  | [] => s
  | o :: rest =>
    match derivedDue (rainDelay s.live o.set) o.ending s with
    | none => s
    | some t =>
      let z := unlessFailed t (sealAll { rainAt t n with opened := rest } o) ({ rainAt t n with opened := rest }, { o with acc := [] })
      let u := putRain n z.1 t
      if redStream u tyRain n o.set.stream then
        closeDerived ue o.set.stream tyRain (stampOf o.start) o.ending.last (rainBlocks u.red n z.2) u
      else u

def execRainflowRecordClose (set : Nat) (ue : Option Nat) (s : State) : Host.Outcome State Fault Refusal :=
  .next (onRainClose set ue s)

/-- SPECTRUM_RECORD_CLOSE (R280). -/
def onSpecClose (n : Nat) (ue : Option Nat) (s : State) : State :=
  match (specAt s n).opened with
  | [] => s
  | o :: rest =>
    match derivedDue (specDelay s.live) o.ending s with
    | none => s
    | some t =>
      let u := putSpec n { specAt t n with opened := rest } t
      if redStream u tySpec n o.set.stream then
        let x := unlessFailed u o { o with segs := [], vals := [], lastK := none }
        { closeDerived ue o.set.stream tySpec (stampOf (specStart o)) o.ending.last (specBlocks u.red n u.fresh x) u with
          fresh := u.fresh + (specPieces o).length }
      else u

def execSpectrumRecordClose (set : Nat) (ue : Option Nat) (s : State) : Host.Outcome State Fault Refusal :=
  .next (onSpecClose set ue s)

/-! ### The self-test (R289) -/

/-- RED_SELFTEST: 10 ms from the next boundary; one handed while a test runs ends with it. -/
def execRedSelftest (h : CmdHdr) (s : State) : Host.Outcome State Fault Refusal :=
  .next (runCommand h 0x0604 (fun _ => none)
    (fun t =>
      let u := { t with red.testHdrs := t.red.testHdrs ++ [h] }
      if t.red.testEnd.isSome then u
      else
        let b := boundaryAfter 0 t / 2
        let v := { u with red.testEnd := some (b + 10000000) }
        if t.red.failed then v
        else { v with red.pauses := v.red.pauses ++ [{ start := b, stop := some (b + 10000000), era := eraNow t }] }) s)

/-- The running pause at a test's end `e`: open-ended after a failure, over once a test has passed. -/
def testedPause (pass : Bool) (e : Nat) (s : State) (p : RedPause) : RedPause :=
  if p.era = eraNow s ∧ (p.stop = none ∨ p.stop = some e) then { p with stop := if pass then some e else none } else p

/-- RED_SELFTEST_END: a failure raises the alarm and stops the engine until a test passes. -/
def onRedTest (pass : Bool) (s : State) : State :=
  match s.red.testEnd with
  | none => s
  | some e =>
    let t := toInstant (2 * e) s
    let u := { t with red.testEnd := none, red.testHdrs := [], red.failed := !pass, red.pauses := t.red.pauses.map (testedPause pass e t) }
    let v := if pass then endAlarm 0x0701 0 [] u else raiseAlarm 0x0701 0 [] u
    t.red.testHdrs.foldl (fun w h => finish h 0x0604 okReply w) v

def execRedSelftestEnd (pass : Bool) (s : State) : Host.Outcome State Fault Refusal := .next (onRedTest pass s)

/-! ### STATS_SET, RAINFLOW_SET, SPECTRAL_SET -/

/-- Another set, of any kind, names the stream (R268); kinds 0, 1, 2. -/
def streamTaken (c : Settings) (kind set stream : Nat) : Bool :=
  c.stats.any (fun e => decide (0 < e.2.interval) && decide (e.2.stream = stream) && !(decide (kind = 0) && decide (e.1 = set))) ||
    c.rain.any (fun e => decide (0 < e.2.interval) && decide (e.2.stream = stream) && !(decide (kind = 1) && decide (e.1 = set))) ||
    c.spec.any (fun e => decide (0 < e.2.a) && decide (e.2.stream = stream) && !(decide (kind = 2) && decide (e.1 = set)))

/-- BUSY where other sets hold too many units of a kind for all of a command's channels; it names the first that finds none (R38; that the
completion names a channel is a DESIGN CHOICE, log 99). -/
def unitsBusy (others bound : Nat) (codes : List Nat) : Option Reply :=
  if bound < others + codes.length then some (busy 2 (natAt codes (bound - others))) else none

def statsConfig (set interval stream : Nat) (es : List Chan) (c : Settings) : Settings :=
  { c with stats := tput statsSet0 c.stats set { interval := interval, stream := stream, entries := es } }

def statsCheck (set interval stream : Nat) (es : List Chan) (s : State) : Option Reply :=
  let c := s.cfg
  let others := sumOf (fun e => if e.1 = set then 0 else e.2.entries.length) c.stats
  let bad := (List.range es.length).filterMap (fun i =>
    match es[i]? with
    | some x => if chanOk x && decide (x.kind ≠ .gpio) then none else some (0x8000 + 2 * i, true)
    | none => none)
  checks [firstBad ([(28, decide (7 < set)),
      (29, decide (interval = 0) || decide (3600000000 < interval) || decide (1000 * interval % c.period ≠ 0)),
      (33, decide (127 < stream) || streamTaken c 0 set stream), (0x8000, decide (4096 < es.length))] ++ bad),
    unitsBusy others 4096 (es.map chanCode),
    admission (statsConfig set interval stream es c) s.streams s]

/-- STATS_SET: accepted at once; it governs from the boundary at which the set's next interval begins (R268, R327). -/
def onStatsSet (h : CmdHdr) (set interval stream : Nat) (es : List Chan) (s : State) : State :=
  runCommand h 0x0601 (statsCheck set interval stream es)
    (fun t => withGrants h 0x0601 (.statsSet h set interval stream es) (statsConfig set interval stream es t.cfg) t.streams
      (fun u => finish h 0x0601 okReply (accept (statsConfig set interval stream es) u)) t) s

def execStatsSet (h : CmdHdr) (set interval stream : Nat) (entries : List Chan) (s : State) : Host.Outcome State Fault Refusal :=
  .next (onStatsSet h set interval stream entries s)

def execStatsSetTwin (h : CmdHdr) (set : Nat) (s : State) : Host.Outcome State Fault Refusal :=
  .next (readCommand h 0x0681 (5 + 2 * (tget statsSet0 s.cfg.stats set).entries.length) (fun _ => firstBad [(28, decide (7 < set))])
    (fun t =>
      let c := tget statsSet0 t.cfg.stats set
      leBytes 4 c.interval ++ leBytes 1 c.stream ++ (c.entries.map (fun x => leBytes 2 (chanCode x))).flatten) s)

def rainConfig (set interval stream : Nat) (cs : List RainChanP) (c : Settings) : Settings :=
  { c with rain := tput rainSet0 c.rain set { interval := interval, stream := stream, chans := cs } }

/-- A channel's fields that break R272: its number, a channel held twice or by another set, its span, its gate, its mode. -/
def rainFault (set : Nat) (cs : List RainChanP) (c : Settings) (p : RainChanP) : Option Nat :=
  if !(chanOk p.chan && (decide (p.chan.kind = .dynamic) || decide (p.chan.kind = .scanned))) ||
      decide (1 < (cs.filter (fun q => decide (q.chan = p.chan))).length) ||
      c.rain.any (fun e => decide (e.1 ≠ set) && e.2.chans.any (fun q => decide (q.chan = p.chan))) then some 0
  else if p.hi ≤ p.lo ∨ (p.hi - p.lo) % 64 ≠ 0 then some 2
  else if p.gate < 1 ∨ 63 < p.gate then some 10
  else if 1 < p.mode then some 11
  else none

def rainCheck (set interval stream : Nat) (cs : List RainChanP) (s : State) : Option Reply :=
  let c := s.cfg
  let others := sumOf (fun e => if e.1 = set then 0 else e.2.chans.length) c.rain
  let bad := (List.range cs.length).filterMap (fun i => ((cs[i]?).bind (rainFault set cs c)).map (fun o => (0x8000 + 12 * i + o, true)))
  checks [firstBad ([(28, decide (7 < set)), (29, decide (interval < 1) || decide (86400 < interval)),
      (33, decide (127 < stream) || streamTaken c 1 set stream), (0x8000, decide (128 < cs.length))] ++ bad),
    unitsBusy others 128 (cs.map (fun p => chanCode p.chan)),
    admission (rainConfig set interval stream cs c) s.streams s]

def onRainSet (h : CmdHdr) (set interval stream : Nat) (cs : List RainChanP) (s : State) : State :=
  runCommand h 0x0602 (rainCheck set interval stream cs)
    (fun t => withGrants h 0x0602 (.rainflowSet h set interval stream cs) (rainConfig set interval stream cs t.cfg) t.streams
      (fun u => finish h 0x0602 okReply (accept (rainConfig set interval stream cs) u)) t) s

def execRainflowSet (h : CmdHdr) (set interval stream : Nat) (chans : List RainChanP) (s : State) : Host.Outcome State Fault Refusal :=
  .next (onRainSet h set interval stream chans s)

def execRainflowSetTwin (h : CmdHdr) (set : Nat) (s : State) : Host.Outcome State Fault Refusal :=
  .next (readCommand h 0x0682 (5 + 12 * (tget rainSet0 s.cfg.rain set).chans.length) (fun _ => firstBad [(28, decide (7 < set))])
    (fun t =>
      let c := tget rainSet0 t.cfg.rain set
      leBytes 4 c.interval ++ leBytes 1 c.stream ++ (c.chans.map (fun p =>
        leBytes 2 (chanCode p.chan) ++ leSigned 4 p.lo ++ leSigned 4 p.hi ++ leBytes 1 p.gate ++ leBytes 1 p.mode)).flatten) s)

def specNew (p : SpectralP) : SpecSet :=
  { log2n := p.log2n, window := p.window, overlap := p.overlap, a := p.a, stream := p.stream, chans := p.chans, pairs := p.pairs }
def specConfig (p : SpectralP) (c : Settings) : Settings := { c with spec := tput specSet0 c.spec p.set (specNew p) }

/-- A channel that R276 forbids: absent, named twice, in another set, or on a chain unlike the first's. -/
def specChanBad (p : SpectralP) (c : Settings) (n : Nat) : Bool :=
  let d := dynOf c n
  let e := dynOf c (natAt p.chans 0)
  decide (127 < n) || decide (1 < (p.chans.filter (· = n)).length) || c.spec.any (fun x => decide (x.1 ≠ p.set) && x.2.chans.contains n) ||
    decide ((chainOsr d, chainM d, chainR d) ≠ (chainOsr e, chainM e, chainR e)) || decide (delayTotal d ≠ delayTotal e)

def specCheck (p : SpectralP) (s : State) : Option Reply :=
  let c := s.cfg
  let chans := sumOf (fun e => if e.1 = p.set then 0 else e.2.chans.length) c.spec
  let pairs := sumOf (fun e => if e.1 = p.set then 0 else e.2.pairs.length) c.spec
  let badC := (List.range p.chans.length).filterMap (fun i =>
    if specChanBad p c (natAt p.chans i) then some (0x8000 + 2 * i, true) else none)
  let badP := (List.range p.pairs.length).filterMap (fun i =>
    match p.pairs[i]? with
    | some q => if p.chans.contains q.1 && p.chans.contains q.2 then none
        else some (0x8000 + 2 * p.chans.length + 4 * i + (if p.chans.contains q.1 then 2 else 0), true)
    | none => none)
  checks [firstBad ([(28, decide (7 < p.set)), (29, decide (p.log2n < 10) || decide (16 < p.log2n)), (30, decide (4 < p.window)),
      (31, decide (2 < p.overlap)), (32, decide (p.a < 1) || decide (65535 < p.a)), (34, decide (127 < p.stream) || streamTaken c 2 p.set p.stream),
      (35, decide (128 < p.chans.length)), (36, decide (512 < p.pairs.length))] ++ badC ++ badP),
    unitsBusy chans 128 (p.chans.map dynCode), unitsBusy pairs 512 (p.pairs.map (fun q => dynCode q.1)),
    admission (specConfig p c) s.streams s]

def onSpecSet (h : CmdHdr) (p : SpectralP) (s : State) : State :=
  runCommand h 0x0603 (specCheck p)
    (fun t => withGrants h 0x0603 (.spectralSet h p) (specConfig p t.cfg) t.streams
      (fun u => finish h 0x0603 okReply (accept (specConfig p) u)) t) s

def execSpectralSet (h : CmdHdr) (p : SpectralP) (s : State) : Host.Outcome State Fault Refusal := .next (onSpecSet h p s)

def execSpectralSetTwin (h : CmdHdr) (set : Nat) (s : State) : Host.Outcome State Fault Refusal :=
  .next (readCommand h 0x0683 (9 + 2 * (tget specSet0 s.cfg.spec set).chans.length + 4 * (tget specSet0 s.cfg.spec set).pairs.length)
    (fun _ => firstBad [(28, decide (7 < set))])
    (fun t =>
      let c := tget specSet0 t.cfg.spec set
      [c.log2n, c.window, c.overlap].map (BitVec.ofNat 8) ++ leBytes 2 c.a ++ leBytes 1 c.stream ++ leBytes 1 c.chans.length ++
        leBytes 2 c.pairs.length ++ (c.chans.map (fun n => leBytes 2 (dynCode n))).flatten ++
        (c.pairs.map (fun q => leBytes 2 (dynCode q.1) ++ leBytes 2 (dynCode q.2))).flatten) s)

end Sys2Proof.Machine
end

