-- ==== Sys2Proof/Machine/Delivery.lean ====
section
/-! DEFINITION. Streams and their delivery: SUBSCRIBE and its kin, replay, retrieval, ring hold, credit, and MEM_PARTITION (08,
R212 to R226; 11, R293, R294; 12, R324 to R332; 15, R399, R403). -/

namespace Sys2Proof.Machine

/-! ### Ring hold (R328) -/

/-- Hub `h` is present in the topology table. -/
def hubPresent (s : State) (h : Nat) : Bool := (tget topoEntry0 s.ring.topo h).present

/-- Hubs other than this one that hold a receive subscription for a stream (a free value, DESIGN CHOICE, log 22). -/
def holdersOf (s : State) (n : Nat) : List Nat :=
  (List.range 64).filter (fun h => decide (h ≠ s.live.ring.hubId) && Config.subscribed s.fresh h n)

/-- RING_HOLD_ENTER: every subscriber is absent; the ring delivery point goes back to the first record closed after the last
beacon of any of them. -/
def enterHold (n : Nat) (s : State) : State :=
  let c := streamAt s n
  let hs := holdersOf s n
  if c.isOpen && c.ring && !c.hold && !hs.isEmpty && hs.all (fun h => !hubPresent s h && !(tget topoEntry0 s.ring.topo h).left) then
    let heard := maxOf (fun h => (tget topoEntry0 s.ring.topo h).lastAt) hs
    let back := match c.stored.find? (fun x => decide (heard < x.closedAt)) with | none => c.ringPoint | some x => min c.ringPoint x.rcd.seq
    putStream n { c with hold := true, holders := hs, ringNext := back, ringPoint := back } s
  else s

/-- A held record, or a range in its place, goes to the RETRIEVAL class with HELD; the stream has caught up when none is left (R328). -/
def resendNext (n : Nat) (s : State) : State :=
  let c := passGoneRing (streamAt s n)
  match c.ringRanges, c.ringSafe with
  | l :: ls, _ => settleRing n (queueRetrieval 64 true (lostRecord n l s) (putStream n { c with ringRanges := ls } s))
  | [], l :: ls =>
    if l.firstSeq ≤ c.ringNext then settleRing n (queueRetrieval 64 true (lostRecord n l s) (putStream n { c with ringSafe := ls } s))
    else resendRecord c
  | [], [] => resendRecord c
where
  /-- The next record. -/
  resendRecord (c : StreamCtx) : State :=
    match storedFrom c c.ringNext with
    | [] => settleRing n (putStream n { c with hold := false, holders := [], ringNext := c.nextSeq } s)
    | x :: xs =>
      settleRing n (queueRetrieval 64 true (replayOf s x)
        (putStream n { c with ringNext := x.rcd.seq + 1, hold := !xs.isEmpty, holders := if xs.isEmpty then [] else c.holders } s))

/-- RING_HOLD_RESEND: a subscriber is back, or the ring itself; the next held record goes out in sequence, with HELD and REPLAYED, until the
stream has caught up (R328). -/
def onResend (n : Nat) (s : State) : State :=
  let c := streamAt s n
  if c.hold && (c.holders.isEmpty || c.holders.any (hubPresent s)) && decide (s.ring.state = .joined) then resendNext n s else s

def execRingHoldResend (stream : Nat) (s : State) : Host.Outcome State Fault Refusal := .next (onResend stream s)

/-! ### Credit and the RETRIEVAL class (R332) -/

/-- The RETRIEVAL reserve in bytes (R321, R322). -/
def retrievalReserve (s : State) : Nat := classReserve s 4

/-- Credit granted and not yet received back, over all sources. -/
def creditOut (s : State) : Nat := sumOf (·.2) s.ring.granted

/-- Grant a source credit, never above the reserve in total; while no pair is ACTIVE it waits for one (R332, R419). -/
def grantCredit (hub bytes : Nat) (s : State) : State :=
  let n := min bytes (retrievalReserve s - creditOut s)
  if n = 0 ∨ s.ring.state ≠ .joined then s
  else if !pairActive s then { s with ring.creditDue := tmod 0 s.ring.creditDue hub (· + bytes) }
  else sendControl 24 (some hub) (.credit (.grant s.live.ring.hubId n)) { s with ring.granted := tmod 0 s.ring.granted hub (· + n) }

/-- A grant to a source that has none: how much the destination gives is its own choice, but not nothing while it has some to give
(DESIGN CHOICE, log 22). -/
def firstGrant (hub : Nat) (s : State) : State :=
  let left := retrievalReserve s - creditOut s
  if tget 0 s.ring.granted hub = 0 ∧ 0 < left then useFree (grantCredit hub (1 + freshNat s % left) s) else s

/-- A credit of this hub is spent; its 100 ms start again. -/
def spendCredit (hub bytes : Nat) (s : State) : State :=
  let k := tget (0, 0) s.ring.credit hub
  let left := k.1 - bytes
  { s with ring.credit := tput (0, 0) s.ring.credit hub (if left = 0 then (0, 0) else (left, s.time.cclk)) }

/-- Destinations whose credit a record for `dst` spends: the hub itself, or for all hubs each that has granted credit (DEDUCED, log 22). -/
def spends (s : State) (dst : Nat) : List Nat := if dst < 64 then [dst] else s.ring.creditors

/-- Their credit covers `bytes`: every one of them does, and there is one. -/
def covered (s : State) (dst bytes : Nat) : Bool :=
  !(spends s dst).isEmpty && (spends s dst).all (fun h => decide (bytes ≤ (tget (0, 0) s.ring.credit h).1))

/-- Take the first element that meets a condition out of a list. -/
def takeFirst {α : Type} (p : α → Bool) : List α → Option (α × List α)
  | [] => none
  | x :: xs => if p x then some (x, xs) else (takeFirst p xs).map (fun e => (e.1, x :: e.2))

/-- RETRIEVAL_RECORD_TX: the first queued record whose credit covers it goes out (R332). -/
def onRetrievalTx (s : State) : State :=
  if s.ring.state = .joined then
    match takeFirst (fun q : Nat × Bool × Record => covered s q.1 (wireBytes (recordLen q.2.2))) s.ring.retrieval with
    | none => s
    | some (q, rest) =>
      let w := wireBytes (recordLen q.2.2)
      sendRecord 4 (if q.1 < 64 then some q.1 else none) q.2.1 0 q.2.2
        ((spends s q.1).foldl (fun t h => spendCredit h w t) { s with ring.retrieval := rest })
  else s

def execRetrievalRecordTx (s : State) : Host.Outcome State Fault Refusal := .next (onRetrievalTx s)

/-- CREDIT_RX: credit from a destination, or unused credit come back from a source, to which the destination grants again (R332). -/
def onCredit (m : CreditMsg) (s : State) : State :=
  match m with
  | .grant hub bytes =>
    { s with ring.credit := tput (0, 0) s.ring.credit hub ((tget (0, 0) s.ring.credit hub).1 + bytes, s.time.cclk)
             ring.creditors := if s.ring.creditors.contains hub then s.ring.creditors else s.ring.creditors ++ [hub] }
  | .giveBack hub bytes => firstGrant hub { s with ring.granted := tmod 0 s.ring.granted hub (fun n => n - bytes) }

def execCreditRx (msg : CreditMsg) (s : State) : Host.Outcome State Fault Refusal := .next (onCredit msg s)

/-- Credit that waited for an ACTIVE pair is granted. -/
def payCredit (s : State) : State :=
  s.ring.creditDue.foldl (fun t e => grantCredit e.1 e.2 t) { s with ring.creditDue := [] }

/-- CREDIT_RETURN_TIMEOUT: credit unused for 100 ms goes back, by a pair that is ACTIVE (R332, R419). -/
def onCreditReturn (hub : Nat) (s : State) : State :=
  let k := tget (0, 0) s.ring.credit hub
  if k.1 = 0 ∨ pairActive s = false then s
  else
    let t := toCclk (k.2 + 40000000) s
    sendControl 24 (some hub) (.credit (.giveBack t.live.ring.hubId k.1)) { t with ring.credit := tput (0, 0) t.ring.credit hub (0, 0) }

def execCreditReturnTimeout (hub : Nat) (s : State) : Host.Outcome State Fault Refusal := .next (onCreditReturn hub s)

/-! ### Records of other hubs (R326, R332) -/

/-- Write a remote record, and grant its source the credit again where it came against credit. -/
def writeRemote (hub ring : Nat) (bytes : List Byte) (retrieval : Bool) (s : State) : State :=
  let t := ringWrite ring bytes.length (.record bytes) s
  if retrieval then grantCredit hub (wireBytes bytes.length) t else t

/-- The host ring of a remote record: for a retrieval the one its RETRIEVE named, else the subscription's. -/
def remoteRing (s : State) (hub stream : Nat) (retrieval : Bool) : Option Nat :=
  let named (l : List (Nat × Nat × Nat)) : Option Nat := (l.find? (fun e => decide (e.1 = hub) && decide (e.2.1 = stream))).map (·.2.2)
  if retrieval then (match named s.ring.retrieveTo with | some r => some r | none => named s.ring.recv) else named s.ring.recv

/-- A whole record reaches its subscription: written whole; at a full ring a streamed record is discarded and counted, one of the RETRIEVAL
class waits and withholds its credit (R326, R332, R373). -/
def takeRemote (hub stream : Nat) (bytes : List Byte) (retrieval : Bool) (s : State) : State :=
  let w := wireBytes bytes.length
  let s1 := if retrieval then { s with ring.granted := tmod 0 s.ring.granted hub (fun n => n - w) } else s
  match remoteRing s hub stream retrieval with
  | none => if retrieval then grantCredit hub w s1 else s1
  | some r =>
    if ringTakes s1 r bytes.length && !(retrieval && s1.ring.parked.any (fun e => decide (e.2.1 = r))) then writeRemote hub r bytes retrieval s1
    else if retrieval then { s1 with ring.parked := s1.ring.parked ++ [(hub, r, bytes)] }
    else putRing r { ringAt s1 r with loss := satAdd 65535 (ringAt s1 r).loss 1 } s1

/-- JORVA_RECORD_RX: a record that reassembly has made whole is taken (R319, R326); one that it has not made never comes. -/
def onRemoteRecord (hub stream : Nat) (bytes : List Byte) (retrieval : Bool) (s : State) : State :=
  match takeFirst (fun e => decide (e = (hub, stream, bytes, retrieval))) s.ring.arrived with
  | none => s
  | some (_, rest) => takeRemote hub stream bytes retrieval { s with ring.arrived := rest }

def execJorvaRecordRx (hub stream : Nat) (record : List Byte) (retrieval : Bool) (s : State) : Host.Outcome State Fault Refusal :=
  .next (onRemoteRecord hub stream record retrieval s)

/-- A ring has room again: parked records go in, in order. -/
def unpark (r : Nat) (s : State) : State :=
  s.ring.parked.foldl (fun t e =>
    if e.2.1 = r ∧ ringTakes t r e.2.2.length = true ∧ t.ring.parked.find? (fun q => decide (q.2.1 = r)) = some e then
      writeRemote e.1 r e.2.2 true { t with ring.parked := match takeFirst (fun q => decide (q = e)) t.ring.parked with
                                                           | none => t.ring.parked
                                                           | some q => q.2 }
    else t) s

/-! ### SUBSCRIBE and UNSUBSCRIBE (R212, R213, R219, R324, R399, R439) -/

/-- Stream types in the order of R324. -/
def streamTypes : List Nat := [tySample, tyScan, tyPolled, tyStats, tyRain, tySpec, tyCapHeader]

/-- The context a subscription opens (R219). -/
def newStream (p : SubscribeP) : StreamCtx :=
  { streamCtx0 with
    isOpen := true, type := natAt streamTypes p.type, events := decide (p.events = 1), right := decide (p.align = 1), level := p.level
    hostRing := if p.hostRing = 0xFF then none else some p.hostRing, ring := decide (p.ring = 1), select := p.select
    coder := clearedCoder p.level }

/-- The settings of two subscriptions are the same. -/
def sameSub (a b : StreamCtx) : Bool :=
  decide (a.type = b.type) && decide (a.events = b.events) && decide (a.right = b.right) && decide (a.level = b.level) &&
    decide (a.hostRing = b.hostRing) && decide (a.ring = b.ring) && decide (a.select = b.select)

/-- Channels of one SAMPLE stream share their chain and notch (R213). -/
def mixedChains (c : Settings) (sel : List Nat) : Bool :=
  let key (n : Nat) : Nat × Nat × Nat × Nat × Nat :=
    let d := dynOf c n
    (chainOsr d, chainM d, chainR d, d.notch, if d.notch = 0 then 0 else d.width)
  match sel with
  | [] => false
  | n :: ns => ns.any (fun m => decide (key m ≠ key n))

/-- The largest record of a stream in bytes (R373). -/
def largestRecord (c : Settings) (n : Nat) (x : StreamCtx) : Nat :=
  let whole := lenOf ((worstBlocks c n x).map (·.1))
  if x.type = tyCapHeader then max whole (fretBytes c (unitOf c (natAt x.select 0)).select) else whole

/-- The ring is a configured RECORD ring of this hub. -/
def recordRing (s : State) (r : Nat) : Bool := (ringAt s r).configured && decide ((ringAt s r).type = rtRecord)

/-- A channel of the selection is in another stream of the type (R212, R439). -/
def chanInUse (p : SubscribeP) (x : StreamCtx) (s : State) : Option Nat :=
  if tyPolled < x.type then none
  else p.select.find? (fun n => s.streams.any (fun e => e.2.isOpen && decide (e.1 ≠ p.stream) && decide (e.2.type = x.type) && e.2.select.contains n))

/-- CHAN code of a number in a stream's selection. -/
def selCode (type n : Nat) : Nat :=
  chanCode ⟨if type = tySample then .dynamic else if type = tyScan then .scanned else .polled, n⟩

/-- The selection names what exists (R37). -/
def selectBad (type : Nat) (sel : List Nat) : Bool :=
  if type = tySample then sel.any (fun n => decide (127 < n))
  else if type = tyScan then sel.any (fun n => decide (255 < n))
  else if type = tyPolled then sel.any (fun n => decide (2047 < n))
  else decide (sel.length ≠ 1) || decide (7 < natAt sel 0)

def subscribeBad (p : SubscribeP) (s : State) : Option Reply :=
  let x := newStream p
  firstBad [(28, decide (127 < p.stream)), (29, decide (6 < p.type)), (30, decide (1 < p.events)), (31, decide (1 < p.align)),
    (32, decide (4 < p.level) || (decide (p.type = 6) && decide (0 < p.level))),
    (33, (decide (p.hostRing = 0xFF) && decide (p.ring = 0)) || (decide (p.hostRing ≠ 0xFF) && (!recordRing s p.hostRing ||
      decide (ringSize (ringAt s p.hostRing) < 2 * largestRecord s.cfg p.stream x)))),
    (34, decide (1 < p.ring)), (0x8000, selectBad x.type p.select), (0x8000, decide (x.type = tySample) && mixedChains s.cfg p.select)]

/-- SUBSCRIBE checks. -/
def subscribeCheck (p : SubscribeP) (s : State) : Option Reply :=
  let x := newStream p
  let old := streamAt s p.stream
  checks [subscribeBad p s,
    (if old.isOpen then (if sameSub old x then none else some (busy 8 p.stream))
     else checks [(chanInUse p x s).map (fun n => busy 2 (selCode x.type n)), admission s.cfg (tput streamCtx0 s.streams p.stream x) s])]

/-- SUBSCRIBE: the stream opens at the next boundary, once its grant is held (R219, R327, R399). -/
def onSubscribe (h : CmdHdr) (p : SubscribeP) (s : State) : State :=
  runCommand h 0x0401 (subscribeCheck p)
    (fun t =>
      if (streamAt t p.stream).isOpen then finish h 0x0401 okReply t
      else
        let x := newStream p
        withGrants h 0x0401 (.subscribe h p) t.cfg (tput streamCtx0 t.streams p.stream x)
          (fun u => finishAtBoundary h 0x0401 (putStream p.stream x u)) t) s

def execSubscribe (h : CmdHdr) (p : SubscribeP) (s : State) : Host.Outcome State Fault Refusal := .next (onSubscribe h p s)

/-- A selection as the data buffer lays it out (R397, R439). -/
def selectBytes (type : Nat) (sel : List Nat) : List Byte :=
  if type = tySample then leBytes 16 (maskOf sel) else if type = tyScan then leBytes 32 (maskOf sel)
  else if type = tyPolled then leBytes 256 (maskOf sel) else leBytes 1 (natAt sel 0)

def execSubscribeTwin (h : CmdHdr) (stream : Nat) (s : State) : Host.Outcome State Fault Refusal :=
  .next (readCommand h 0x0481 (6 + (selectBytes (streamAt s stream).type (streamAt s stream).select).length)
    (fun t => orElseReply (firstBad [(28, decide (127 < stream))]) (if (streamAt t stream).isOpen then none else some notFound))
    (fun t =>
      let c := streamAt t stream
      leBytes 1 (streamTypes.findIdx (· = c.type)) ++ leBytes 1 (b2n c.events) ++ leBytes 1 (b2n c.right) ++ leBytes 1 c.level ++
        leBytes 1 (c.hostRing.getD 0xFF) ++ leBytes 1 (b2n c.ring) ++ selectBytes c.type c.select) s)

/-- UNSUBSCRIBE: the instance ends at the next boundary (R219, R399). -/
def execUnsubscribe (h : CmdHdr) (stream : Nat) (s : State) : Host.Outcome State Fault Refusal :=
  .next (runCommand h 0x0402 (fun _ => firstBad [(28, decide (127 < stream))])
    (fun t =>
      if (streamAt t stream).isOpen then finishAtBoundary h 0x0402 { t with fret.closeStreams := t.fret.closeStreams ++ [stream] }
      else finish h 0x0402 okReply t) s)

/-- Streams unsubscribed since the last boundary end, and their grants return (R219, R327). -/
def unsubscribeBoundary (s : State) : State :=
  if s.fret.closeStreams.isEmpty then s
  else
    let ends (n : Nat) : Bool := s.fret.closeStreams.contains n
    let cut (b : FretBuf) : FretBuf :=
      { b with opened := b.opened.filter (fun n => !ends n), events := b.events.filter (fun e => !ends e.1) }
    let t := { s with streams := s.fret.closeStreams.foldl tdrop s.streams
                      pairs.staging := s.pairs.staging.filter (fun e => !ends e.1)
                      pairs.waitingEvents := s.pairs.waitingEvents.filter (fun e => !ends e.1)
                      trig.units := s.trig.units.map (fun e => (e.1, { e.2 with
                        capos := e.2.capos.map (fun k => if k.stream.any ends then { k with stream := none } else k) }))
                      fret.closeStreams := []
                      fret.early := s.fret.early.filter (fun e => !ends e.1)
                      fret.closing := s.fret.closing.map cut
                      fret.gather := s.fret.gather.map cut }
    returnGrants t.cfg t.streams t

/-! ### RECV_SUBSCRIBE (R326) -/

def recvCheck (srcHub stream hostRing action : Nat) (s : State) : Option Reply :=
  firstBad [(28, decide (63 < srcHub)), (29, decide (127 < stream)), (30, decide (action = 0) && !recordRing s hostRing), (31, decide (1 < action))]

/-- RECV_SUBSCRIBE: a receive subscription is added, or moved to another ring, or removed; the source gets a first credit. -/
def execRecvSubscribe (h : CmdHdr) (srcHub stream hostRing action : Nat) (s : State) : Host.Outcome State Fault Refusal :=
  .next (runCommand h 0x0403 (recvCheck srcHub stream hostRing action)
    (fun t =>
      let others := t.ring.recv.filter (fun e => !(decide (e.1 = srcHub) && decide (e.2.1 = stream)))
      finish h 0x0403 okReply
        (if action = 0 then firstGrant srcHub { t with ring.recv := others ++ [(srcHub, stream, hostRing)] }
         else { t with ring.recv := others })) s)

/-! ### RETRIEVE and STREAM_STATE_READ (R286, R403) -/

/-- The first stored record with a 32-bit number, and all after it. -/
def heldFrom (c : StreamCtx) (seq : Nat) : List Stored := c.stored.dropWhile (fun x => decide (x.rcd.seq % 4294967296 ≠ seq))

/-- NOT_FOUND with the oldest number held, free where none is (R394, DESIGN CHOICE, log 2). -/
def retrieveNone (c : StreamCtx) (s : State) : Reply :=
  { notFound with result := leBytes 4 0 ++ leBytes 4 (match c.stored with | [] => Config.noneHeld s.time.cclk | x :: _ => x.rcd.seq) }

def retrieveCheck (p : RetrieveP) (gateway : Bool) (s : State) : Option Reply :=
  let c := streamAt s p.stream
  checks [firstBad [(28, decide (127 < p.stream)), (29, decide (1 < p.dest)), (30, decide (p.dest = 1) && !gateway && !recordRing s p.hostRing)],
    (if c.isOpen && !(heldFrom c p.firstSeq).isEmpty then none else some (retrieveNone c s))]

/-- What a retrieval delivers from a number on, each with the number to resume at: the stored records in order, and LOST_RANGE
records of frets that never closed in the places where they stand (R403, R468). -/
def retrievedWith (bad : List Nat) (c : StreamCtx) (seq : Nat) (s : State) : List (Record × Nat) :=
  let held := heldFrom c seq
  let at_ (n : Nat) : List (Record × Nat) := (c.notices.filter (fun x => decide (x.rcd.seq = n))).map (fun x => (x.rcd, n))
  let read (x : Stored) : Record :=
    if bad.contains x.rcd.seq then lostRecord x.rcd.stream (runRange x.rcd x.rcd 1 lostDramUe) s else replayOf s x
  (held.map (fun x => at_ x.rcd.seq ++ [(read x, x.rcd.seq + 1)])).flatten ++ at_ c.nextSeq

/-- The same where its reads meet no new error. -/
def retrieved (c : StreamCtx) (seq : Nat) (s : State) : List (Record × Nat) := retrievedWith [] c seq s

/-- The records that fit whole, one after another, in `room` bytes. -/
def fitting : Nat → List (Record × Nat) → List (Record × Nat)
  | _, [] => []
  | room, r :: rs => if recordLen r.1 ≤ room then r :: fitting (room - recordLen r.1) rs else []

/-- RESULT: records delivered, and the next number. -/
def retrieveResult (p : RetrieveP) (rs : List (Record × Nat)) : List Byte :=
  leBytes 4 rs.length ++ leBytes 4 (((rs.getLast?).map (·.2)).getD p.firstSeq % 4294967296)

/-- The errors that the reads of some records meet: the state, and the numbers of those that cannot be read (R306, R309). -/
def readAll (req : Nat) (xs : List Stored) (found : List ReadError) (s : State) : State × List Nat :=
  match found with
  | [] => (s, [])
  | es => (xs.zip (List.range xs.length)).foldl (fun acc e =>
      let r := readErrors req e.1 (es.filter (fun f => decide (f.rcd = e.2))) acc.1
      (r.1, if r.2 then acc.2 ++ [e.1.rcd.seq] else acc.2)) (s, [])

/-- What a RETRIEVE reads. -/
def retrieveReads (p : RetrieveP) (s : State) : List Stored := (heldFrom (streamAt s p.stream) p.firstSeq).take p.count

/-- RETRIEVE, its records read: into the data buffer, a local ring, or for another hub's host the RETRIEVAL class (R332, R403). -/
def retrieveNow (h : CmdHdr) (p : RetrieveP) (s0 : State) : State :=
  let e := readAll 3 (retrieveReads p s0) p.found s0
  let s := e.1
  let rs := (retrievedWith e.2 (streamAt s p.stream) p.firstSeq s).take p.count
  if p.dest = 0 then
    let fit := fitting h.dataLen rs
    finish h 0x0404 { status := 0, result := retrieveResult p fit, data := (fit.map (fun r => recordBytes r.1)).flatten } s
  else
    match h.gateway with
    | some g => finish h 0x0404 (okResult (retrieveResult p rs)) (rs.foldl (fun t r => queueRetrieval g false r.1 t) s)
    | none =>
      let fit := fitting (if (ringAt s p.hostRing).active then ringFree (ringAt s p.hostRing) else 0) rs
      finish h 0x0404 (okResult (retrieveResult p fit))
        (fit.foldl (fun t r => ringWrite p.hostRing (recordLen r.1) (.record (recordBytes r.1)) t) s)

/-- The reads of a RETRIEVE can be made now: the share covers them, and no higher requester or pause takes it (R300, R305). -/
def canRetrieve (p : RetrieveP) (s : State) : Bool :=
  s.hist.retrieving.isEmpty && !replayReady s && !captureReady s && decide (s.dram.pauseEnd ≤ s.time.cclk) &&
    decide (sumOf sliceBytes (retrieveReads p s) ≤ readShare s)

/-- RETRIEVE: at once, or from what the higher requesters leave of this fret and the next ones (R300). -/
def doRetrieve (h : CmdHdr) (p : RetrieveP) (s : State) : State :=
  let need := sumOf sliceBytes (retrieveReads p s)
  if canRetrieve p s then retrieveNow h p { s with hist.fretRead := s.hist.fretRead + need }
  else { s with hist.retrieving := s.hist.retrieving ++ [{ hdr := h, p := p, need := need }] }

def execRetrieve (h : CmdHdr) (p : RetrieveP) (s : State) : Host.Outcome State Fault Refusal :=
  .next (runCommand h 0x0404 (retrieveCheck p h.gateway.isSome) (doRetrieve h p) s)

/-- RETRIEVEs read what is left of a fret's share, in order; one whose first number has been overwritten meanwhile is NOT_FOUND. -/
def serveRetrievals (s : State) : State :=
  s.hist.retrieving.foldl (fun t j =>
    if t.hist.retrieving.head? ≠ some j then t
    else if j.need ≤ readShare t then
      let u := { t with hist.fretRead := t.hist.fretRead + j.need, hist.retrieving := t.hist.retrieving.drop 1 }
      match retrieveCheck j.p j.hdr.gateway.isSome u with
      | some r => finish j.hdr 0x0404 r u
      | none => retrieveNow j.hdr j.p u
    else { t with hist.fretRead := t.hist.fretRead + readShare t
                  hist.retrieving := { j with need := j.need - readShare t } :: t.hist.retrieving.drop 1 }) s

/-- A fret ends: what is left of its share goes to the RETRIEVEs, and none of it carries over (R300). -/
def endShare (s : State) : State :=
  let t := serveRetrievals s
  { t with hist.fretRead := 0, hist.fretWritten := 0 }

/-- STREAM_STATE_READ checks: the record is held with a coder state, which can be read (R286, R287). -/
def stateCheck (stream seq : Nat) (s : State) : Option Reply :=
  orElseReply (firstBad [(28, decide (127 < stream))])
    (match heldFrom (streamAt s stream) seq with
     | [] => some notFound
     | x :: _ =>
       if x.coder.isNone then some notFound
       else if storedBad s x then
         some { status := stDramUe, data := []
                result := leBytes 8 ((s.dram.poisoned.find? (fun a => x.slices.any (fun l => decide (a / 16384 = l.addr / 16384)))).getD 0) }
       else none)

def execStreamStateRead (h : CmdHdr) (stream seq : Nat) (s : State) : Host.Outcome State Fault Refusal :=
  .next (readCommand h 0x0405 32 (stateCheck stream seq)
    (fun t => match heldFrom (streamAt t stream) seq with
      | [] => []
      | x :: _ => coderBytes (x.coder.getD coder0)) s)

/-! ### MEM_PARTITION (R293, R294) -/

/-- H in steps of 5 %, C in percent (R390). -/
def memConfig (hist capo : Nat) (c : Settings) : Settings := { c with mem := { h := hist - 10, c := capo } }

/-- A stream with undelivered records. -/
def undelivered (s : State) : Bool :=
  s.streams.any (fun e => e.2.isOpen && ((e.2.hostRing.isSome && (decide (e.2.point < e.2.nextSeq) || !e.2.ranges.isEmpty)) ||
    (e.2.ring && decide (e.2.ringPoint < e.2.nextSeq))))

def memCheck (hist capo : Nat) (s : State) : Option Reply :=
  let new := memConfig hist capo s.cfg
  checks [firstBad [(28, decide (hist < 10) || decide (18 < hist) || decide (accumBytes new s < 67108864)),
      (29, decide (25 < capo) || decide (capoPool new s < 1048576 * sumOf (fun u => (unitOf s.cfg u).quota) (List.range 8)))],
    (if s.fret.acquiring then some (refusedState 1 0) else none),
    (match s.trig.units.find? (fun e => !e.2.capos.isEmpty) with | some e => some (refusedState 6 e.1) | none => none),
    (if undelivered s then some (refusedState 0 0) else none), overBudgetBy 6 1024 (accumNeed new) (accumBytes new s)]

/-- The whole history is discarded (R294). -/
def discardHistory (s : State) : State :=
  { s with hist := { s.hist with pages := [], nextFrame := 0, blocks := [], freed := [], sincePage := s.hist.nextPage, since := s.fret.idx + 1
                                 readSoFar := [] }
           streams := s.streams.map (fun e => (e.1, { e.2 with stored := [], notices := [], gone := [] })) }

/-- MEM_PARTITION: the history goes at once, the partitions hold from the next boundary (R23, R294). -/
def execMemPartition (h : CmdHdr) (hist capo : Nat) (s : State) : Host.Outcome State Fault Refusal :=
  .next (runCommand h 0x0701 (memCheck hist capo)
    (fun t => finishAtBoundary h 0x0701 (discardHistory (accept (memConfig hist capo) t))) s)

def execMemPartitionTwin (h : CmdHdr) (s : State) : Host.Outcome State Fault Refusal :=
  .next (readCommand h 0x0781 2 (fun _ => none) (fun t => leBytes 1 (t.cfg.mem.h + 10) ++ leBytes 1 t.cfg.mem.c) s)

end Sys2Proof.Machine
end

