-- ==== Sys2Proof/Machine/PtpTime.lean ====
section
/-! DEFINITION. The IEEE 1588 engine, the servo and the time commands (02, R42 to R70). -/

namespace Sys2Proof.Machine

/-! ### Helpers -/

/-- SLIP unit intervals of a ring lane in 2^-4 ns, to the nearest: the line runs at 25.78125 or 10.3125 GBd (R345). -/
def slip16 (rate10G : Bool) (slip : Nat) : Int := roundDiv (512 * slip) (if rate10G then 330 else 825)

/-- The mode of a port that its fixed latencies go by: 2 at 10G, 1 more with RS-FEC at 25G (R58, R311). -/
def phyMode (s : State) (p : Port) : Nat :=
  if s.live.ring.rate10G then 2 else b2n (match p with | .a => s.live.ring.fecA | .b => s.live.ring.fecB)

/-- What every ingress stamp of a port is lessened by: the fixed receive latency of its mode (R58) and SLIP unit intervals, to the
nearest 2^-4 ns (R349); a slip lengthens the latency (DEDUCED, log 79). -/
def rxDelay16 (s : State) (p : Port) : Int :=
  Config.phyRx (phyMode s p) + slip16 s.live.ring.rate10G (tget lane0 s.lanes (match p with | .a => 4 | .b => 5)).slip

/-- What every egress stamp of a port is later by: the fixed transmit latency of its mode (R58). -/
def txDelay16 (s : State) (p : Port) : Int := Config.phyTx (phyMode s p)

/-- Now, in 2^-4 ns. -/
def now16 (s : State) : Int := 8 * (s.time.half : Int)

/-- An interval of 2^log seconds in CCLK (R57). -/
def logCclk (log : Int) : Nat := if 0 ≤ log then 400000000 * 2 ^ log.toNat else 400000000 / 2 ^ (-log).toNat

/-- The engine's record of a port. -/
def ptpPort (s : State) (p : Port) : PtpPort := match p with | .a => s.ptp.portA | .b => s.ptp.portB

/-- Change the engine's record of a port. -/
def setPtpPort (p : Port) (f : PtpPort → PtpPort) (s : State) : State :=
  match p with
  | .a => { s with ptp.portA := f s.ptp.portA }
  | .b => { s with ptp.portB := f s.ptp.portB }

/-- Asymmetry of a port (R65). -/
def asymOf (s : State) (p : Port) : Int := match p with | .a => s.time.asymA | .b => s.time.asymB

/-- Code of a port: 0 A, 1 B. -/
def portNo (p : Port) : Nat := match p with | .a => 0 | .b => 1

/-- The peer delay of a port: the mean of the last 16 results (R57). -/
def peerDelay (q : PtpPort) : Int :=
  if q.delays.isEmpty then 0 else roundDiv (q.delays.foldl (· + ·) 0) q.delays.length

/-- The port with fewer hops to the time master, port A on a tie (R61). -/
def preferredPort (s : State) : Port :=
  match s.ring.topo.find? (fun e => e.2.present && e.2.master) with
  | none => .a
  | some e => if e.2.hopsB < e.2.hopsA then .b else .a

/-- The port Sync is followed on. -/
def followedPort (s : State) : Port := if s.time.portB then .b else .a

/-- LOCKED changes: source 128; HOLDOVER clears as LOCKED sets (R68, R70, R383). -/
def setLocked (b : Bool) (s : State) : State :=
  if s.time.locked = b then s
  else setSource 128 { s with time.locked := b, time.holdover := s.time.holdover && !b }

/-- The followed port changes (R61). -/
def changePort (p : Port) (s : State) : State :=
  if followedPort s = p then s
  else event 0x0103 (portNo p) []
    { s with time.portB := decide (p = .b), ptp.portChanges := s.ptp.portChanges + 1 }

/-- A PTP message outside R57 is counted and ignored. -/
def ptpDiscard (s : State) : State := { s with ptp.discards := s.ptp.discards + 1 }

/-- The hub's identity as a PTP clock (R57). -/
def ownClock : Nat := Config.eui % 2 ^ 64

/-- ROLE_CHANGE of the master role (R408). -/
def masterEvent (holder : Nat) (s : State) : State :=
  event 0x0503 2 ([BitVec.ofNat 8 holder, 0, 0, 0] ++ leBytes 4 0) s

/-- The hub takes the master role (R62, R68). R68 does not say what LOCKED of a slave does as it becomes the master: it clears here, with
its event source, and the eighth Sync sent sets it (DESIGN CHOICE, log 80). -/
def becomeMaster (s : State) : State :=
  if s.time.master || s.safety.safe then s
  else masterEvent s.live.ring.hubId
    (setLocked false { s with time.master := true, time.masterId := ownClock, time.offset16 := 0, ptp.sentSyncs := 0, ptp.goodSyncs := 0 })

/-- The hub loses the master role and sends no more Sync or Announce (R62); LOCKED clears (R68). -/
def loseMaster (s : State) : State :=
  if s.time.master then setLocked false { s with time.master := false, time.masterId := 0, ptp.sentSyncs := 0, ptp.goodSyncs := 0 } else s

/-! ### The best master (R62) -/

/-- A data set in the order the algorithm compares: smaller is better. -/
def betterSet (a b : Nat × Nat × Nat × Nat) : Bool :=
  decide (a.1 < b.1 ∨ (a.1 = b.1 ∧ (a.2.1 < b.2.1 ∨ (a.2.1 = b.2.1 ∧ (a.2.2.1 < b.2.2.1 ∨ (a.2.2.1 = b.2.2.1 ∧ a.2.2.2 < b.2.2.2))))))

/-- This hub's data set, and that of an Announce. -/
def ownSet (s : State) : Nat × Nat × Nat × Nat := (s.ptp.set.priority1, Config.clockQuality, s.ptp.set.priority2, ownClock)
def announceSet (a : PtpAnnounce) : Nat × Nat × Nat × Nat := (a.priority1, a.clockQuality, a.priority2, a.master)

/-- Masters heard within three Announce intervals (R57). -/
def heardNow (s : State) : List (PtpAnnounce × Nat) :=
  s.ptp.heard.filter (fun e => decide (s.time.cclk < e.2 + 3 * logCclk s.ptp.set.logAnnounce))

/-- No master heard is better than this hub. -/
def ownBest (s : State) : Bool := (heardNow s).all (fun e => betterSet (ownSet s) (announceSet e.1))

/-- Act on the best master: take the role, or give it up (R62). -/
def decideMaster (s : State) : State := if ownBest s then becomeMaster s else loseMaster s

/-! ### The servo (R56, R68) -/

/-- TRACE entry of a Sync used (R379, SERVO). -/
def traceServo (p : Port) (offset delay : Int) (inc action seq : Nat) (s : State) : State :=
  traceEntry 0x1001 (portNo p) (leSigned 4 offset ++ leSigned 4 delay ++ leBytes 6 inc ++ [BitVec.ofNat 8 action, 0] ++
    leBytes 2 seq ++ leBytes 2 0) s

/-- Write an increment, to take effect at the next boundary (R47), and keep it for the mean of R69. -/
def writeInc (inc : Nat) (s : State) : State :=
  { s with time.incNext := some inc
           ptp.incHist := (inc, s.time.cclk) :: s.ptp.incHist.filter (fun e => decide (s.time.cclk < e.2 + 25600000000)) }

/-- 2 ppm of the nominal increment (R56). -/
def steerMost : Nat := 17592186

/-- The steering of an offset, in LSB of the increment: against the offset, at most 2 ppm, and enough to remove 1 us in 0.5 s in
proportion (R56). How much between these two the servo takes is a free value (DESIGN CHOICE, logs 2 and 81). -/
def steering (offset : Int) (free : Nat) : Int :=
  let least := ceilDiv (offset.natAbs * steerMost) 16000
  let m : Int := (least + free % (steerMost - least + 1) : Nat)
  if offset = 0 then 0 else if 0 < offset then -m else m

/-- Steer up to 1 us; step beyond (R56). The frequency estimate is the servo's own: a free value within what the DCO takes (DESIGN CHOICE,
logs 2 and 81). An offset beyond the 32 bits of TIME_OFFSET and TIME_STEP is held and stepped whole, and the registers show its low 32
bits (DESIGN CHOICE, log 82). -/
def servo (p : Port) (offset delay : Int) (seq : Nat) (s : State) : State :=
  if offset.natAbs ≤ 16000 then
    let t := useFree s
    let estimate := 8795213412906 + freshNat s % (8796972631510 - 8795213412906 + 1)
    let inc := ((estimate : Int) + steering offset (freshNat t)).toNat
    traceServo p offset delay inc 0 seq (writeInc inc { useFree t with ptp.estimate := estimate })
  else traceServo p offset delay 0 1 seq { s with time.step := roundDiv (-offset) 40 }

/-- LOCKED by the offsets of Syncs (R68). -/
def lockByOffset (offset : Int) (s : State) : State :=
  let good := if offset.natAbs ≤ 320 then s.ptp.goodSyncs + 1 else 0
  let t := { s with ptp.goodSyncs := good }
  if 1600 < offset.natAbs then setLocked false t else if 8 ≤ good then setLocked true t else t

/-- A Sync of another master than the one followed: the lower identity is followed, and OVERLAP sets (R63). -/
def noteOverlap (other : Nat) (s : State) : State :=
  let since := match s.ptp.second with | some (_, t, _) => t | none => s.time.cclk
  let t := { s with time.overlap := true, ptp.second := some (max other s.time.masterId, since, s.time.cclk)
                    time.masterId := min other s.time.masterId }
  if s.time.overlap then t else setSource 131 t

/-- The overlap ends once the second master has been silent for three Sync intervals (DEDUCED, log 13). -/
def checkOverlap (s : State) : State :=
  match s.ptp.second with
  | none => s
  | some (_, _, last) =>
    if last + 3 * logCclk s.ptp.set.logSync ≤ s.time.cclk then
      endAlarm 0x0111 0 [] { s with time.overlap := false, ptp.second := none, ptp.overlapAlarm := false }
    else s

/-- PTP_SYNC_RX (R56, R57, R61, R63, R65, R68, R70). While no pair is ACTIVE no increment or step is written and LOCKED stays (R419). -/
def onSync (p : Port) (m : PtpSync) (s : State) : State :=
  if m.domain ≠ s.ptp.set.domain ∨ m.twoStep = true then ptpDiscard s
  else
    let delay := peerDelay (ptpPort s p)
    let offset := m.ingress16 - rxDelay16 s p - (m.origin16 + m.correction16 + delay + asymOf s p)
    let s1 := checkOverlap (setPtpPort p (fun q => { q with validSyncs := q.validSyncs + 1, good := q.good + 1
                                                            lastSync := some s.time.cclk, offset16 := offset }) s)
    if s1.time.master then s1
    else
      let silent := s1.ptp.followedAt + 3 * logCclk s1.ptp.set.logSync ≤ s1.time.cclk
      let s2 := if s1.time.masterId = 0 ∨ s1.time.masterId = m.master ∨ silent then { s1 with time.masterId := m.master }
                else noteOverlap m.master s1
      if s2.time.masterId ≠ m.master then s2
      else
        let s3 := endAlarm 0x0110 0 [] { s2 with ptp.followedAt := s2.time.cclk }
        let s4 := if p = preferredPort s3 ∧ 16 ≤ (ptpPort s3 p).good then changePort p s3 else s3
        if followedPort s4 = p then
          let s5 := { s4 with time.offset16 := offset }
          if pairActive s5 then lockByOffset offset (servo p offset delay m.seqId s5) else s5
        else s4

def execPtpSyncRx (port : Port) (msg : PtpSync) (s : State) : Host.Outcome State Fault Refusal := .next (onSync port msg s)

/-- PTP_ANNOUNCE_RX (R57, R62). -/
def onAnnounce (m : PtpAnnounce) (s : State) : State :=
  if m.domain ≠ s.ptp.set.domain then ptpDiscard s
  else
    decideMaster { s with ptp.announces := s.ptp.announces + 1
                          ptp.heard := s.ptp.heard.filter (fun e => decide (e.1.master ≠ m.master)) ++ [(m, s.time.cclk)] }

def execPtpAnnounceRx (_port : Port) (msg : PtpAnnounce) (s : State) : Host.Outcome State Fault Refusal := .next (onAnnounce msg s)

/-- ANNOUNCE_RECEIPT_TIMEOUT: three intervals after the last Announce, the hub decides without those it no longer hears
(R57, R62). -/
def onAnnounceTimeout (s : State) : State :=
  let t := toCclk ((s.ptp.heard.map (·.2)).foldl max 0 + 3 * logCclk s.ptp.set.logAnnounce) s
  decideMaster { t with ptp.heard := heardNow t }

def execAnnounceReceiptTimeout (s : State) : Host.Outcome State Fault Refusal := .next (onAnnounceTimeout s)

/-- A link-local PTP frame on one port (R60), with the next HSR sequence number. -/
def sendLocal (p : Port) (msg : WireMsg) (s : State) : State :=
  let t := egressPut p { cls := 0, bytes := 78, ready := s.time.cclk, hsrSeq := s.ring.hsrSeq, da := pdelayAddr, head := [], msg := msg } s
  { t with ring.hsrSeq := (s.ring.hsrSeq + 1) % 65536 }

/-- PDELAY_REQ_RX: the one-step response goes back by the same port; its turnaround is written as it leaves (R57, R58). -/
def onPdelayReq (p : Port) (domain seqId requestor : Nat) (ingress16 : Int) (s : State) : State :=
  if domain ≠ s.ptp.set.domain then ptpDiscard s else sendLocal p (.pdelayResp seqId requestor (ingress16 - rxDelay16 s p)) s

def execPdelayReqRx (port : Port) (domain seqId requestor : Nat) (ingress16 : Int) (s : State) : Host.Outcome State Fault Refusal :=
  .next (onPdelayReq port domain seqId requestor ingress16 s)

/-- PDELAY_RESP_RX: half of the round trip, from the request's egress stamp, less the turnaround joins the last 16 results (R57). The
port's asymmetry has opposite signs on the two ways and leaves this mean as it is (R65). -/
def onPdelayResp (p : Port) (domain seqId : Nat) (turnaround16 ingress16 : Int) (s : State) : State :=
  if domain ≠ s.ptp.set.domain then ptpDiscard s
  else
    match (ptpPort s p).reqTx with
    | none => s
    | some out =>
      if (ptpPort s p).reqOut = some seqId then
        setPtpPort p (fun q => { q with reqOut := none, reqTx := none
                                        delays := (((ingress16 - rxDelay16 s p - out - turnaround16) / 2) :: q.delays).take 16 }) s
      else s

def execPdelayRespRx (port : Port) (domain seqId : Nat) (turnaround16 ingress16 : Int) (s : State) :
    Host.Outcome State Fault Refusal := .next (onPdelayResp port domain seqId turnaround16 ingress16 s)

/-- PTP_SYNC_TX: a master out of its safe state sends Sync, one interval after the last at the earliest; the eighth sets LOCKED (R57, R58,
R68, R470). -/
def onSyncTx (s : State) : State :=
  if s.time.master && !s.safety.safe then
    let u := toCclk s.ptp.syncDue s
    let t := sendFrame 0 78 0 ptpAddr [] (.sync u.ptp.syncSeq 0 0)
      { u with ptp.syncSeq := (u.ptp.syncSeq + 1) % 65536, ptp.sentSyncs := u.ptp.sentSyncs + 1
               ptp.syncDue := u.time.cclk + logCclk u.ptp.set.logSync }
    if 8 ≤ t.ptp.sentSyncs then setLocked true { t with time.offset16 := 0 } else t
  else s

def execPtpSyncTx (s : State) : Host.Outcome State Fault Refusal := .next (onSyncTx s)

/-- PTP_ANNOUNCE_TX: one interval after the last at the earliest (R57, R470). -/
def onAnnounceTx (s : State) : State :=
  if s.time.master && !s.safety.safe then
    let t := toCclk s.ptp.annDue s
    sendFrame 0 98 0 ptpAddr [] (.announce t.ptp.annSeq ownClock t.ptp.set.priority1 t.ptp.set.priority2)
      { t with ptp.annSeq := (t.ptp.annSeq + 1) % 65536, ptp.annDue := t.time.cclk + logCclk t.ptp.set.logAnnounce }
  else s

def execPtpAnnounceTx (s : State) : Host.Outcome State Fault Refusal := .next (onAnnounceTx s)

/-- PDELAY_REQ_TX: one interval after the last at the earliest (R57, R60). -/
def onPdelayReqTx (p : Port) (s : State) : State :=
  let t := toCclk (ptpPort s p).reqDue s
  let seq := (ptpPort s p).reqSeq
  sendLocal p (.pdelayReq seq) (setPtpPort p (fun q => { q with
    reqOut := some seq, reqSeq := (seq + 1) % 65536, reqTx := none, reqDue := t.time.cclk + logCclk t.ptp.set.logPdelay }) t)

def execPdelayReqTx (port : Port) (s : State) : Host.Outcome State Fault Refusal := .next (onPdelayReqTx port s)

/-- PREFERRED_PORT_TIMEOUT: three Sync intervals without a valid Sync on the preferred port (R61). -/
def onPreferredTimeout (s : State) : State :=
  let p := preferredPort s
  let t := toCclk (((ptpPort s p).lastSync).getD 0 + 3 * logCclk s.ptp.set.logSync) s
  changePort (match p with | .a => .b | .b => .a) (setPtpPort p (fun q => { q with good := 0, missed := q.missed + 3 }) t)

def execPreferredPortTimeout (s : State) : Host.Outcome State Fault Refusal := .next (onPreferredTimeout s)

/-- OVERLAP_TIMEOUT: an overlap longer than 250 ms raises the alarm (R63). -/
def onOverlapTimeout (s : State) : State :=
  match s.ptp.second with
  | none => s
  | some (other, since, _) =>
    let t := toCclk (since + 100000000) s
    raiseAlarm 0x0111 0 (leBytes 8 t.time.masterId ++ leBytes 8 other) { t with ptp.overlapAlarm := true }

def execOverlapTimeout (s : State) : Host.Outcome State Fault Refusal := .next (onOverlapTimeout s)

/-- CLOSURE_UPDATE: once per second the difference of the offsets through the two ports, and an event as it moves beyond 1 ns (R66). A
port that receives no Sync any more goes on with its last offset (DESIGN CHOICE, log 83). -/
def onClosure (s : State) : State :=
  if s.ptp.portA.lastSync.isSome && s.ptp.portB.lastSync.isSome then
    let u := toCclk s.ptp.closureDue s
    let c := s.ptp.portA.offset16 - s.ptp.portB.offset16
    let t := { u with time.closure := c, ptp.closureDue := u.time.cclk + 400000000 }
    if 16 < (c - s.time.closureCal).natAbs ∧ ¬ 16 < (s.time.closure - s.time.closureCal).natAbs then
      event 0x0104 0 (leSigned 4 c ++ leSigned 4 s.time.closureCal) t
    else t
  else s

def execClosureUpdate (s : State) : Host.Outcome State Fault Refusal := .next (onClosure s)

/-- SYNC_LOSS_TIMEOUT: one second after the last valid Sync on either port, on a hub that is not the master (R68, R69). -/
def onSyncLoss (s : State) : State :=
  if s.time.master then s
  else
    let t := toCclk (max (s.ptp.portA.lastSync.getD 0) (s.ptp.portB.lastSync.getD 0) + 400000000) s
    let recent := (t.ptp.incHist.filter (fun e => decide (t.time.cclk < e.2 + 25600000000))).map (·.1)
    let held := if recent.isEmpty || !pairActive t then t.time.incNext else some (recent.foldl (· + ·) 0 / recent.length)
    setSource 199 (raiseAlarm 0x0110 0 []
      (setLocked false { t with time.syncLost := true, time.holdover := true, time.incNext := held, ptp.goodSyncs := 0 }))

def execSyncLossTimeout (s : State) : Host.Outcome State Fault Refusal := .next (onSyncLoss s)

/-! ### Commands (R396) -/

/-- The refusal of a hub that is not the time master (R394, R396). -/
def needMaster (s : State) : Option Reply := if s.time.master then none else some (refusedState 10 0)

/-- TIME_SET: reload the counter at the next boundary (R52, R396). -/
def execTimeSet (h : CmdHdr) (sec ns : Nat) (s : State) : Host.Outcome State Fault Refusal :=
  .next (runCommand h 0x0101 (fun t => orElseReply (firstBad [(34, decide (1000000000 ≤ ns))]) (needMaster t))
    (fun t => finishAtBoundary h 0x0101 { t with time.reload := some (2 * (sec * 1000000000 + ns)) }) s)

/-- FREQ as an offset to the servo's frequency: the increment in force moves by the change of the offset (R396, DEDUCED, log 14). -/
def adjustedInc (inc : Nat) (old new : Int) : Nat := ((inc : Int) + roundDiv ((inc : Int) * (new - old)) 1000000000000).toNat

/-- TIME_ADJUST: STEP as a small step and FREQ at the next boundary (R53, R396). -/
def execTimeAdjust (h : CmdHdr) (step freq : Int) (s : State) : Host.Outcome State Fault Refusal :=
  .next (runCommand h 0x0102 (fun t => orElseReply (firstBad [(28, decide (40 < step.natAbs))]) (needMaster t))
    (fun t => finishAtBoundary h 0x0102
      (writeInc (adjustedInc (t.time.incNext.getD t.time.inc) t.time.freq freq) { t with time.step := step, time.freq := freq })) s)

/-- TIME_ASYM: the asymmetry of a port; the closure reading then stands as calibrated (R65, R66, PRESUMED, log 6). -/
def execTimeAsym (h : CmdHdr) (port : Nat) (asym : Int) (s : State) : Host.Outcome State Fault Refusal :=
  .next (runCommand h 0x0103 (fun _ => firstBad [(28, decide (1 < port))])
    (fun t => finish h 0x0103 okReply
      (if port = 0 then { t with time.asymA := asym, time.closureCal := t.time.closure }
       else { t with time.asymB := asym, time.closureCal := t.time.closure })) s)

/-- PTP_SET: the engine's settings within R57. -/
def execPtpSet (h : CmdHdr) (p : PtpSetP) (s : State) : Host.Outcome State Fault Refusal :=
  .next (runCommand h 0x0104
    (fun _ => firstBad [(28, decide (127 < p.domain)), (29, decide (p.logSync < -7 ∨ 0 < p.logSync)),
      (30, decide (p.logAnnounce < 0 ∨ 2 < p.logAnnounce)), (31, decide (p.logPdelay < -3 ∨ 2 < p.logPdelay))])
    (fun t => finish h 0x0104 okReply
      { t with ptp.set := { domain := p.domain, logSync := p.logSync, logAnnounce := p.logAnnounce, logPdelay := p.logPdelay
                            priority1 := p.priority1, priority2 := p.priority2 } }) s)

/-- Read twin of TIME_ASYM (R391). -/
def execTimeAsymTwin (h : CmdHdr) (port : Nat) (s : State) : Host.Outcome State Fault Refusal :=
  .next (readCommand h 0x0183 4 (fun _ => firstBad [(28, decide (1 < port))])
    (fun t => leSigned 4 (if port = 0 then t.time.asymA else t.time.asymB)) s)

/-- Read twin of PTP_SET (R391). -/
def execPtpSetTwin (h : CmdHdr) (s : State) : Host.Outcome State Fault Refusal :=
  .next (readCommand h 0x0184 6 (fun _ => none)
    (fun t => leBytes 1 t.ptp.set.domain ++ leSigned 1 t.ptp.set.logSync ++ leSigned 1 t.ptp.set.logAnnounce ++
      leSigned 1 t.ptp.set.logPdelay ++ leBytes 1 t.ptp.set.priority1 ++ leBytes 1 t.ptp.set.priority2) s)

end Sys2Proof.Machine
end

