-- ==== Sys2Proof/Machine/Ring.lean ====
section
/-! DEFINITION. The Jorva ring: the switch, reassembly, beacons, the budget ledger, leased roles, forwarding of commands, joining and
leaving (12, R311 to R344; 15, R405). -/

namespace Sys2Proof.Machine

/-! ### Ports and frames (R312 to R319) -/

/-- A port's link is up. -/
def linkOf (s : State) (p : Port) : Bool := match p with | .a => s.ring.linkA | .b => s.ring.linkB

/-- The other port. -/
def otherPort (p : Port) : Port := match p with | .a => .b | .b => .a

/-- Change a port's frame counters. -/
def bump (p : Port) (f : PortCount → PortCount) (s : State) : State :=
  match p with
  | .a => { s with ring.countA := f s.ring.countA }
  | .b => { s with ring.countB := f s.ring.countB }

/-- Fields of a Jorva header (R318). -/
def fVersion (f : RingFrame) : Nat := fieldAt f.head 0 1 / 16
def fCls (f : RingFrame) : Nat := fieldAt f.head 0 1 % 8
def fKind (f : RingFrame) : Nat := fieldAt f.head 1 1
def fSrc (f : RingFrame) : Nat := fieldAt f.head 2 1 % 64
def fFrag (f : RingFrame) : Nat := fieldAt f.head 4 2
def fLast (f : RingFrame) : Bool := bitOf (fieldAt f.head 6 1) 0
def fHeld (f : RingFrame) : Bool := bitOf (fieldAt f.head 6 1) 1
def fStream (f : RingFrame) : Nat := fieldAt f.head 7 1 % 128
def fTag (f : RingFrame) : Nat := fieldAt f.head 8 4
def fLen (f : RingFrame) : Nat := fieldAt f.head 12 2

/-- JCRC agrees with bytes 0 to 13 (R318). -/
def jcrcOk (f : RingFrame) : Bool := decide (fieldAt f.head 14 2 = (crc16 (f.head.take 14)).toNat)

/-- The header or the destination address names this hub, or all (R317, R318). -/
def forThisHub (s : State) (f : RingFrame) : Bool :=
  decide (f.dstAddr = hubAddr s.live.ring.hubId) || decide (f.dstAddr = allAddr)

/-- LSDU size agrees with the frame's length: the bytes after the tag's EtherType, without the FCS (R316; PRESUMED, log 84). -/
def lsduOk (f : RingFrame) : Bool := decide (f.lsdu + 18 = f.length)

/-- messageType of a PTP message. -/
def ptpType (f : RingFrame) : Nat := fieldAt f.head 0 1 % 16

/-- A PTP message outside the table of R57: neither Sync, Announce, Pdelay_Req nor Pdelay_Resp, or to another address than theirs. -/
def ptpOutside (f : RingFrame) : Bool :=
  let m := ptpType f
  if m = 2 ∨ m = 3 then decide (f.dstAddr ≠ pdelayAddr) else if m = 0 ∨ m = 11 then decide (f.dstAddr ≠ ptpAddr) else true

/-- FRAME_DISCARD (R379): the cause is the position of its counter. -/
def traceDiscard (p : Port) (cause : Nat) (f : RingFrame) (s : State) : State :=
  traceEntry 0x1004 (portNo p) ([BitVec.ofNat 8 cause, BitVec.ofNat 8 (fCls f)] ++ leBytes 6 f.srcAddr ++ List.replicate 12 0) s

/-- EtherTypes a ring port accepts (R312): Jorva, PTP and HSR supervision. -/
def etherTypeOk (s : State) (t : Nat) : Bool := decide (t = s.live.ring.etherType) || decide (t = 0x88F7) || decide (t = 0x892F)

/-- The frame breaks R312. -/
def frameRefused (s : State) (f : RingFrame) : Bool :=
  decide (f.length < 64) || decide (1530 < f.length) || !f.tagged || !etherTypeOk s f.etherType

/-- A frame this hub consumes and does not forward: unicast to it, or a link-local Pdelay message, Pdelay_Resp_Follow_Up among them (R60,
R314). -/
def consumed (s : State) (f : RingFrame) : Bool :=
  decide (f.dstAddr = hubAddr s.live.ring.hubId) ||
    (decide (f.etherType = 0x88F7) && (decide (ptpType f = 2) || decide (ptpType f = 3) || decide (ptpType f = 10)))

/-- The class a forwarded frame takes at the egress (R321); a reserved class travels as RETRIEVAL (DESIGN CHOICE, log 84). -/
def frameClass (s : State) (f : RingFrame) : Nat := if f.etherType = s.live.ring.etherType then min 4 (fCls f) else 0

/-- A forwarding hub increments the hop count of a BEACON (R335). -/
def hopped (s : State) (f : RingFrame) : RingFrame :=
  if f.etherType = s.live.ring.etherType ∧ fKind f = 3 then { f with hops := f.hops + 1 } else f

/-- CCLK from a frame's first byte in to its first byte out (R88). -/
def hopCclk (s : State) : Nat := if s.live.ring.rate10G then 620 else 412

/-- Forward a frame on the other port, with its ingress stamp; a wrong FCS goes out inverted (R59, R88, R314, R349). -/
def forwardFrame (p : Port) (f : RingFrame) (s : State) : State :=
  if consumed s f then s
  else egressPut (otherPort p) { cls := frameClass s f, bytes := f.length, ready := s.time.cclk + hopCclk s, hsrSeq := f.hsrSeq
                                 da := f.dstAddr, head := f.head
                                 msg := .transit (hopped s f) (!f.fcsOk) (now16 s - rxDelay16 s p) } s

/-- The frame has been received within EntryForgetTime, 10 ms (R315). -/
def duplicate (s : State) (f : RingFrame) : Bool :=
  s.ring.dups.any (fun e => decide (e.1 = f.srcAddr) && decide (e.2.1 = f.hsrSeq) && decide (s.time.cclk < e.2.2 + 4000000))

/-- Versions this firmware reads (R340, R484). -/
def versionRead (s : State) (v : Nat) : Bool := decide (v = s.boot.jorvaHi ∨ v + 1 = s.boot.jorvaHi)

/-- Every fragment up to LAST has come. -/
def wholeFrags (r : Reassembly) : Bool :=
  match r.total with
  | none => false
  | some n => (List.range n).all (fun i => r.frags.any (fun e => decide (e.1 = i)))

/-- The bytes of a record, fragment by fragment. -/
def wholeBytes (r : Reassembly) : List Byte :=
  ((List.range (r.total.getD 0)).map (fun i => ((r.frags.find? (fun e => decide (e.1 = i))).map (·.2)).getD [])).flatten

/-- A reassembly's key (R319). -/
def sameRecord (r : Reassembly) (hub stream tag : Nat) : Bool :=
  decide (r.src = hub) && decide (r.stream = stream) && decide (r.tag = tag)

/-- A fragment joins its record; a whole record leaves reassembly and stands ready for JORVA_RECORD_RX. A fragment of a record that has been
discarded is dropped with it (R319). -/
def reassemble (f : RingFrame) (s : State) : State :=
  let mine (r : Reassembly) : Bool := sameRecord r (fSrc f) (fStream f) (fTag f)
  let old := (s.ring.reasm.find? mine).getD
    { src := fSrc f, stream := fStream f, tag := fTag f, started := s.time.cclk, cls := fCls f, frags := [], total := none, dead := false }
  let new := { old with frags := old.frags.filter (fun e => decide (e.1 ≠ fFrag f)) ++ [(fFrag f, f.payload.take (fLen f))]
                        total := if fLast f then some (fFrag f + 1) else old.total }
  if old.dead then s
  else if wholeFrags new then
    { s with ring.reasm := s.ring.reasm.filter (fun r => !mine r)
             ring.arrived := s.ring.arrived ++ [(new.src, new.stream, wholeBytes new, decide (new.cls = 4))] }
  else { s with ring.reasm := s.ring.reasm.filter (fun r => !mine r) ++ [new] }

/-- A record whose fragment is spoilt is discarded whole, and counted once: what else comes of it within its 1 ms is dropped (R319). -/
def spoil (p : Port) (f : RingFrame) (s : State) : State :=
  let mine (r : Reassembly) : Bool := sameRecord r (fSrc f) (fStream f) (fTag f)
  let old := (s.ring.reasm.find? mine).getD
    { src := fSrc f, stream := fStream f, tag := fTag f, started := s.time.cclk, cls := fCls f, frags := [], total := none, dead := false }
  if old.dead then s
  else traceDiscard p 5 f (bump p (fun c => { c with reasm := c.reasm + 1 })
    { s with ring.reasm := s.ring.reasm.filter (fun r => !mine r) ++ [{ old with dead := true, frags := [], total := none }] })

/-- A Jorva frame reaches a joined hub, or one that listens (R318, R319, R338, R340). -/
def readFrame (p : Port) (f : RingFrame) (s : State) : State :=
  if s.ring.state ≠ .joined ∧ s.ring.state ≠ .listen then s
  else if !forThisHub s f then s
  else if !jcrcOk f then spoil p f s
  else if !versionRead s (fVersion f) then traceDiscard p 6 f (bump p (fun c => { c with versions := c.versions + 1 }) s)
  else if s.ring.state = .joined ∧ fKind f = 1 then reassemble f s
  else s

/-- A PTP message outside R57 is counted before the duplicate discard (R57, R60). -/
def seenByEngine (f : RingFrame) (s : State) : State :=
  if decide (f.etherType = 0x88F7) && f.fcsOk && ptpOutside f then ptpDiscard s else s

/-- RING_FRAME_RX (R312, R314, R315). A frame whose FCS or LSDU size is wrong has not been received, so no entry of it stands in the
way of the other copy. -/
def onFrame (p : Port) (f : RingFrame) (s : State) : State :=
  if !linkOf s p then s
  else
    let t := bump p (fun c => { c with frames := c.frames + 1 }) s
    if frameRefused t f then traceDiscard p 2 f (bump p (fun c => { c with r312 := c.r312 + 1 }) t)
    else if !lsduOk f then traceDiscard p 3 f (bump p (fun c => { c with lsdu := c.lsdu + 1 }) t)
    else if f.srcAddr = hubAddr s.live.ring.hubId then t
    else
      let t := seenByEngine f t
      if duplicate t f then traceDiscard p 4 f (bump p (fun c => { c with dups := c.dups + 1 }) t)
      else if !f.fcsOk then forwardFrame p f (traceDiscard p 1 f (bump p (fun c => { c with fcs := c.fcs + 1 }) t))
      else
        let u := forwardFrame p f { t with ring.dups := t.ring.dups ++ [(f.srcAddr, f.hsrSeq, t.time.cclk)] }
        if f.etherType = s.live.ring.etherType then readFrame p f u else u

def execRingFrameRx (port : Port) (frame : RingFrame) (s : State) : Host.Outcome State Fault Refusal := .next (onFrame port frame s)

/-- DUPLICATE_ENTRY_EXPIRY: the oldest entry is 10 ms old (R315). -/
def onDupExpiry (s : State) : State :=
  match s.ring.dups with
  | [] => s
  | e :: es => toCclk (e.2.2 + 4000000) { s with ring.dups := es }

def execDuplicateEntryExpiry (s : State) : Host.Outcome State Fault Refusal := .next (onDupExpiry s)

/-- REASSEMBLY_TIMEOUT: 1 ms after its first fragment the record is discarded and counted, unless that has been done (R319). -/
def onReasmTimeout (p : Port) (hub stream tag : Nat) (s : State) : State :=
  match s.ring.reasm.find? (fun r => sameRecord r hub stream tag) with
  | none => s
  | some r =>
    let t := { toCclk (r.started + 400000) s with ring.reasm := s.ring.reasm.filter (fun r => !sameRecord r hub stream tag) }
    if r.dead then t else bump p (fun c => { c with reasm := c.reasm + 1 }) t

def execReassemblyTimeout (port : Port) (hub stream tag : Nat) (s : State) : Host.Outcome State Fault Refusal :=
  .next (onReasmTimeout port hub stream tag s)

/-! ### Egress (R321) -/

/-- A frame of another hub in transit. -/
def isTransit (w : Waiting) : Bool := match w.msg with | .transit _ _ _ => true | _ => false

/-- One frame goes before another: of a higher class, or of the same one with its first byte there earlier; on a tie a transit frame before
a local one (R321). -/
def goesBefore (v w : Waiting) : Bool :=
  decide (v.cls < w.cls) || decide (v.cls = w.cls) &&
    (decide (v.ready < w.ready) || decide (v.ready = w.ready) && isTransit v && !isTransit w)

/-- The frame that leaves next of those whose first byte can leave (R321). -/
def nextFrame (now : Nat) (ws : List Waiting) : Option (Waiting × List Waiting) :=
  takeFirst (fun w => decide (w.ready ≤ now) && ws.all (fun v => !(decide (v.ready ≤ now) && goesBefore v w))) ws

/-- The CCLK count at which some frame can leave. -/
def firstReady (ws : List Waiting) : Option Nat := (ws.map (·.ready)).min?

/-- What is written on the fly as a message leaves at a port: the origin time of a Sync of this hub, in whole ns (DESIGN CHOICE, log 87); the
turnaround of a Pdelay_Resp; into a forwarded Sync its residence, the peer delay of the ingress link and the ingress port's asymmetry.
Every stamp is of the line, later by the transmit latency of the port's mode (R58, R59). -/
def stamped (p : Port) (m : WireMsg) (s : State) : WireMsg :=
  let out := now16 s + txDelay16 s p
  match m with
  | .sync q _ c => .sync q (out / 16).toNat c
  | .pdelayResp q r t => .pdelayResp q r (out - t)
  | .transit f inv t =>
    if f.etherType = 0x88F7 ∧ ptpType f = 0 then
      .transit { f with correction16 := f.correction16 + (out - t) + peerDelay (ptpPort s (otherPort p)) + asymOf s (otherPort p) } inv t
    else m
  | m => m

/-- EtherType of what a frame carries (R57, R316, R317). -/
def etherOf (s : State) (m : WireMsg) : Nat :=
  match m with
  | .transit f _ _ => f.etherType
  | .sync .. => 0x88F7
  | .announce .. => 0x88F7
  | .pdelayReq _ => 0x88F7
  | .pdelayResp .. => 0x88F7
  | .supervision => 0x892F
  | _ => s.live.ring.etherType

/-- The frame on the line at a port: a transit frame keeps its source address and its tag's path; a frame of this hub takes path 0 at port A and
1 at port B (R314, R317; the path values are PRESUMED, log 84). -/
def wireOf (p : Port) (w : Waiting) (s : State) : WireFrame :=
  { da := w.da
    sa := match w.msg with | .transit f _ _ => f.srcAddr | _ => hubAddr s.live.ring.hubId
    path := match w.msg with | .transit f _ _ => f.path | _ => portNo p
    lsdu := w.bytes - 18, hsrSeq := w.hsrSeq, etherType := etherOf s w.msg, head := w.head, msg := stamped p w.msg s }

/-- The egress of a port. -/
def egressOf (s : State) (p : Port) : List Waiting := match p with | .a => s.ring.egressA | .b => s.ring.egressB
def putEgress (p : Port) (ws : List Waiting) (s : State) : State :=
  match p with | .a => { s with ring.egressA := ws } | .b => { s with ring.egressB := ws }

/-- The join state changes: event source 143 (R383). -/
def setJoin (j : JoinState) (s : State) : State :=
  if s.ring.state = j then s else setSource 143 { s with ring.state := j }

/-- A ring stream ends as its hub leaves the ring: closed, or delivering to its host ring alone (R341, DEDUCED, log 26). -/
def endRingStream (n : Nat) (s : State) : State :=
  let c := streamAt s n
  if c.isOpen && c.ring then
    let t := putGrant n (0, 0) s
    if c.hostRing.isSome then putStream n (pruneGone { c with ring := false, hold := false, holders := [], ringRanges := [], ringSafe := [] }) t
    else { t with fret.closeStreams := t.fret.closeStreams ++ [n] }
  else s

/-- Records of this hub's ring streams wait at an egress. -/
def recordsWait (s : State) : Bool :=
  (s.ring.egressA ++ s.ring.egressB).any (fun w => match w.msg with
    | .record _ _ _ _ _ _ => decide (w.da = allAddr)
    | _ => false)

/-- LEAVE goes out and the hub moves to PASS; the ring streams end, and every LEAVE under way completes (R341). -/
def sendLeave (s : State) : State :=
  let u := setJoin .pass (sendControl 24 none (.leave s.live.ring.hubId) s)
  let v := (openStreams u).foldl (fun v n => endRingStream n v)
    { u with ring.topo := [], ring.asks := [], ring.retrieval := [], ring.credit := [], ring.creditors := [], ring.granted := []
             ring.reasm := [], ring.arrived := [], ring.leaving := [] }
  let w := s.ring.leaving.foldl (fun w h => finish h 0x0805 okReply w) v
  s.ring.asks.foldl (fun w a => finish a.hdr a.opcode (refusedState 4 0) w) w

/-- LEAVE goes out once the records of this hub's streams have left (R341). -/
def leaveWhenSent (s : State) : State := if s.ring.leaving ≠ [] ∧ recordsWait s = false then sendLeave s else s

/-- What follows once a frame has left: the egress stamp of a Pdelay_Req (R57), and the ring delivery point of the record's stream
(R325), with the LEAVE that waited for the last record (R341). -/
def afterEgress (p : Port) (m : WireMsg) (s : State) : State :=
  match m with
  | .pdelayReq seq => setPtpPort p (fun q => if q.reqOut = some seq then { q with reqTx := some (now16 s + txDelay16 s p) } else q) s
  | .record stream _ _ _ _ _ => leaveWhenSent (settleRing stream s)
  | _ => s

/-- EGRESS_FRAME_TX: the frame of the highest class that can leave, once one can (R88, R321). -/
def onEgress (p : Port) (s : State) : State :=
  match firstReady (egressOf s p) with
  | none => s
  | some at_ =>
    let t := toCclk at_ s
    match nextFrame t.time.cclk (egressOf t p) with
    | none => s
    | some (w, ws) => afterEgress p w.msg { putEgress p ws t with sent := t.sent ++ [(p, wireOf p w t)] }

def execEgressFrameTx (port : Port) (s : State) : Host.Outcome State Fault Refusal := .next (onEgress port s)

/-! ### Supervision (R316) -/

/-- HSR_SUPERVISION_TX: from PASS on, 2 s after the last at the earliest; 70 bytes (PRESUMED, log 23). -/
def onSupervisionTx (s : State) : State :=
  if s.ring.state = .down then s
  else
    let t := toCclk s.ring.supervisionDue s
    sendFrame 0 70 0 supervisionAddr [] .supervision
      { t with ring.supervisions := t.ring.supervisions + 1, ring.supervisionDue := t.time.cclk + 800000000 }

def execHsrSupervisionTx (s : State) : Host.Outcome State Fault Refusal := .next (onSupervisionTx s)

/-- HSR_SUPERVISION_RX: the node has been heard. -/
def onSupervisionRx (node : Nat) (s : State) : State := { s with ring.nodes := tinsert node s.time.cclk (tdrop s.ring.nodes node) }

def execHsrSupervisionRx (node : Nat) (s : State) : Host.Outcome State Fault Refusal := .next (onSupervisionRx node s)

/-- NODE_FORGET: a node silent for 60 s is forgotten. -/
def onNodeForget (node : Nat) (s : State) : State :=
  match s.ring.nodes.find? (fun e => decide (e.1 = node)) with
  | none => s
  | some e => { toCclk (e.2 + 24000000000) s with ring.nodes := tdrop s.ring.nodes node }

def execNodeForget (node : Nat) (s : State) : Host.Outcome State Fault Refusal := .next (onNodeForget node s)

/-! ### Leased roles (R333, R334) -/

/-- What the hub holds of a role. -/
def leaseOf (s : State) (r : Role) : LeaseRun := match r with | .gateway => s.ring.gateway | .arbiter => s.ring.arbiter

/-- Put what the hub holds of a role. -/
def putLease (r : Role) (l : LeaseRun) (s : State) : State :=
  match r with | .gateway => { s with ring.gateway := l } | .arbiter => { s with ring.arbiter := l }

/-- Code of a role (R379, R408). -/
def roleNo (r : Role) : Nat := match r with | .gateway => 0 | .arbiter => 1

/-- ROLE_CHANGE (R408). -/
def roleEvent (r : Role) (holder term : Nat) (s : State) : State :=
  event 0x0503 (roleNo r) ([BitVec.ofNat 8 holder, 0, 0, 0] ++ leBytes 4 term) s

/-- TRACE LEASE (R379). -/
def traceLease (r : Role) (act peer term : Nat) (s : State) : State :=
  traceEntry 0x1002 (roleNo r) ([BitVec.ofNat 8 act, BitVec.ofNat 8 peer, 0, 0] ++ leBytes 4 term ++ List.replicate 12 0) s

/-- The quorum Q. -/
def quorum (s : State) : Nat := s.live.roster.length / 2 + 1

/-- The hub is on its own roster. -/
def onRoster (s : State) : Bool := s.live.roster.contains s.live.ring.hubId

/-- The hub may claim a role: eligible, and for the gateway with a host attached. -/
def eligible (s : State) (r : Role) : Bool :=
  match r with
  | .gateway => s.live.roles.gwElig && s.host.linkUp
  | .arbiter => s.live.roles.arbElig

/-- Its priority for a role. -/
def rolePri (s : State) (r : Role) : Nat := match r with | .gateway => s.live.roles.gwPri | .arbiter => s.live.roles.arbPri

/-- A promise to another hub binds at hub time `now` (ns). -/
def promised (l : LeaseRun) (hub now : Nat) : Bool :=
  match l.promise with | none => false | some (h, t) => decide (h ≠ hub) && decide (now < t)

/-- Answer a command this hub has forwarded, into the COMPLETION ring its descriptor names (R336, R392). -/
def answerForwarded (f : Forwarded) (c : RemoteCompletion) (s : State) : State :=
  let done : Completion :=
    { ring := if completionRing s f.hdr.cplRing then f.hdr.cplRing else 1, tag := f.hdr.tag, opcode := f.opcode, hub := f.hub
      forwarded := true, status := c.status, cmdRing := f.hdr.cmdRing, reexecuted := c.reexecuted, repeated := c.repeated
      descIdx := f.hdr.descIdx, effectFret := c.effectFret, data := c.data.take f.hdr.dataLen, result := padTo 8 c.result }
  let t := { s with ring.forwarded := s.ring.forwarded.filter (fun e => decide (e ≠ f))
                    host.handed := s.host.handed.filter (fun e => !(decide (e.ring = f.hdr.cmdRing) && decide (e.descIdx = f.hdr.descIdx) &&
                      decide (e.gateway = none))) }
  let u := if t.host.orphans.contains (f.hdr.cmdRing, f.hdr.descIdx) then
      { t with host.orphans := t.host.orphans.filter (fun e => decide (e ≠ (f.hdr.cmdRing, f.hdr.descIdx))) }
    else { t with host.waiting := t.host.waiting ++ [done] }
  let v := traceCommand f.hdr.cmdRing f.opcode 1 c.status f.hdr.tag (sinceHandOff f.hdr s) u
  if c.status = 0 then v
  else logEntry 0x0201 (leBytes 2 f.opcode ++ [BitVec.ofNat 8 c.status, BitVec.ofNat 8 f.hdr.cmdRing] ++ leBytes 2 f.hdr.descIdx ++
    leBytes 4 f.hdr.tag ++ [BitVec.ofNat 8 f.hub] ++ List.replicate 7 0 ++ (padTo 8 c.result).take 4) v

/-- A forwarded command goes unanswered (R336). -/
def forwardTimedOut (f : Forwarded) (s : State) : State :=
  answerForwarded f { hub := f.hub, tag := f.hdr.tag, opcode := f.opcode, status := stTimeout, reexecuted := false, repeated := false
                      effectFret := 0xFFFFFFFF, result := [], data := [] } s

/-- The hub stops acting in a role (R333, R336, R337). -/
def loseRole (r : Role) (s : State) : State :=
  let l := leaseOf s r
  if l.held then
    let t := putLease r { l with held := false, claiming := false, holder := none, acks := [] } s
    match r with
    | .arbiter => { t with trig.merges := [] }
    | .gateway =>
      t.ring.forwarded.foldl (fun u f => forwardTimedOut f u)
        { t with ring.ledger := [], ring.ledgerReady := false, ring.ledgerHeard := [], ring.budgetQ := [] }
  else s

/-! ### The budget ledger (R330) -/

/-- The gateway's verdict on a request goes into the ledger and back to the hub. -/
def answerRequest (hub stream rho sigma : Nat) (s : State) : State :=
  match judge s hub stream rho sigma with
  | none => sendControl 24 (some hub) (.budget (.granted hub stream)) (putLedger hub stream rho sigma s)
  | some (res, excess) => sendControl 24 (some hub) (.budget (.refused hub stream res excess)) s

/-- The ledger is whole once every hub of the topology table has sent a beacon: requests that waited are judged in turn, by a pair that
is ACTIVE (R330, R419). -/
def ledgerCheck (s : State) : State :=
  if s.ring.gateway.held && pairActive s && (s.ring.ledgerReady || (presentHubs s).all (fun h => s.ring.ledgerHeard.contains h)) then
    s.ring.budgetQ.foldl (fun t q => answerRequest q.1 q.2.1 q.2.2.1 q.2.2.2 t) { s with ring.ledgerReady := true, ring.budgetQ := [] }
  else s

/-- A new gateway starts its ledger from the grants of its own streams. -/
def startLedger (s : State) : State :=
  ledgerCheck { s with ring.ledger := s.ring.grants.map (fun e => (s.live.ring.hubId, e.1, e.2.1, e.2.2))
                       ring.ledgerReady := false, ring.ledgerHeard := [], ring.budgetQ := [] }

/-- Σρ and Σσ of one hub's ledger lines by stream. -/
def hubLines (s : State) (hub : Nat) : Nat × Nat :=
  let ls := s.ring.ledger.filter (fun e => decide (e.1 = hub) && decide (e.2.1 < 128))
  (sumOf (fun e => e.2.2.1) ls, sumOf (fun e => e.2.2.2) ls)

/-- A beacon's figures enter the gateway's ledger: what they exceed the lines known by stream stands on a line of its own, 128
(DESIGN CHOICE, log 24). -/
def ledgerBeacon (b : Beacon) (s : State) : State :=
  if s.ring.gateway.held then
    let known := hubLines s b.hub
    let fresh := !s.ring.ledgerHeard.contains b.hub
    let old := s.ring.ledger.any (fun e => decide (e.1 = b.hub) && decide (e.2.1 = 128))
    let t := if fresh || old then putLedger b.hub 128 (b.rho - known.1) (b.sigma - known.2) s else s
    ledgerCheck { t with ring.ledgerHeard := if fresh then t.ring.ledgerHeard ++ [b.hub] else t.ring.ledgerHeard }
  else s

/-- The command that waited for a grant runs again, with the grant (R330). -/
def runAgain (c : Instr) (s : State) : State :=
  match c with
  | .subscribe h p => onSubscribe h p s
  | .dynChainSet h p => onDynChainSet h p s
  | .statsSet h set interval stream es => onStatsSet h set interval stream es s
  | .rainflowSet h set interval stream cs => onRainSet h set interval stream cs s
  | .spectralSet h p => onSpecSet h p s
  | _ => s

/-- BUDGET_MSG_RX (R330). While no pair is ACTIVE no BUDGET message is sent (R419): a request waits, and an answer finds nobody
(DEDUCED, log 78). -/
def onBudget (m : BudgetMsg) (s : State) : State :=
  match m with
  | .request hub stream rho sigma =>
    if s.ring.gateway.held then
      if s.ring.ledgerReady && pairActive s then answerRequest hub stream rho sigma s
      else { s with ring.budgetQ := s.ring.budgetQ ++ [(hub, stream, rho, sigma)] }
    else s
  | .granted hub stream =>
    match takeFirst (fun a : BudgetAsk => decide (a.stream = stream) && decide (hub = s.live.ring.hubId) && pairActive s) s.ring.asks with
    | none => s
    | some (a, rest) => runAgain a.cmd (putGrant stream (a.rho, a.sigma) { s with ring.asks := rest })
  | .refused hub stream res excess =>
    match takeFirst (fun a : BudgetAsk => decide (a.stream = stream) && decide (hub = s.live.ring.hubId) && pairActive s) s.ring.asks with
    | none => s
    | some (a, rest) => finish a.hdr a.opcode (overBudget res excess) { s with ring.asks := rest }

def execBudgetMsgRx (msg : BudgetMsg) (s : State) : Host.Outcome State Fault Refusal := .next (onBudget msg s)

/-! ### Lease messages (R333) -/

/-- The claimant holds the role, its lease running from its claim (DEDUCED, log 25). -/
def takeRole (r : Role) (s : State) : State :=
  let l := leaseOf s r
  let me := s.live.ring.hubId
  let t := roleEvent r me (l.term + 1)
    (putLease r { l with held := true, claiming := false, holder := some me, term := l.term + 1, lastMsg := some (nowNs s)
                         expires := l.sentAt + 100000000 } s)
  match r with | .gateway => startLedger t | .arbiter => t

/-- An acknowledgement is counted; with Q of them the claim or the renewal holds. -/
def countAck (r : Role) (hub sent : Nat) (renewal : Bool) (s : State) : State :=
  let l := leaseOf s r
  if s.live.roster.contains hub && decide (sent = l.sentAt) && (if renewal then l.held else l.claiming) then
    let acks := distinct (l.acks ++ [hub])
    let t := putLease r { l with acks := acks } s
    if quorum s ≤ acks.length then
      (if renewal then putLease r { leaseOf t r with expires := max l.expires (sent + 100000000) } t else takeRole r t)
    else t
  else s

/-- Acknowledge a hub's message, and be bound to it for 101 ms from its sending. -/
def acknowledge (r : Role) (hub term sent : Nat) (renewal : Bool) (s : State) : State :=
  let me := s.live.ring.hubId
  let t := putLease r { leaseOf s r with promise := some (hub, sent + 101000000) } s
  if hub = me then countAck r me sent renewal t
  else traceLease r 3 hub term (sendControl 24 (some hub) (.lease (.ack r me term sent renewal)) t)

/-- A CLAIM opens, or joins, the 25 ms in which claims are collected. -/
def collectClaim (r : Role) (pri hub term sent : Nat) (s : State) : State :=
  let l := leaseOf s r
  if onRoster s then
    putLease r { l with claims := l.claims ++ [(pri, hub, term, sent)]
                        claimEnd := match l.claimEnd with | some e => some e | none => some (nowNs s + 25000000) } s
  else s

/-- A valid lease message has come. -/
def heardLease (r : Role) (s : State) : State := putLease r { leaseOf s r with lastMsg := some (nowNs s) } s

/-- LEASE_MSG_RX; a lower term is ignored, and so is any message while no pair is ACTIVE (DEDUCED, log 78). -/
def onLease (m : LeaseMsg) (s : State) : State :=
  if s.ring.state ≠ .joined ∨ pairActive s = false then s
  else
    match m with
    | .claim r hub term pri sent => if term < (leaseOf s r).term then s else collectClaim r pri hub term sent (heardLease r s)
    | .renew r hub term sent =>
      let l := leaseOf s r
      if term < l.term then s
      else
        let t := if l.held ∧ hub ≠ s.live.ring.hubId then loseRole r s else s
        let u := putLease r { leaseOf t r with holder := some hub, term := term, claiming := false, lastMsg := some (nowNs s) } t
        let v := if l.holder = some hub ∧ l.term = term then u else roleEvent r hub term u
        if onRoster v && !promised (leaseOf v r) hub (nowNs v) then acknowledge r hub term sent true v else v
    | .ack r hub term sent renewal =>
      let l := leaseOf s r
      if term < l.term ∨ term ≠ (if renewal then l.term else l.term + 1) then s
      else countAck r hub sent renewal (traceLease r 2 hub term (heardLease r s))

def execLeaseMsgRx (msg : LeaseMsg) (s : State) : Host.Outcome State Fault Refusal := .next (onLease msg s)

/-- The time from which a role's silence counts, in ns. -/
def silentSince (s : State) (l : LeaseRun) : Nat := l.lastMsg.getD (s.ring.listenEnd * 5 / 2)

/-- ROLE_VACANT_TIMEOUT: 125 ms without a valid message; an eligible hub claims, but not in the safe state (R470),
nor while no pair is ACTIVE (R419). -/
def onVacant (r : Role) (s : State) : State :=
  let t := toInstant (2 * (silentSince s (leaseOf s r) + 125000000)) s
  let l := leaseOf t r
  if t.ring.state = .joined ∧ eligible t r = true ∧ l.held = false ∧ t.safety.safe = false ∧ pairActive t = true then
    let u := putLease r { l with holder := none, claiming := true, acks := [], sentAt := nowNs t } t
    traceLease r 0 63 (l.term + 1) (sendControl 24 none (.lease (.claim r t.live.ring.hubId (l.term + 1) (rolePri t r) (nowNs t)))
      (collectClaim r (rolePri t r) t.live.ring.hubId (l.term + 1) (nowNs t) u))
  else t

def execRoleVacantTimeout (role : Role) (s : State) : Host.Outcome State Fault Refusal := .next (onVacant role s)

/-- The claim to acknowledge: highest priority, then lowest hub. -/
def bestClaim (cs : List (Nat × Nat × Nat × Nat)) : Option (Nat × Nat × Nat × Nat) :=
  cs.foldl (fun best c => match best with
    | none => some c
    | some b => if b.1 < c.1 ∨ (b.1 = c.1 ∧ c.2.1 < b.2.1) then some c else some b) none

/-- CLAIM_WINDOW_END: the best claimant is acknowledged, unless a promise binds this hub to another. -/
def onClaimEnd (r : Role) (s : State) : State :=
  match (leaseOf s r).claimEnd with
  | none => s
  | some e =>
    let t := toInstant (2 * e) s
    let l := leaseOf t r
    let u := putLease r { l with claims := [], claimEnd := none } t
    match bestClaim (l.claims.filter (fun c => decide (l.term ≤ c.2.2.1))) with
    | none => u
    | some c => if promised l c.2.1 (nowNs t) || !pairActive u then u else acknowledge r c.2.1 c.2.2.1 c.2.2.2 false u

def execClaimWindowEnd (role : Role) (s : State) : Host.Outcome State Fault Refusal := .next (onClaimEnd role s)

/-- The holder may send RENEW: not in the safe state, nor while no pair is ACTIVE (R419, R470). -/
def mayRenew (r : Role) (s : State) : Bool :=
  (leaseOf s r).held && !s.safety.safe && pairActive s && decide (s.ring.state = .joined)

/-- RENEW goes out now, and the holder acknowledges its own (R333). -/
def sendRenew (r : Role) (s : State) : State :=
  let l := leaseOf s r
  let t := traceLease r 1 63 l.term (sendControl 24 none (.lease (.renew r s.live.ring.hubId l.term (nowNs s)))
    (putLease r { l with acks := [], sentAt := nowNs s } s))
  if onRoster t && !promised l t.live.ring.hubId (nowNs t) then acknowledge r t.live.ring.hubId l.term (nowNs s) true t else t

/-- LEASE_RENEW_TX: the holder sends RENEW every 25 ms (R333). -/
def onRenew (r : Role) (s : State) : State :=
  if mayRenew r s then sendRenew r (toInstant (2 * ((leaseOf s r).sentAt + 25000000)) s) else s

def execLeaseRenewTx (role : Role) (s : State) : Host.Outcome State Fault Refusal := .next (onRenew role s)

/-- LEASE_EXPIRY: 100 ms after the last RENEW that Q hubs acknowledged, the role ends. -/
def onLeaseExpiry (r : Role) (s : State) : State :=
  if (leaseOf s r).held then loseRole r (toInstant (2 * (leaseOf s r).expires) s) else s

def execLeaseExpiry (role : Role) (s : State) : Host.Outcome State Fault Refusal := .next (onLeaseExpiry role s)

/-! ### Beacons and the topology table (R335, R339, R343) -/

/-- The topology entry of a hub. -/
def topoAt (s : State) (h : Nat) : TopoEntry := tget topoEntry0 s.ring.topo h

/-- CRC-32C of the roster, as the 8-byte mask of ROSTER_SET (R397). -/
def rosterCrc (s : State) : Nat := (crc32c (leBytes 8 (maskOf s.live.roster))).toNat

/-- What this hub's beacon carries. -/
def ownBeacon (s : State) : Beacon :=
  { hub := s.live.ring.hubId, joining := decide (s.ring.state = .listen), hops := 0, version := s.boot.jorvaHi, rate := b2n s.live.ring.rate10G
    etherType := s.live.ring.etherType, reserve := s.live.ring.reserve, rosterCrc := rosterCrc s, gateway := s.ring.gateway.held
    arbiter := s.ring.arbiter.held, master := s.time.master, gatewayTerm := s.ring.gateway.term, arbiterTerm := s.ring.arbiter.term
    rho := sumOf (fun e => e.2.1) s.ring.grants, sigma := sumOf (fun e => e.2.2) s.ring.grants }

/-- BEACON_TX: every 25 ms once joined, and marked JOINING while the hub listens (R335, R338); none while no pair is ACTIVE (R419). -/
def onBeaconTx (s : State) : State :=
  if pairActive s = true ∧ (s.ring.state = .joined ∨ s.ring.state = .listen) then
    let t := toCclk s.ring.beaconDue s
    sendControl 64 none (.beacon (ownBeacon t)) { t with ring.beaconDue := t.time.cclk + 10000000 }
  else s

def execBeaconTx (s : State) : Host.Outcome State Fault Refusal := .next (onBeaconTx s)

/-- A role's holder as a beacon tells it. -/
def beaconRole (r : Role) (holds : Bool) (hub term : Nat) (s : State) : State :=
  let l := leaseOf s r
  if holds ∧ l.term ≤ term ∧ l.holder ≠ some hub ∧ l.held = false then
    roleEvent r hub term (putLease r { l with holder := some hub, term := term } s)
  else if l.term < term then putLease r { l with term := term } s else s

/-- Roles that no present hub holds, of those a split has taken: bit 0 the gateway, bit 1 the time master (R343). -/
def splitMask (s : State) (gateway master : Bool) : Nat :=
  b2n (gateway && !s.ring.gateway.held && !s.ring.topo.any (fun e => e.2.present && e.2.gateway)) +
    2 * b2n (master && !s.time.master && !s.ring.topo.any (fun e => e.2.present && e.2.master))

/-- The RING_SPLIT alarm follows the mask. -/
def setSplit (mask : Nat) (s : State) : State :=
  if mask = s.ring.splitAlarm then s
  else
    let t := { s with ring.splitAlarm := mask }
    if mask = 0 then endAlarm 0x0506 0 [0] t else raiseAlarm 0x0506 0 [BitVec.ofNat 8 mask] t

/-- BEACON_RX (R335, R339). -/
def onBeacon (p : Port) (b : Beacon) (s : State) : State :=
  if s.ring.state ≠ .joined ∧ s.ring.state ≠ .listen then s
  else
    let old := topoAt s b.hub
    let new := { old with
      present := true, hopsA := if p = .a then b.hops else old.hopsA, hopsB := if p = .b then b.hops else old.hopsB
      version := b.version, lastStamp := nowStamp s, lastAt := s.time.cclk, gateway := b.gateway, arbiter := b.arbiter
      master := b.master, rate := b.rate, etherType := b.etherType, reserve := b.reserve, rosterCrc := b.rosterCrc, rho := b.rho
      sigma := b.sigma, joining := b.joining, left := false }
    if b.hub = s.live.ring.hubId ∧ s.ring.state = .joined then s
    else
      let t := { s with ring.topo := tput topoEntry0 s.ring.topo b.hub new }
      let u := if old.present then t else event 0x0502 b.hub [1] t
      let v := beaconRole .arbiter b.arbiter b.hub b.arbiterTerm (beaconRole .gateway b.gateway b.hub b.gatewayTerm u)
      let w := ledgerBeacon b v
      setSplit (splitMask w (bitOf w.ring.splitAlarm 0) (bitOf w.ring.splitAlarm 1)) w

def execBeaconRx (port : Port) (msg : Beacon) (s : State) : Host.Outcome State Fault Refusal := .next (onBeacon port msg s)

/-- A hub leaves the topology table: the event and the split alarm; the credit it granted is gone with it. -/
def hubGone (hub : Nat) (left : Bool) (s : State) : State :=
  let e := topoAt s hub
  let t := event 0x0502 hub [0] { s with
    ring.topo := tmod topoEntry0 s.ring.topo hub (fun e => { e with present := false, left := left })
    ring.creditors := s.ring.creditors.filter (fun h => decide (h ≠ hub)) }
  ledgerCheck (setSplit (splitMask t (e.gateway || bitOf t.ring.splitAlarm 0) (e.master || bitOf t.ring.splitAlarm 1)) t)

/-- Ring hold of the streams whose every subscriber has been absent for 75 ms (R328). -/
def enterHolds (s : State) : State := (openStreams s).foldl (fun u n => enterHold n u) s

/-- HUB_ABSENT_TIMEOUT: no beacon for 75 ms; a hub that has sent LEAVE is not in the table any more, but its streams' hold waits for the 75 ms
(R328, R335, R341). -/
def onHubAbsent (hub : Nat) (s : State) : State :=
  let e := topoAt s hub
  let t := toCclk (e.lastAt + 30000000) s
  if e.present then enterHolds (hubGone hub false t)
  else if e.left then enterHolds { t with ring.topo := tmod topoEntry0 s.ring.topo hub (fun e => { e with left := false }) }
  else s

def execHubAbsentTimeout (hub : Nat) (s : State) : Host.Outcome State Fault Refusal := .next (onHubAbsent hub s)

/-! ### Links, joining and leaving (R338 to R343) -/

/-- The hub starts to listen for 200 ms, with an empty topology table (R338). -/
def startListen (h : Option CmdHdr) (s : State) : State :=
  endAlarm 0x0504 0 [] (setJoin .listen { s with ring.joinHdr := h, ring.listenEnd := s.time.cclk + 80000000, ring.topo := []
                                                 ring.refusedBy := none })

/-- LINK_UP: the first link takes the hub from DOWN to PASS (R338), and on with AUTO_JOIN (R406). -/
def onLinkUp (p : Port) (s : State) : State :=
  if linkOf s p then s
  else
    let t := match p with | .a => { s with ring.linkA := true } | .b => { s with ring.linkB := true }
    let u := event 0x0501 (portNo p) [1] t
    if u.ring.state = .down then
      (if u.ring.autoJoin then startListen none { setJoin .pass u with ring.autoJoin := false } else setJoin .pass u)
    else u

def execLinkUp (port : Port) (s : State) : Host.Outcome State Fault Refusal := .next (onLinkUp port s)

/-- A JOIN under way ends unanswered by the ring: it completes REFUSED_STATE, not joined. -/
def dropJoin (s : State) : State :=
  match s.ring.joinHdr with
  | none => s
  | some h => finish h 0x0804 (refusedState 4 0) { s with ring.joinHdr := none }

/-- A LEAVE under way finds the ring gone: REFUSED_STATE, not joined. -/
def dropLeave (s : State) : State :=
  s.ring.leaving.foldl (fun t h => finish h 0x0805 (refusedState 4 0) t) { s with ring.leaving := [] }

/-- Records handed to the egress that had not left are the stream's again as the last link goes down: none of them is delivered (R30, R325). -/
def takeBack (s : State) : State :=
  (openStreams s).foldl (fun t n =>
    let c := streamAt t n
    if c.ring then putStream n { c with ringNext := c.ringPoint } t else t) { s with ring.retrieval := s.ring.retrieval.filter (fun q => decide (q.1 < 64)) }

/-- LINK_DOWN: frames waiting at the port are lost in that copy; loss of both links takes the hub DOWN (R338, R342). -/
def onLinkDown (p : Port) (s : State) : State :=
  if !linkOf s p then s
  else
    let last := !(linkOf s (otherPort p))
    let k := if last then takeBack s else s
    let t := match p with
      | .a => { k with ring.linkA := false, ring.egressA := [] }
      | .b => { k with ring.linkB := false, ring.egressB := [] }
    let u := event 0x0501 (portNo p) [0] t
    if last then dropLeave (dropJoin (setJoin .down u)) else leaveWhenSent ((openStreams u).foldl (fun v n => settleRing n v) u)

def execLinkDown (port : Port) (s : State) : Host.Outcome State Fault Refusal := .next (onLinkDown port s)

/-- JOIN (R338): from PASS, and again from REFUSED. -/
def execJoin (h : CmdHdr) (s : State) : Host.Outcome State Fault Refusal :=
  .next (runCommand h 0x0804
    (fun t => match t.ring.state with
      | .pass | .refused => none
      | .down => some (refusedState 4 0)
      | .listen | .joined => some (refusedState 3 0))
    (startListen (some h)) s)

/-- The cause for which a hub refuses to join, and the hub whose beacon decided: 1 ID_CONFLICT, 2 VERSION, 3 CONFIG (R339). -/
def joinCause (s : State) : Option (Nat × Nat) :=
  let here := s.ring.topo.filter (fun e => e.2.present)
  let r := s.live.ring
  match here.find? (fun e => decide (e.1 = r.hubId)) with
  | some e => some (1, e.1)
  | none =>
    match here.find? (fun e => decide (e.2.version + 1 < s.boot.jorvaHi ∨ s.boot.jorvaHi + 1 < e.2.version)) with
    | some e => some (2, e.1)
    | none =>
      (here.find? (fun e => decide (e.2.rate ≠ b2n r.rate10G ∨ e.2.etherType ≠ r.etherType ∨ e.2.reserve ≠ r.reserve ∨
        e.2.rosterCrc ≠ rosterCrc s))).map (fun e => (3, e.1))

/-- Records that closed while the hub was not JOINED go out as the hub joins: the stream catches up as after ring hold (DEDUCED, log 89). -/
def holdUndelivered (s : State) : State :=
  (openStreams s).foldl (fun t n =>
    let c := streamAt t n
    if c.ring && !c.hold && decide (c.ringNext < c.nextSeq) then putStream n { c with hold := true, holders := [] } t else t) s

/-- JOIN_LISTEN_END: after 200 ms the hub joins, or refuses with an alarm and its cause (R339). -/
def onListenEnd (s : State) : State :=
  if s.ring.state ≠ .listen then s
  else
    let t := toCclk s.ring.listenEnd s
    match joinCause t with
    | some (cause, hub) =>
      let u := raiseAlarm 0x0504 0 [BitVec.ofNat 8 cause, BitVec.ofNat 8 hub]
        (setJoin .refused { t with ring.refusedBy := some (cause, hub), ring.joinHdr := none })
      (match t.ring.joinHdr with | none => u | some h => finish h 0x0804 (refusedState 12 cause) u)
    | none =>
      let u := holdUndelivered (setJoin .joined { t with ring.joinHdr := none })
      (match t.ring.joinHdr with | none => u | some h => finish h 0x0804 okReply u)

def execJoinListenEnd (s : State) : Host.Outcome State Fault Refusal := .next (onListenEnd s)

/-- LEAVE (R341): the leases are released at once; the records of the ring streams that have closed go first. -/
def doLeave (h : CmdHdr) (s : State) : State :=
  let t := loseRole .arbiter (loseRole .gateway s)
  leaveWhenSent { t with ring.leaving := t.ring.leaving ++ [h] }

def execLeave (h : CmdHdr) (s : State) : Host.Outcome State Fault Refusal :=
  .next (runCommand h 0x0805 (fun t => if t.ring.state = .joined then none else some (refusedState 4 0)) (doLeave h) s)

/-- LEAVE_MSG_RX: the hub has left; its leases are free, its budget and its credit return (R341). -/
def onLeaveMsg (hub : Nat) (s : State) : State :=
  if s.ring.state ≠ .joined then s
  else
    let free (l : LeaseRun) : LeaseRun := if l.holder = some hub ∧ l.held = false then { l with holder := none } else l
    let t := { s with ring.gateway := free s.ring.gateway, ring.arbiter := free s.ring.arbiter
                      ring.ledger := s.ring.ledger.filter (fun e => decide (e.1 ≠ hub)), ring.credit := tdrop s.ring.credit hub
                      ring.granted := tdrop s.ring.granted hub, ring.budgetQ := s.ring.budgetQ.filter (fun q => decide (q.1 ≠ hub)) }
    if (topoAt t hub).present then hubGone hub true t else t

def execLeaveMsgRx (hub : Nat) (s : State) : Host.Outcome State Fault Refusal := .next (onLeaveMsg hub s)

/-! ### Forwarded commands (R336, R405) -/

/-- COMMAND_FRAME_RX: a repeated TAG gets its stored completion; a new command is handed to Clesin, whose own step carries it out
(R336, R404). While no pair is ACTIVE nobody takes it, and the gateway sends it again (DEDUCED, log 78). -/
def onCommandFrame (gateway term opcode : Nat) (h : CmdHdr) (s : State) : State :=
  if s.ring.state ≠ .joined ∨ pairActive s = false then s
  else
    match s.ring.tags.find? (fun e => decide (e.1 = gateway) && decide (e.2.1 = term) && decide (e.2.2.1 = h.tag)) with
    | some e => sendControl (32 + e.2.2.2.data.length) (some gateway) (.completion gateway { remoteOf e.2.2.2 with repeated := true }) s
    | none =>
      if s.ring.running.contains (gateway, term, h.tag) then s
      else traceCommand h.cmdRing opcode 0 0 h.tag 0
        { s with ring.running := s.ring.running ++ [(gateway, term, h.tag)]
                 host.handed := s.host.handed ++ [{ ring := h.cmdRing, descIdx := h.descIdx, tag := h.tag, opcode := opcode, idem := h.idem
                                                    cplRing := h.cplRing, gateway := some gateway, since := s.time.cclk, reexec := false }] }

def execCommandFrameRx (gateway term opcode : Nat) (hdr : CmdHdr) (s : State) : Host.Outcome State Fault Refusal :=
  .next (onCommandFrame gateway term opcode hdr s)

/-- The command outstanding to a hub under a tag. -/
def outstanding (s : State) (hub tag : Nat) : Option Forwarded :=
  s.ring.forwarded.find? (fun f => decide (f.hub = hub) && decide (f.hdr.tag = tag))

/-- COMPLETION_FRAME_RX: the gateway returns the completion (R336). -/
def onCompletionFrame (c : RemoteCompletion) (s : State) : State :=
  match outstanding s c.hub c.tag with
  | none => s
  | some f => if s.ring.gateway.held then answerForwarded f c s else s

def execCompletionFrameRx (c : RemoteCompletion) (s : State) : Host.Outcome State Fault Refusal := .next (onCompletionFrame c s)

/-- The class or fixed part of an opcode's worst-case bound in CCLK (R395 to R398, R493). -/
def opcodeBound (s : State) (op : Nat) : Nat :=
  let p := 2 * s.live.period / 5
  if bitOf op 7 then 800000
  else if [0x0001, 0x0002, 0x0005, 0x0006, 0x020A, 0x0302, 0x0404, 0x0405, 0x0406, 0x0507, 0x0701, 0x0702, 0x0801, 0x0802, 0x0803, 0x0806,
    0x0902, 0x0903, 0x0904, 0x0B02, 0x0B03, 0x0C03, 0x0D05].contains op then 800000
  else if op = 0x0401 then 60000000 + 2 * p
  else if op = 0x0604 then 4800000 + 2 * p
  else if op = 0x0303 then 2000000 + 65 * p
  else if op = 0x0804 ∨ op = 0x0805 then 100000000
  else if op = 0x0C01 then 400000000
  else if op = 0x0C02 ∨ op = 0x0D01 ∨ op = 0x0D04 then 40000000
  else if op = 0x0301 then 184000000 + 2 * p
  else if op = 0x0D02 then 4000000
  else if op = 0x0D03 then 480000000
  else if op = 0x020D then 48000000 + 3 * p
  else if op = 0x020E then 152000000 + 6 * p
  else if op = 0x0901 then 8000000
  else 2000000 + 2 * p

/-- CCLK until a TARGET in a descriptor, where its HAS_TARGET is set; none for one that has passed (R390). -/
def targetWait (s : State) (d : List Byte) (has : Nat) : Nat :=
  if fieldAt d has 1 = 1 then
    let ahead := (fieldAt d (has + 1) 4 + 4294967296 - nowStamp s) % 4294967296
    if ahead < 2147483648 then 2 * ahead / 5 else 0
  else 0

/-- What a command's own parameters add to its bound: its TARGET, a lane test's duration, the dies of a CAL_SELF that go one at a time, the
KiB of an UPD_WRITE and the front-end dies of an UPD_COMMIT; and its input data beyond the burst of R321 (R395, R396, R397, R493). What
only the remote hub knows is not in it (DEDUCED, log 48). -/
def paramBound (s : State) (op : Nat) (d : List Byte) : Nat :=
  (if op = 0x0003 then targetWait s d 28 else if op = 0x020B then targetWait s d 30
   else if op = 0x0901 then 400000000 * fieldAt d 33 2 + targetWait s d 35
   else if op = 0x0301 then 184000000 * ((if bitOf (fieldAt d 3 1) 3 then 1 else (bitsOf 4 (fieldAt d 28 1)).length) - 1)
   else if op = 0x0D02 then 400000 * ceilDiv (fieldAt d 12 4) 1024
   else if op = 0x0D03 then 160000000
   else 0) +
  (if takesData op then controlByte s * (64 + fieldAt d 12 4 - 16384) else 0)

/-- The worst-case bound of a command in CCLK (R395). -/
def boundCclk (s : State) (op : Nat) (d : List Byte) : Nat := opcodeBound s op + paramBound s op d

/-- A forwarded command goes out as a COMMAND frame (R336). -/
def sendCommand (f : Forwarded) (s : State) : State :=
  sendControl (64 + f.data.length) (some f.hub) (.command f.hub f.opcode f.hdr.tag f.desc f.data) s

/-- FORWARD_RETRY_TIMEOUT: 200 ms beyond the bound without an answer; the command is resent once, and then completes TIMEOUT (R336). -/
def onForwardRetry (hub tag : Nat) (s : State) : State :=
  match outstanding s hub tag with
  | none => s
  | some f =>
    let t := toCclk (f.at_ + 80000000 + f.bound) s
    let entry (n : Nat) : List Byte := leBytes 2 f.opcode ++ [BitVec.ofNat 8 hub, BitVec.ofNat 8 n, 0, 0] ++ leBytes 4 tag ++ List.replicate 12 0
    if f.resent then forwardTimedOut f (logEntry 0x0202 (entry 1) t)
    else logEntry 0x0202 (entry 0) (sendCommand f
      { t with ring.forwarded := t.ring.forwarded.map (fun e => if e = f then { f with resent := true, at_ := t.time.cclk } else e) })

def execForwardRetryTimeout (hub tag : Nat) (s : State) : Host.Outcome State Fault Refusal := .next (onForwardRetry hub tag s)

/-! ### Ring settings (R311 to R313, R322, R333, R397) -/

/-- Ring port settings, the roster and the like change only while the hub is in neither LISTEN nor JOINED. -/
def notOnRing (s : State) : Option Reply := if s.ring.state = .listen ∨ s.ring.state = .joined then some (refusedState 3 0) else none

def execRingPortSetTwin (h : CmdHdr) (s : State) : Host.Outcome State Fault Refusal :=
  .next (readCommand h 0x0881 7 (fun _ => none)
    (fun t => let r := t.cfg.ring
      leBytes 1 r.hubId ++ leBytes 1 (b2n r.rate10G) ++ leBytes 1 (b2n r.fecA) ++ leBytes 1 (b2n r.fecB) ++ leBytes 2 r.etherType ++
        leBytes 1 (r.reserve / 64)) s)

/-- ROSTER_SET. -/
def execRosterSet (h : CmdHdr) (hubs : List Nat) (s : State) : Host.Outcome State Fault Refusal :=
  .next (runCommand h 0x0802 notOnRing (fun t => finish h 0x0802 okReply (setBoth (fun c => { c with roster := hubs }) t)) s)

def execRosterSetTwin (h : CmdHdr) (s : State) : Host.Outcome State Fault Refusal :=
  .next (readCommand h 0x0882 8 (fun _ => none) (fun t => leBytes 8 (maskOf t.cfg.roster)) s)

/-- ROLE_SET. -/
def execRoleSet (h : CmdHdr) (gwElig gwPri arbElig arbPri : Nat) (s : State) : Host.Outcome State Fault Refusal :=
  .next (runCommand h 0x0803 (fun _ => firstBad [(28, decide (1 < gwElig)), (30, decide (1 < arbElig))])
    (fun t => finish h 0x0803 okReply (setBoth (fun c => { c with roles :=
      { gwElig := decide (gwElig = 1), gwPri := gwPri, arbElig := decide (arbElig = 1), arbPri := arbPri } }) t)) s)

def execRoleSetTwin (h : CmdHdr) (s : State) : Host.Outcome State Fault Refusal :=
  .next (readCommand h 0x0883 4 (fun _ => none)
    (fun t => let r := t.cfg.roles
      leBytes 1 (b2n r.gwElig) ++ leBytes 1 r.gwPri ++ leBytes 1 (b2n r.arbElig) ++ leBytes 1 r.arbPri) s)

/-- The 8 bytes of one hub in TOPOLOGY_READ; this hub's own stand for itself, present once joined (DESIGN CHOICE, log 27). -/
def topoBytes (s : State) (h : Nat) : List Byte :=
  if h = s.live.ring.hubId then
    leBytes 1 (b2n (decide (s.ring.state = .joined)) + 2 * b2n s.ring.gateway.held + 4 * b2n s.ring.arbiter.held + 8 * b2n s.time.master) ++
      [0, 0, 4] ++ leBytes 4 0
  else
    let e := topoAt s h
    leBytes 1 (b2n e.present + 2 * b2n e.gateway + 4 * b2n e.arbiter + 8 * b2n e.master) ++ leBytes 1 e.hopsA ++ leBytes 1 e.hopsB ++
      leBytes 1 e.version ++ leBytes 4 e.lastStamp

/-- TOPOLOGY_READ. -/
def execTopologyRead (h : CmdHdr) (s : State) : Host.Outcome State Fault Refusal :=
  .next (readCommand h 0x0806 512 (fun _ => none) (fun t => ((List.range 64).map (topoBytes t)).flatten) s)

end Sys2Proof.Machine
end

