-- ==== Sys2Proof/Machine/Lanes.lean ====
section
/-! DEFINITION. The serial lanes: stages, eye scans, adaptation and the PRBS tests of the ring lanes (13, R345 to R362). -/

namespace Sys2Proof.Machine

/-- Lane states of LANE_STATUS (R362). -/
def lnPll : Nat := 1
def lnCdr : Nat := 2
def lnAdapt : Nat := 3
def lnAlign : Nat := 4
def lnFec : Nat := 5
def lnUp : Nat := 6
def lnTest : Nat := 7
def lnTrain : Nat := 8
def lnFault : Nat := 15

/-- Lane `n`. -/
def laneAt (s : State) (n : Nat) : Lane := tget lane0 s.lanes n

/-- Put a lane. -/
def putLane (n : Nat) (l : Lane) (s : State) : State := { s with lanes := tput lane0 s.lanes n l }

/-- Lanes 4 and 5 are the ring lanes of ports A and B (R345). -/
def ringLane (n : Nat) : Bool := decide (n = 4 ∨ n = 5)
def lanePortOf (n : Nat) : Port := if n = 4 then .a else .b

/-- RS-FEC is on: set for the port, and used at 25G (R311). -/
def fecSet (s : State) (n : Nat) : Bool := !s.live.ring.rate10G && (if n = 4 then s.live.ring.fecA else s.live.ring.fecB)

/-- Enter a stage. -/
def enterStage (n state : Nat) (s : State) : State := putLane n { laneAt s n with state := state, entered := s.time.cclk } s

/-- A lane leaves UP, or starts again: alignment, polarity and a freeze end with it, and a ring port's link is down (R348, R350, R352). -/
def leaveUp (n state : Nat) (s : State) : State :=
  let l := laneAt s n
  let t := putLane n { l with state := state, entered := s.time.cclk, aligned := false, slip := 0, polInv := false, frozen := false
                              downSeen := l.downSeen || decide (l.state = lnUp) } s
  if l.state = lnUp then
    (if ringLane n then onLinkDown (lanePortOf n) (setSource (161 + 4 * n) t) else setSource (161 + 4 * n) t)
  else t

/-- A ring lane is UP, and its port's link with it (R338, R346, R350). -/
def comeUp (n : Nat) (l : Lane) (s : State) : State :=
  onLinkUp (lanePortOf n) (putLane n { l with state := lnUp, entered := s.time.cclk } s)

/-- LANE_STAGE_ADVANCE: the stage's condition is met (R346 to R348). -/
def onStageAdvance (n : Nat) (a : LaneAlign) (s : State) : State :=
  let l := laneAt s n
  if !ringLane n then s
  else if l.state = lnPll then
    putLane n { l with state := lnCdr, entered := s.time.cclk, rate := if s.live.ring.rate10G then 5 else 6, fecOn := fecSet s n } s
  else if l.state = lnCdr then putLane n { l with state := lnAdapt, entered := s.time.cclk, noSignal := false } s
  else if l.state = lnAdapt then enterStage n lnAlign s
  else if l.state = lnAlign then
    let k : Lane := { l with aligned := true, slip := min a.slip 65, polInv := a.inverted, fault := 0 }
    if l.fecOn then putLane n { k with state := lnFec, entered := s.time.cclk } s else comeUp n k s
  else if l.state = lnFec then comeUp n l s
  else s

def execLaneStageAdvance (lane : Nat) (align : LaneAlign) (s : State) : Host.Outcome State Fault Refusal :=
  .next (onStageAdvance lane align s)

/-- A stage's bound in CCLK and its fault cause (R346, R362); ADAPT has no code of its own (DEDUCED, log 28). -/
def stageBound (state : Nat) : Option (Nat × Nat) :=
  if state = lnPll then some (200000, 1) else if state = lnCdr then some (20000, 3) else if state = lnAdapt then some (4000000, 6)
  else if state = lnAlign then some (400000, 4) else if state = lnFec then some (400000, 5) else none

/-- The cause of a lane's fault: at CDR after a loss of signal, no signal (R362; DEDUCED, log 28). -/
def faultCause (l : Lane) (cause : Nat) : Nat := if l.state = lnCdr ∧ l.noSignal = true then 2 else cause

/-- LANE_STAGE_TIMEOUT: the stage exceeds its bound (R346). -/
def onStageTimeout (n : Nat) (s : State) : State :=
  let l := laneAt s n
  match ringLane n, stageBound l.state with
  | true, some (bound, cause) =>
    let t := toCclk (l.entered + bound) s
    setSource (162 + 4 * n) (putLane n { l with state := lnFault, fault := faultCause l cause, entered := t.time.cclk, aligned := false } t)
  | _, _ => s

def execLaneStageTimeout (lane : Nat) (s : State) : Host.Outcome State Fault Refusal := .next (onStageTimeout lane s)

/-- LANE_FAULT_RETRY: from PLL again after 10 ms (R346). -/
def onFaultRetry (n : Nat) (s : State) : State :=
  let l := laneAt s n
  if l.state = lnFault then
    let t := toCclk (l.entered + 4000000) s
    putLane n { l with state := lnPll, fault := 0, entered := t.time.cclk } t
  else s

def execLaneFaultRetry (lane : Nat) (s : State) : Host.Outcome State Fault Refusal := .next (onFaultRetry lane s)

/-! ### PRBS tests (R355 to R360) -/

/-- A 48-bit counter that saturates. -/
def cap48 (n : Nat) : Nat := min n 281474976710655

/-- The counters take totals, and note saturation (R356). -/
def setCounters (bits errors : Nat) (l : Lane) : Lane :=
  { l with bits := cap48 bits, err := cap48 errors, sat := l.sat || decide (281474976710655 < bits) || decide (281474976710655 < errors) }

/-- LANE_TEST_START: generator and checker start, the counters clear, the port counts as a broken link (R342, R356, R358). -/
def startTest (n : Nat) (s : State) : State :=
  match (laneAt s n).test with
  | none => s
  | some x =>
    let t := leaveUp n lnTest s
    onLinkDown (lanePortOf n)
      (putLane n { laneAt t n with gen := x.gen, chk := x.chk, pattern := x.pattern, injK := x.injK, err := 0, bits := 0, injected := 0
                                   sat := false, lockLost := false, chkLock := false
                                   test := some { x with startAt := none, endAt := t.time.cclk + 400000000 * x.duration } } t)

/-- A test ends: the lane returns to ADAPT, and the command completes with the counters (R358). -/
def endTest (n status : Nat) (s : State) : State :=
  let l := laneAt s n
  match l.test with
  | none => s
  | some x =>
    setSource (163 + 4 * n) (finish x.hdr 0x0901 { status := status, result := [], data := leBytes 8 l.bits ++ leBytes 8 l.err }
      (putLane n { l with state := if l.state = lnTest then lnAdapt else l.state, entered := s.time.cclk, gen := false, chk := false
                          chkLock := false, pattern := 0, injK := 0, test := none } s))

/-- The taps of a pattern x^a + x^b + 1: a bit is the sum of those a and b before it (R355). -/
def prbsTaps (pattern : Nat) : Nat × Nat :=
  if pattern = 1 then (7, 6) else if pattern = 2 then (9, 5) else if pattern = 3 then (15, 14) else if pattern = 4 then (23, 18) else (31, 28)

/-- Bit `i` of what a checker receives. -/
def prbsBit (bs : List Bool) (i : Nat) : Bool := (bs[i]?).getD false

/-- Bits without an error: each after the first `a`, which seed the checker, is the one the pattern gives, and they are not all 0 (R356; that the
seed counts among the 128 is DEDUCED, log 50). -/
def errorFree (pattern : Nat) (bs : List Bool) : Bool :=
  let t := prbsTaps pattern
  bs.any (fun b => b) &&
    (List.range bs.length).all (fun i => decide (i < t.1) || (prbsBit bs i == (prbsBit bs (i - t.1) != prbsBit bs (i - t.2))))

/-- The checker has received 128 consecutive error-free bits (R356). -/
def checkerLocks (pattern : Nat) (bs : List Bool) : Bool :=
  decide (128 ≤ bs.length) && errorFree pattern (bs.drop (bs.length - 128))

/-- PRBS_CHECKER_LOCK (R356). -/
def onCheckerLock (r : PrbsBits) (s : State) : State :=
  let l := laneAt s r.lane
  if l.state = lnTest ∧ l.chk = true ∧ checkerLocks l.pattern r.bits = true then putLane r.lane { l with chkLock := true } s else s

def execPrbsCheckerLock (received : PrbsBits) (s : State) : Host.Outcome State Fault Refusal := .next (onCheckerLock received s)

/-- PRBS_LOCK_LOST: after 256 errors or more LOCK_LOST sets, and the counters stand at the totals up to the loss (R356). -/
def onPrbsLost (n bits errors : Nat) (s : State) : State :=
  let l := laneAt s n
  if l.state = lnTest ∧ l.chkLock = true ∧ l.err + 256 ≤ errors then putLane n { setCounters bits errors l with chkLock := false, lockLost := true } s else s

def execPrbsLockLost (lane bits errors : Nat) (s : State) : Host.Outcome State Fault Refusal := .next (onPrbsLost lane bits errors s)

/-- LANE_TEST_END: the duration is over; a locked checker has its final totals (R358). -/
def onTestEnd (n bits errors : Nat) (s : State) : State :=
  let l := laneAt s n
  match l.test with
  | none => s
  | some x =>
    if l.state = lnTest then
      let t := toCclk x.endAt s
      endTest n stOk (putLane n (if l.chkLock then setCounters bits errors l else l) t)
    else s

def execLaneTestEnd (lane bits errors : Nat) (s : State) : Host.Outcome State Fault Refusal := .next (onTestEnd lane bits errors s)

/-- The other ring lane. -/
def otherLane (n : Nat) : Nat := if n = 4 then 5 else 4

/-- On a joined hub a test ends at once when the other ring lane leaves UP (R360). -/
def cutTest (n : Nat) (s : State) : State :=
  if ringLane n ∧ s.ring.state = .joined ∧ (laneAt s (otherLane n)).state = lnTest then endTest (otherLane n) stTimeout s else s

/-- LANE_LOCK_LOSS: a lane in UP returns to an earlier stage; a PCIe lane trains again (R350, R351). -/
def onLockLoss (n : Nat) (loss : LaneLoss) (s : State) : State :=
  if (laneAt s n).state = lnUp then
    let back := if !ringLane n then lnTrain else match loss with
      | .blockLock => lnAlign
      | .signal | .cdr => lnCdr
      | .errorRate => lnAdapt
    let t := leaveUp n back (cutTest n s)
    if back = lnCdr then putLane n { laneAt t n with noSignal := decide (loss = .signal) } t else t
  else s

def execLaneLockLoss (lane : Nat) (loss : LaneLoss) (s : State) : Host.Outcome State Fault Refusal := .next (onLockLoss lane loss s)

/-! ### The eye (R353, R354) -/

/-- The figure of merit. -/
def eyeFom (width height : Nat) : Nat := min 255 (min (4 * width) (2 * height))

/-- CCLK between the scans of a lane in UP: 1 s, or 4 s on a PCIe lane (R353). -/
def scanCclk (n : Nat) : Nat := if ringLane n then 400000000 else 1600000000

/-- When the next scan of a lane is complete; the first counts from UP (DEDUCED, log 50). -/
def scanDue (n : Nat) (l : Lane) : Nat := max l.scanned l.entered + scanCclk n

/-- EYE_SCAN_COMPLETE: an event as the figure falls below 48, the alarm on the second scan running below 24, which ends at a scan of
24 or more. -/
def onEyeScan (n width height : Nat) (was : State) : State :=
  let l := laneAt was n
  if l.state = lnUp then
    let s := toCclk (scanDue n l) was
    let fom := eyeFom width height
    let first := decide (l.scanNo = 0 ∧ l.width = 0 ∧ l.height = 0)
    let falls := decide (fom < 48) && (first || decide (48 ≤ l.fom))
    let lows := if fom < 24 then l.lowScans + 1 else 0
    let t := putLane n { l with scanNo := (l.scanNo + 1) % 256, width := width % 256, height := height % 256, fom := fom
                                eyeLow := l.eyeLow || falls, scanned := s.time.cclk, lowScans := min 2 lows, eyeAlarm := decide (2 ≤ lows) } s
    let u := if falls then event 0x0601 n [BitVec.ofNat 8 fom] t else t
    if 2 ≤ lows then (if l.eyeAlarm then u else raiseAlarm 0x0601 n [BitVec.ofNat 8 fom] u)
    else if l.eyeAlarm then endAlarm 0x0601 n [BitVec.ofNat 8 fom] u else u
  else was

def execEyeScanComplete (lane width height : Nat) (s : State) : Host.Outcome State Fault Refusal := .next (onEyeScan lane width height s)

/-! ### PCIe training (R351) -/

/-- PCIE_LINK_TRAINED: the lanes used are UP at the link's rate; the others are powered down. -/
def onTrained (rate : Nat) (used : List Nat) (reversed : Bool) (inverted : List Nat) (s : State) : State :=
  (List.range 4).foldl (fun t n =>
    if used.contains n then
      putLane n { laneAt t n with state := lnUp, entered := t.time.cclk, rate := rate, reversed := reversed, aligned := true
                                  polInv := inverted.contains n } t
    else putLane n { lane0 with downSeen := (laneAt t n).downSeen, eyeLow := (laneAt t n).eyeLow } t) { s with host.linkUp := true }

def execPcieLinkTrained (rate : Nat) (lanes : List Nat) (reversed : Bool) (inverted : List Nat) (s : State) :
    Host.Outcome State Fault Refusal :=
  .next (if s.host.perst then onTrained rate lanes reversed inverted s else s)

/-! ### Lane commands (R352, R357, R358, R360) -/

/-- LANE_TEST: only ring lanes are tested. -/
def laneTestCheck (h : CmdHdr) (p : LaneTestP) (s : State) : Option Reply :=
  checks [firstBad [(12, decide (h.dataLen < 16)), (28, !ringLane p.lane), (29, decide (2 < p.role)),
      (30, decide (p.pattern < 1 ∨ 5 < p.pattern)), (31, decide (1 < p.inj)), (32, decide (p.inj = 1) && decide (p.injK < 10 ∨ 40 < p.injK)),
      (33, decide (p.duration < 1 ∨ 3600 < p.duration)), (35, decide (1 < p.hasTarget))],
    targetCheck 36 p.hasTarget p.target s,
    if (laneAt s p.lane).test.isSome then some (busy 4 p.lane) else none,
    if s.ring.state = .joined ∧ (laneAt s (otherLane p.lane)).state ≠ lnUp then some (refusedState 3 0) else none]

def execLaneTest (h : CmdHdr) (p : LaneTestP) (s : State) : Host.Outcome State Fault Refusal :=
  .next (runCommand h 0x0901 (laneTestCheck h p)
    (fun t =>
      let x : LaneTest := { gen := decide (p.role ≠ 1), chk := decide (p.role ≠ 0), pattern := p.pattern
                            injK := if p.inj = 1 then p.injK else 0, duration := p.duration
                            startAt := if p.hasTarget = 1 then some (targetBoundary 1 p.target t) else none, endAt := 0, hdr := h }
      let u := putLane p.lane { laneAt t p.lane with test := some x } t
      if p.hasTarget = 1 then u else startTest p.lane u) s)

/-- LANE_INJECT: one transmitted bit is flipped at a running generator. -/
def execLaneInject (h : CmdHdr) (lane : Nat) (s : State) : Host.Outcome State Fault Refusal :=
  .next (runCommand h 0x0902 (fun _ => firstBad [(28, !ringLane lane)])
    (fun t => finish h 0x0902 okReply (if (laneAt t lane).gen then putLane lane { laneAt t lane with injected := (laneAt t lane).injected + 1 } t
                                       else t)) s)

/-- LANE_ADAPT: a freeze holds on a lane in UP. -/
def execLaneAdapt (h : CmdHdr) (lane freeze : Nat) (s : State) : Host.Outcome State Fault Refusal :=
  .next (runCommand h 0x0903 (fun _ => firstBad [(28, decide (5 < lane)), (29, decide (1 < freeze))])
    (fun t => finish h 0x0903 okReply
      (putLane lane { laneAt t lane with frozen := decide (freeze = 1) && decide ((laneAt t lane).state = lnUp) } t)) s)

/-- LANE_TX_SET. -/
def execLaneTxSet (h : CmdHdr) (lane : Nat) (pre main post : Int) (txInv : Nat) (s : State) : Host.Outcome State Fault Refusal :=
  .next (runCommand h 0x0904 (fun _ => firstBad [(28, !ringLane lane), (32, decide (1 < txInv))])
    (fun t => finish h 0x0904 okReply (setBoth (fun c => { c with
      laneTx := tput laneTx0 c.laneTx lane { pre := pre, main := main, post := post, inv := decide (txInv = 1) } }) t)) s)

def execLaneTxSetTwin (h : CmdHdr) (lane : Nat) (s : State) : Host.Outcome State Fault Refusal :=
  .next (readCommand h 0x0984 4 (fun _ => firstBad [(28, !ringLane lane)])
    (fun t => let x := tget laneTx0 t.cfg.laneTx lane
      leSigned 1 x.pre ++ leSigned 1 x.main ++ leSigned 1 x.post ++ leBytes 1 (b2n x.inv)) s)

/-- A ring lane that has come out of OFF starts again from PLL, at its configured rate. -/
def restartLane (n : Nat) (s : State) : State :=
  if (laneAt s n).state = 0 ∨ (laneAt s n).state = lnTest then s else onLinkDown (lanePortOf n) (leaveUp n lnPll s)

/-- The ring settings of a boundary: a ring lane whose rate or FEC setting has changed starts again (DEDUCED, log 28). -/
def ringChange (old : RingPortSet) (s : State) : State :=
  let was : State := { s with live.ring := old }
  [4, 5].foldl (fun t n => if old.rate10G ≠ s.live.ring.rate10G ∨ fecSet was n ≠ fecSet s n then restartLane n t else t) s

/-- RING_PORT_SET: at the next boundary (R23); rates in the order 25G, 10G; the reserve in steps of 64 KiB, 512 to 1,088 KiB. -/
def execRingPortSet (h : CmdHdr) (p : RingPortP) (s : State) : Host.Outcome State Fault Refusal :=
  .next (runCommand h 0x0801
    (fun t => orElseReply (firstBad [(28, decide (63 < p.hubId)), (29, decide (1 < p.rate)), (30, decide (1 < p.fecA)),
      (31, decide (1 < p.fecB)), (34, decide (p.streamReserve < 8 ∨ 17 < p.streamReserve))]) (notOnRing t))
    (fun t =>
      let new : RingPortSet := { hubId := p.hubId, rate10G := decide (p.rate = 1), fecA := decide (p.fecA = 1), fecB := decide (p.fecB = 1)
                                 etherType := p.etherType, reserve := 64 * p.streamReserve }
      finishAtBoundary h 0x0801 (accept (fun c => { c with ring := new }) t)) s)

/-- Lane tests due by boundary `b` (half ns) start; one that would cut a joined hub off the ring ends unstarted (R358, R360). -/
def laneBoundary (b : Nat) (s : State) : State :=
  [4, 5].foldl (fun t n =>
    match (laneAt t n).test with
    | some x => match x.startAt with
      | some at_ =>
        if b < at_ then t
        else if t.ring.state = .joined ∧ (laneAt t (otherLane n)).state ≠ lnUp then endTest n stTimeout t
        else startTest n t
      | none => t
    | none => t) s

end Sys2Proof.Machine
end

