-- ==== Sys2Proof/Machine/FieldPorts.lean ====
section
/-! DEFINITION. The field ports: poll cycles, attempts and their checks, values, partner health, and their commands (17, R427 to
R440). -/

namespace Sys2Proof.Machine

def fpAt (s : State) (p : Nat) : FpRun := tget fpRun0 s.loc.fp p
def putFp (p : Nat) (r : FpRun) (s : State) : State := { s with loc.fp := tput fpRun0 s.loc.fp p r }
def dirAt (c : Settings) (i : Nat) : DirEntry := tget dirEntry0 c.dir i

/-! ### Times (R429, R431, R435) -/

/-- One bit, and t3.5, in CCLK, by the position of the baud rate. -/
def fpBit (f : FpSet) : Nat := natAt [41667, 20833, 10417, 6944, 3472, 1736] f.baud
def fpSilence (f : FpSet) : Nat := if f.baud ≤ 1 then ceilDiv (77 * fpBit f) 2 else 700000

/-- Registers an entry moves. -/
def dirRegs (d : DirEntry) : Nat := if d.type ≤ 1 then 1 else 2

/-- Request length in characters. -/
def dirRequest (d : DirEntry) : Nat := if d.func = 0x10 then 9 + 2 * dirRegs d else 8

/-- CCLK from the rise of FP_DE to the last stop bit, and of a whole attempt. -/
def sendCclk (f : FpSet) (d : DirEntry) : Nat := fpBit f + 11 * fpBit f * dirRequest d
def attemptCclk (f : FpSet) (d : DirEntry) : Nat := sendCclk f d + 400000 * f.timeout + fpSilence f

/-- Slot length in half ns. -/
def fpSlotHalf (f : FpSet) : Nat := 2 * fpSlotNs f

/-- FP_DE of a port: high from the start of a request to the CCLK after its last stop bit (R427). -/
def fpDe (s : State) (p : Nat) : Bool := (fpAt s p).de && decide (s.time.half < (fpAt s p).reqEnd + 5)

/-! ### Values (R432) -/

/-- m × 2^e, rounded to nearest, halves away from zero (R157). -/
def scaleBy (m e : Int) : Int := if 0 ≤ e then m * 2 ^ e.toNat else roundDiv m (2 ^ (-e).toNat)

/-- Types whose value is two's complement. -/
def signedType (t : Nat) : Bool := decide (t = 1 ∨ 3 ≤ t)

/-- round(r × 2^E) of a register content; none for a NaN or an infinity. -/
def polledInt (d : DirEntry) (w : Nat) : Option Int :=
  if d.type = 4 then
    let ex := w / 8388608 % 256
    let m : Int := w % 8388608 + (if ex = 0 then 0 else 8388608)
    if ex = 255 then none
    else some (scaleBy (if bitOf w 31 then -m else m) ((max ex 1 : Nat) - 150 + d.scale))
  else if d.type = 1 then some (scaleBy (asSigned 16 w) d.scale)
  else if d.type = 3 then some (scaleBy (asSigned 32 w) d.scale)
  else some (scaleBy w d.scale)

/-- A value within its format (R432). -/
def polledClip (d : DirEntry) (v : Int) : Int := if signedType d.type then clip (-8388607) 8388607 v else clip 0 16777215 v

/-- The slot's result for register content `w`, read or written (R432, R436, R437). -/
def acceptedOut (s : State) (p i : Nat) (d : DirEntry) (w : Nat) : PollOut :=
  let r := fpAt s p
  let v := polledInt d w
  let x := polledClip d (v.getD 0)
  let overRange := decide (v ≠ none) && decide (x ≠ v.getD 0)
  { port := p, p := i, write := decide (d.func = 6 ∨ d.func = 16), retried := decide (1 < r.attempts), field := field24 x, signed := x
    tags := mkTag (v.isSome && !overRange) false false overRange false false false, inst := r.reqEnd / 2 - 1000 * d.age
    ready := r.slotStart + fpSlotHalf (fpOf s.live p), status := if v.isSome then 0 else 6, attempts := r.attempts, exc := 0 }

/-- The result of a slot without an accepted response (R436, R438). -/
def failedOut (s : State) (p i status : Nat) : PollOut :=
  let r := fpAt s p
  { port := p, p := i, write := decide ((dirAt s.live i).func = 6 ∨ (dirAt s.live i).func = 16), retried := decide (1 < r.attempts), field := 0
    signed := 0, tags := 0, inst := r.reqEnd / 2, ready := r.slotStart + fpSlotHalf (fpOf s.live p), status := status
    attempts := r.attempts, exc := if status = 5 then r.exc else 0 }

/-! ### Partner health (R440) -/

/-- A poll ended: consecutive failures are counted, FP_PARTNER_DOWN at DOWN_AFTER, FP_PARTNER_UP at the first OK after that. -/
def notePartner (o : PollOut) (s : State) : State :=
  let r := tget partnerRun0 s.loc.partners o.p
  let put (q : PartnerRun) (t : State) : State := { t with loc.partners := tput partnerRun0 t.loc.partners o.p q }
  let code := chanCode ⟨.polled, o.p⟩
  if o.status = 0 then
    let t := put partnerRun0 s
    if r.down then event 0x0802 code (leBytes 4 r.fails ++ leBytes 4 r.firstFail) t else t
  else
    let n := r.fails + 1
    let down := decide ((fpOf s.live o.port).downAfter ≤ n)
    let t := put { fails := n, down := down, firstFail := if r.fails = 0 then stampOf o.inst else r.firstFail, lastStatus := o.status
                   lastExc := o.exc } s
    if down && !r.down then event 0x0801 code ([BitVec.ofNat 8 o.status, BitVec.ofNat 8 o.exc, 0, 0] ++ leBytes 4 n) t else t

/-- An OK result ends FP_BUS_FAULT; BUS_BUSY and FRAME are counted towards it. -/
def noteBus (o : PollOut) (s : State) : State :=
  let r := fpAt s o.port
  if o.status = 0 then
    endAlarm 0x0803 o.port ([0, 0, 0, 0] ++ leBytes 4 r.badCycles) (putFp o.port { r with badCycles := 0 } s)
  else putFp o.port { r with busyN := r.busyN + b2n (decide (o.status = 7)), frameN := r.frameN + b2n (decide (o.status = 3)) } s

/-- At the end of a cycle: FP_BUS_FAULT where every slot ended with BUS_BUSY or FRAME. -/
def noteCycle (p : Nat) (s : State) : State :=
  let r := fpAt s p
  let t := putFp p { r with busyN := 0, frameN := 0 } s
  if r.entries.length ≤ r.busyN + r.frameN then
    raiseAlarm 0x0803 p ([if r.frameN < r.busyN then 7 else 3, 0, 0, 0] ++ leBytes 4 (r.badCycles + 1))
      (putFp p { fpAt t p with badCycles := r.badCycles + 1 } t)
  else t

/-- A slot's result goes to its fret, to the trigger unit 16 CCLK after the slot end, and to the partner's health (R436, R440). -/
def deliverPoll (o : PollOut) (s : State) : State :=
  let t := match s.fret.gather with
    | none => s
    | some b => { s with fret.gather := some { b with polls := b.polls ++ [o] } }
  noteBus o (notePartner o { t with trig.flight := t.trig.flight ++
    [{ src := ⟨.polled, o.p⟩, x := o.signed, tags := o.tags, inst := o.inst, arrive := o.ready + 80 }] })

/-! ### The cycle (R433) -/

/-- A port stops: its slot is abandoned and FP_DE falls. -/
def stopPort (p : Nat) (s : State) : State :=
  putFp p { fpRun0 with badCycles := (fpAt s p).badCycles } s

/-- The port's settings and entries take effect. An entry that moves to another port leaves this one now. -/
def applyPort (p : Nat) (s : State) : State :=
  let old := (portEntries s.live p).map (·.1)
  let new := (portEntries s.cfg p).map (·.1)
  let free (i : Nat) : Bool := let d := dirAt s.live i; !d.enable || decide (d.port = p)
  let d1 := (old.filter (fun i => !new.contains i)).foldl (fun t i => tput dirEntry0 t i { dirAt s.cfg i with enable := false }) s.live.dir
  let d2 := (new.filter free).foldl (fun t i => tput dirEntry0 t i (dirAt s.cfg i)) d1
  { s with live.fp := tput fpSet0 s.live.fp p (fpOf s.cfg p), live.dir := d2 }

/-- Start a slot at boundary `b`. -/
def startPoll (p b pos : Nat) (s : State) : State :=
  putFp p { fpAt s p with running := true, pos := pos, slotStart := b, attempts := 0, sent := false, reqEnd := b, done := false, result := none
                          last := 7, exc := 0, de := false } s

/-- Between cycles: the settings take effect, and the next cycle starts at a boundary with T mod T_cyc = 0. -/
def awaitPort (p b : Nat) (s : State) : State :=
  let t := applyPort p s
  let es := (portEntries t.live p).map (·.1)
  let off := putFp p { fpAt t p with running := false, entries := [], sent := false, de := false, busyN := 0, frameN := 0 } t
  if t.fret.acquiring && portOn t.live p && decide (b % (fpSlotHalf (fpOf t.live p) * es.length) = 0) then
    startPoll p b 0 (putFp p { fpAt off p with entries := es } off)
  else off

/-- The polled channel of the running slot, and its entry. -/
def slotEntry (s : State) (p : Nat) : Nat := natAt (fpAt s p).entries (fpAt s p).pos

/-- The end of the running slot in half ns. -/
def pollEnd (s : State) (p : Nat) : Nat := (fpAt s p).slotStart + fpSlotHalf (fpOf s.live p)

/-- FP_SLOT_END: the slot's result, and the next slot (R433, R436, R438). -/
def onPollEnd (p : Nat) (s : State) : State :=
  if (fpAt s p).running then
    let b := pollEnd s p
    let t := toInstant b s
    let r := fpAt t p
    let o := r.result.getD (failedOut t p (slotEntry t p) (if r.sent then 1 else r.last))
    let u := deliverPoll o t
    if r.pos + 1 < r.entries.length && (fpOf u.live p).enable then startPoll p b (r.pos + 1) u
    else awaitPort p b (noteCycle p u)
  else s

def execFpSlotEnd (port : Nat) (s : State) : Host.Outcome State Fault Refusal := .next (onPollEnd port s)

/-- A port at a fret boundary: disabling aborts the running slot with its result; a port between cycles may start one (R433). -/
def portBoundary (b : Nat) (s : State) (p : Nat) : State :=
  let off := (fpOf s.live p).enable && !(fpOf s.cfg p).enable
  let r := fpAt s p
  if r.running && decide (pollEnd s p ≤ b) then
    (if off then { s with live.fp := tput fpSet0 s.live.fp p { fpOf s.live p with enable := false } } else s)
  else if r.running && !off then s
  else
    let t := if r.running && decide (r.slotStart < b) then deliverPoll { failedOut s p (slotEntry s p) 8 with ready := b } s else s
    awaitPort p b (if r.running then stopPort p t else t)

/-! ### Attempts (R434) -/

/-- An attempt failed: the next one, if one remains. -/
def failAttempt (p cause : Nat) (s : State) : State :=
  let r := fpAt s p
  putFp p { r with sent := false, de := false, last := cause, done := decide ((fpOf s.live p).retries < r.attempts) } s

/-- FP_REQUEST_SEND: the next attempt of the slot. With the line idle it is sent; where it would no longer fit, it fails with
BUS_BUSY (R427, R434). -/
def onRequest (p : Nat) (idle : Bool) (s : State) : State :=
  let r := fpAt s p
  let f := fpOf s.live p
  let d := dirAt s.live (slotEntry s p)
  if r.running && !r.done && !r.sent && !s.safety.safe then
    let lastStart := pollEnd s p - 5 * attemptCclk f d
    let t := toInstant (if idle then r.slotStart else lastStart + 1) s
    if idle && decide (t.time.half ≤ lastStart) then
      putFp p { r with attempts := r.attempts + 1, sent := true, de := true, reqEnd := t.time.half + 5 * sendCclk f d } t
    else failAttempt p 7 (putFp p { r with attempts := r.attempts + 1 } t)
  else s

def execFpRequestSend (port : Nat) (idle : Bool) (s : State) : Host.Outcome State Fault Refusal := .next (onRequest port idle s)

/-- One byte into the Modbus CRC-16: 0x8005 reflected (R427). -/
def modbusByte (crc : BitVec 16) (b : Byte) : BitVec 16 :=
  (List.range 8).foldl (fun c _ => if c.getLsbD 0 then (c >>> 1) ^^^ 0xA001#16 else c >>> 1) (crc ^^^ b.setWidth 16)

def modbusCrc (bs : List Byte) : Nat := (bs.foldl modbusByte 0xFFFF#16).toNat

/-- Character `i` of a frame. -/
def charAt (cs : List Byte) (i : Nat) : Nat := ((cs[i]?).getD 0).toNat

/-- A register in a frame: big-endian. -/
def regAt (cs : List Byte) (i : Nat) : Nat := 256 * charAt cs i + charAt cs (i + 1)

/-- The length a frame's function code and byte count give it. -/
def frameLen (cs : List Byte) : Nat :=
  if 128 ≤ charAt cs 1 then 5 else if charAt cs 1 = 3 ∨ charAt cs 1 = 4 then 5 + charAt cs 2 else 8

/-- Register content of a read response (R432). -/
def readContent (d : DirEntry) (cs : List Byte) : Nat :=
  if dirRegs d = 1 then regAt cs 3
  else if d.lowFirst then regAt cs 3 + 65536 * regAt cs 5
  else 65536 * regAt cs 3 + regAt cs 5

/-- The content a write delivers. -/
def writeContent (d : DirEntry) : Nat := if dirRegs d = 1 then d.wdata % 65536 else d.wdata

/-- The response matches: the byte count of a read, the echo of a write (R434). -/
def echoOk (d : DirEntry) (cs : List Byte) : Bool :=
  if d.func = 3 ∨ d.func = 4 then decide (charAt cs 2 = 2 * dirRegs d)
  else decide (regAt cs 2 = d.reg) && decide (regAt cs 4 = if d.func = 6 then d.wdata % 65536 else dirRegs d)

/-- The checks of a response in their order: 0 accepted, or the status (R434, R438). -/
def responseStatus (d : DirEntry) (cs : List Byte) (framingOk : Bool) : Nat :=
  if modbusCrc (cs.take (cs.length - 2)) ≠ ofLe (cs.drop (cs.length - 2)) ∨ cs.length < 4 then 2
  else if framingOk = false ∨ cs.length ≠ frameLen cs then 3
  else if charAt cs 0 ≠ d.unit then 4
  else if charAt cs 1 = d.func + 128 then 5
  else if charAt cs 1 = d.func && echoOk d cs then 0 else 4

/-- FP_RESPONSE_COMPLETE: silence of t3.5 has followed the last character (R434). It comes no earlier than the characters take,
and within T_to of the request's end. -/
def onResponse (p : Nat) (cs : List Byte) (framingOk : Bool) (s : State) : State :=
  let r := fpAt s p
  let f := fpOf s.live p
  let i := slotEntry s p
  let d := dirAt s.live i
  let stop := r.reqEnd + 5 * (400000 * f.timeout + fpSilence f)
  if r.running && r.sent && decide (s.time.half ≤ stop) then
    let t := toInstant (r.reqEnd + 5 * (11 * fpBit f * cs.length + fpSilence f)) s
    let st := responseStatus d cs framingOk
    if st = 0 then
      let o := acceptedOut t p i d (if d.func = 3 ∨ d.func = 4 then readContent d cs else writeContent d)
      putFp p { r with sent := false, de := false, done := true, result := some o } t
    else if st = 5 then putFp p { r with sent := false, de := false, done := true, last := 5, exc := charAt cs 2 } t
    else failAttempt p st t
  else s

def execFpResponseComplete (port : Nat) (chars : List Byte) (framingOk : Bool) (s : State) : Host.Outcome State Fault Refusal :=
  .next (onResponse port chars framingOk s)

/-- FP_RESPONSE_TIMEOUT: T_to has passed since the request's end (R434). -/
def onResponseTimeout (p : Nat) (s : State) : State :=
  let r := fpAt s p
  if r.running && r.sent then failAttempt p 1 (toInstant (r.reqEnd + 2000000 * (fpOf s.live p).timeout) s) else s

def execFpResponseTimeout (port : Nat) (s : State) : Host.Outcome State Fault Refusal := .next (onResponseTimeout port s)

/-! ### Commands (R428, R430, R431, R435) -/

/-- The schedule of a port: the largest excess over L of its entries, in CCLK (R435). -/
def scheduleExcess (c : Settings) (p : Nat) : Nat :=
  let f := fpOf c p
  maxOf (fun e => (1 + f.retries) * attemptCclk f e.2 - 2 * fpSlotNs f / 5) (portEntries c p)

def admitPorts (c : Settings) (ps : List Nat) : Option Reply :=
  let x := maxOf (scheduleExcess c) ps
  if 0 < x then some (overBudget 9 x) else none

def fpNew (p : FpPortP) : FpSet :=
  { enable := decide (p.enable = 1), baud := p.baud, parity := p.parity, slot := p.slot, timeout := p.timeout, retries := p.retries
    downAfter := p.downAfter }
def fpConfig (p : FpPortP) (c : Settings) : Settings := { c with fp := tput fpSet0 c.fp p.port (fpNew p) }

def fpCheck (p : FpPortP) (s : State) : Option Reply :=
  checks [firstBad [(28, decide (7 < p.port)), (29, decide (1 < p.enable)), (30, decide (5 < p.baud)), (31, decide (2 < p.parity)),
      (32, decide (6 < p.slot)), (33, decide (p.timeout < 1 ∨ 1000 < p.timeout)), (35, decide (3 < p.retries)),
      (36, decide (p.downAfter < 1))],
    firstBad [(32, decide (p.enable = 1) && decide (fpSlotNs (fpNew p) % s.cfg.period ≠ 0))],
    admitPorts (fpConfig p s.cfg) [p.port], admitConfig (fpConfig p s.cfg) s]

/-- A change of a running port completes as accepted, one that a boundary governs at the boundary (R392, R433). -/
def portDone (h : CmdHdr) (op : Nat) (running : Bool) (s : State) : State := if running then finish h op okReply s else finishAtBoundary h op s

def execFpPortSet (h : CmdHdr) (p : FpPortP) (s : State) : Host.Outcome State Fault Refusal :=
  .next (runCommand h 0x0A01 (fpCheck p)
    (fun t => portDone h 0x0A01 ((fpAt t p.port).running && decide (p.enable = 1)) (accept (fpConfig p) t)) s)

def execFpPortSetTwin (h : CmdHdr) (port : Nat) (s : State) : Host.Outcome State Fault Refusal :=
  .next (readCommand h 0x0A81 8 (fun _ => firstBad [(28, decide (7 < port))])
    (fun t =>
      let f := fpOf t.cfg port
      leBytes 1 (b2n f.enable) ++ leBytes 1 f.baud ++ leBytes 1 f.parity ++ leBytes 1 f.slot ++ leBytes 2 f.timeout ++ leBytes 1 f.retries ++
        leBytes 1 f.downAfter) s)

/-- Numbered entries of a write. -/
def dirItems (first : Nat) (es : List DirEntry) : List (Nat × DirEntry) := ((List.range es.length).map (first + ·)).zip es

def dirConfig (first : Nat) (es : List DirEntry) (c : Settings) : Settings :=
  { c with dir := (dirItems first es).foldl (fun t e => tput dirEntry0 t e.1 e.2) c.dir }

/-- The fields of an entry that break a rule (R431), by offset in its 16 bytes. -/
def dirFaults (c : Settings) (d : DirEntry) : List (Nat × Bool) :=
  [(1, decide (d.unit < 1 ∨ 247 < d.unit)), (2, !([3, 4, 6, 16].contains d.func) || (decide (d.func = 6) && decide (2 ≤ d.type))),
   (3, decide (4 < d.type)), (6, decide (d.scale < -24 ∨ 24 < d.scale)),
   (8, decide (900000 < d.age) || decide (1000000000 < fpSlotNs (fpOf c d.port) + 1000 * d.age))]

def dirCheck (first : Nat) (es : List DirEntry) (s : State) : Option Reply :=
  checks [firstBad [(28, decide (2048 < first + es.length) || decide (2047 < first))],
    firstBad ((dirItems 0 es).map (fun e => (dirFaults s.cfg e.2).map (fun f => (0x8000 + 16 * e.1 + f.1, f.2)))).flatten,
    admitPorts (dirConfig first es s.cfg) (List.range 8), admitConfig (dirConfig first es s.cfg) s]

def execFpDirWrite (h : CmdHdr) (first : Nat) (entries : List DirEntry) (s : State) : Host.Outcome State Fault Refusal :=
  .next (runCommand h 0x0A02 (dirCheck first entries)
    (fun t => portDone h 0x0A02
      ((dirItems first entries).any (fun e => (fpAt t e.2.port).running || ((dirAt t.live e.1).enable && (fpAt t (dirAt t.live e.1).port).running)))
      (accept (dirConfig first entries) t)) s)

/-- An entry's 16 bytes (R430). -/
def dirBytes (d : DirEntry) : List Byte :=
  [BitVec.ofNat 8 (b2n d.enable + 2 * d.port), BitVec.ofNat 8 d.unit, BitVec.ofNat 8 d.func, BitVec.ofNat 8 (d.type + 8 * b2n d.lowFirst)] ++
    leBytes 2 d.reg ++ leSigned 1 d.scale ++ [0] ++ leBytes 4 d.age ++ leBytes 4 d.wdata

def execFpDirWriteTwin (h : CmdHdr) (first count : Nat) (s : State) : Host.Outcome State Fault Refusal :=
  .next (readCommand h 0x0A82 (16 * count) (fun _ => firstBad [(28, decide (2048 < first + count) || decide (2047 < first))])
    (fun t => ((List.range count).map (fun i => dirBytes (dirAt t.cfg (first + i)))).flatten) s)

end Sys2Proof.Machine
end

