-- ==== Sys2Proof/Machine/Monitor.lean ====
section
/-! DEFINITION. The safety monitor: entry to the safe state, its close, recovery, and the diagnostics that lead there (19, R467 to
R477; 01, R29). -/

namespace Sys2Proof.Machine

/-! ### Causes (R467) -/

/-- Causes that no recovery clears. -/
def fatalCause (c : Nat) : Bool := decide (c = 4 ∨ c = 5 ∨ c = 8 ∨ c = 9)

/-- The lowest latched cause that is not recoverable, or whose condition is still present (R471). -/
def recoverBar (s : State) : Option Nat := (sortNats s.safety.seen).find? (fun c => fatalCause c || s.safety.present.contains c)

/-- The first cause is a lost clock (R469). -/
def clockCause (s : State) : Bool := decide (s.safety.first = 1 ∨ s.safety.first = 2)

/-! ### Entry (R458, R468, R469, R470) -/

/-- A value output de-energises; an energised TRIP output reports it (R456, R459). -/
def dropOutput (s : State) (n : Nat) : State :=
  let r := valAt s n
  let t := putVal n { r with on := false, holdEnd := none, staleAt := none, word := none, failWord := false, atFail := false, high := 0
                             switched := s.time.cclk } s
  noteBlind n (if r.on then tripEvent n 2 0 t else t)

/-- A rail that is on ramps to off, and stays off until RAIL_SET (R104, R468, R471). -/
def dropRail (s : State) (e : Nat) : State :=
  if (railLive s e).voltage = 0 then { s with cfg := railZero e s.cfg }
  else
    putRail e { railAt s e with tripped := true, outOfReg := false, limitSince := none, changeEnd := none }
      { s with live := railZero e s.live, cfg := railZero e s.cfg }

/-- A course stops, and its driver stays off until COURSE_SET (R140, R468, R471). -/
def dropCourse (s : State) (c : Nat) : State :=
  let t := stopCourse 8 c s
  if (courseOf t.live c).driver then putCourse c { courseAt t c with driverOff := true, driverOn := false } t else t

/-- The ring lanes stop transmitting: their links are down (R342, R469). -/
def stopLanes (s : State) : State :=
  [4, 5].foldl (fun t n => onLinkDown (lanePortOf n) (if (laneAt t n).state = 0 then t else leaveUp n 0 (endTest n stTimeout t))) s

/-- The outputs, rails, courses, ports and engines of R468. -/
def dropAll (s : State) : State :=
  let s1 := (List.range 8).foldl dropOutput s
  let s2 := (List.range 8).foldl (fun t p => stopPort p t) s1
  let s3 := (List.range 16).foldl dropRail s2
  dropReductions ((List.range 32).foldl dropCourse s3)

/-- SAFE_STATE_ENTRY: outputs off, gathering stopped, the frets not yet closed lost. -/
def enterSafe (c : Nat) (s : State) : State :=
  let s1 := { s with safety := { s.safety with safe := true, first := c, seen := [c], stamp := nowStamp s, enteredAt := s.time.cclk
                                               closed := false, closeDue := false } }
  let s2 := dropAll s1
  let s3 := setSource 192 (alarmPin { s2 with fret.acquiring := false, fret.stopAt := false, fret.closeDue := false, loc.pps := false,
                                                fret.closing := s2.fret.closing ++ s2.fret.gather.toList, fret.gather := none })
  if clockCause s3 then stopLanes s3 else s3

/-- A cause arises: entry, or a second cause while safe, which only sets its bit of SEEN; a forced entry of the same CCLK gives way to a
detected cause (R467, R471). -/
def safeCause (c : Nat) (present : Bool) (s : State) : State :=
  let t := { s with safety.present := if present && !s.safety.present.contains c then s.safety.present ++ [c] else s.safety.present }
  if t.safety.safe then
    { t with safety.seen := if t.safety.seen.contains c then t.safety.seen else t.safety.seen ++ [c]
             safety.first := if t.safety.first = 10 ∧ t.safety.enteredAt = t.time.cclk then c else t.safety.first }
  else enterSafe c t

/-- A cause's condition has ended. -/
def causeEnds (c : Nat) (s : State) : State := { s with safety.present := s.safety.present.filter (fun x => decide (x ≠ c)) }

def execSafeForce (s : State) : Host.Outcome State Fault Refusal := .next (safeCause 10 false s)
def execConfigParityError (s : State) : Host.Outcome State Fault Refusal := .next (safeCause 8 false s)
def execResidueMismatch (s : State) : Host.Outcome State Fault Refusal := .next (safeCause 9 false s)

/-! ### Clocks (R29, R467, R469) -/

/-- HEARTBEAT: each ms of CCLK, held while CCLK is lost. -/
def heartbeatOf (s : State) : Nat := if s.safety.clockLost.contains .cclk then s.safety.heartbeat else s.time.cclk / 400000 % 256

def clockCode : ClockName → Nat | .refclk => 1 | .cclk => 2

/-- CLOCK_LOSS (R29). -/
def onClockLoss (k : ClockName) (s : State) : State :=
  let t := { s with safety.heartbeat := heartbeatOf s
                    safety.clockLost := if s.safety.clockLost.contains k then s.safety.clockLost else s.safety.clockLost ++ [k] }
  safeCause (clockCode k) true t

def execClockLoss (clock : ClockName) (s : State) : Host.Outcome State Fault Refusal := .next (onClockLoss clock s)

/-- CLOCK_RESTORED: the cause's condition has ended (R467). -/
def onClockRestored (k : ClockName) (s : State) : State :=
  causeEnds (clockCode k) { s with safety.clockLost := s.safety.clockLost.filter (fun x => decide (x ≠ k)) }

def execClockRestored (clock : ClockName) (s : State) : Host.Outcome State Fault Refusal := .next (onClockRestored clock s)

/-! ### Supplies (R472, R482, R503) -/

/-- SUPPLY_FAULT of a supply. -/
def supplyOut (n tenMv : Nat) (s : State) : State :=
  raiseAlarm 0x0B04 n (leBytes 2 tenMv)
    { s with safety.suppliesOut := if s.safety.suppliesOut.contains n then s.safety.suppliesOut else s.safety.suppliesOut ++ [n] }

def execHubSupplyFault (supply tenMv : Nat) (s : State) : Host.Outcome State Fault Refusal :=
  .next (safeCause 6 true (supplyOut supply tenMv s))

/-- A supply is back in its window; cause 0x06 ends with the last hub-die supply. -/
def onSupplyRestored (n : Nat) (s : State) : State :=
  let t := endAlarm 0x0B04 n [] { s with safety.suppliesOut := s.safety.suppliesOut.filter (fun x => decide (x ≠ n)) }
  if t.safety.suppliesOut.any (fun x => decide (x < 6)) then t else causeEnds 6 t

def execHubSupplyRestored (supply : Nat) (s : State) : Host.Outcome State Fault Refusal := .next (onSupplyRestored supply s)

/-- The die of an FE supply (R482). -/
def dieOfSupply (n : Nat) : Nat := (n - 6) % 4

/-- A fault of a die isolates it at the next boundary (R21, R472). -/
def faultDie (k : Nat) (why : Isolation) (s : State) : State :=
  let d := dieAt s k
  if d.isolated = none then putDie k { d with isoWait := some why } s else s

def execFeSupplyFault (supply tenMv : Nat) (s : State) : Host.Outcome State Fault Refusal :=
  .next (faultDie (dieOfSupply supply) .supply (supplyOut supply tenMv s))

/-- DIE_LINK_FAULT: a CRC error on a die link (R472). -/
def onLinkFault (k : Nat) (s : State) : State :=
  let n := (dieAt s k).linkErrors + 1
  faultDie k .link (raiseAlarm 0x0B05 k (leBytes 4 n) (putDie k { dieAt s k with linkErrors := n } s))

def execDieLinkFault (die : Nat) (s : State) : Host.Outcome State Fault Refusal := .next (onLinkFault die s)

/-! ### Temperatures (R467, R472) -/

/-- A die's junction temperature is measured: die 4 is the hub die. -/
def putTemp (k : Nat) (temp : Int) (s : State) : State :=
  let high := decide (105 < temp)
  let was := if k = 4 then s.safety.hubHot else (dieAt s k).tempHigh
  let t := if k = 4 then { s with safety.hubTemp := temp, safety.hubHot := high }
           else putDie k { dieAt s k with temp := temp, tempHigh := high } s
  if high && !was then raiseAlarm 0x0B03 k (leSigned 1 temp) t
  else if was && !high then endAlarm 0x0B03 k (leSigned 1 temp) t else t

/-- TEMP_HIGH: the alarm above 105 °C, the safe state above 115 °C. -/
def onTempHigh (k : Nat) (temp : Int) (s : State) : State :=
  let t := putTemp k temp s
  if 115 < temp then safeCause 7 true t else t

def execTempHigh (die : Nat) (temp : Int) (s : State) : Host.Outcome State Fault Refusal := .next (onTempHigh die temp s)

/-- TEMP_RECOVERED: cause 0x07 ends once every die is below 100 °C. -/
def onTempRecovered (k : Nat) (temp : Int) (s : State) : State :=
  let t := putTemp k temp s
  if decide (t.safety.hubTemp < 100) && (List.range 4).all (fun d => decide ((dieAt t d).temp < 100)) then causeEnds 7 t else t

def execTempRecovered (die : Nat) (temp : Int) (s : State) : Host.Outcome State Fault Refusal := .next (onTempRecovered die temp s)

/-! ### SRAM and the time cross-check (R472, R476) -/

def execSramUe (which : Nat) (s : State) : Host.Outcome State Fault Refusal :=
  .next (raiseAlarm 0x0B06 which ([0, 0, 0, 0] ++ leBytes 4 (nowStamp s)) { s with safety.sramSeen := true })

/-- The ratio error of a window in 10^-9: edges against 16,000,000 INC / 2^43 (R42, R476). -/
def xcheckError (s : State) (edges : Nat) : Int :=
  let want := 16000000 * s.time.inc
  if want = 0 then 0 else roundDiv (1000000000 * ((edges * 8796093022208 : Nat) - (want : Int))) want

/-- TIME_XCHECK_WINDOW: the window lasts the CCLK edges it counts; more than 1 ppm off in two consecutive windows. -/
def onXcheck (edges : Nat) (s : State) : State :=
  let bad := decide (16000000 * s.time.inc < 1000000 * ((edges * 8796093022208 : Nat) - (16000000 * s.time.inc : Nat) : Int).natAbs)
  let run := if bad then s.safety.xcheckRun + 1 else 0
  let e := leSigned 4 (xcheckError s edges)
  let now := toCclk (s.safety.xcheckAt + edges) s
  let t := { now with safety.xcheckRun := run, safety.xcheck := s.safety.xcheck || decide (2 ≤ run), safety.xcheckAt := now.time.cclk }
  if 2 ≤ run then raiseAlarm 0x0B07 0 e t else if bad then t else endAlarm 0x0B07 0 e t

def execTimeXcheckWindow (edges : Nat) (s : State) : Host.Outcome State Fault Refusal := .next (onXcheck edges s)

/-! ### SAFE_STATE_CLOSE (R225, R250, R262, R468, R469) -/

/-- The frets gathered and not yet closed, oldest first. -/
def unclosedFrets (s : State) : List FretBuf :=
  s.fret.closing.filter (·.gathered)

/-- Those of a stream: from the fret that opens it. -/
def fretsOf (n : Nat) (c : StreamCtx) (bs : List FretBuf) : List FretBuf :=
  if c.started then bs else bs.dropWhile (fun b => !b.opened.contains n)

/-- The LOST_RANGE of a stream with unclosed frets: COUNT 0, in the place of its next record (R224, R225). -/
def safeRange (c : StreamCtx) (bs : List FretBuf) : Option LostRange :=
  match bs with
  | [] => none
  | b :: rest => some { firstSeq := c.nextSeq, count := 0, firstFret := b.idx, lastFret := (rest.getLast?.getD b).idx, reason := lostSafe
                        reasons := 0, stamp := stampOf (b.start / 2) }

/-- Close it: kept in the stream lane, held for the host ring, sent to the ring; it carries SAFE. -/
def closeSafe (n : Nat) (l : LostRange) (s : State) : State :=
  let r := lostRecord n l s
  let w := writeSlice laneStream l.firstFret s.hist.era (recordLen r) s
  let c := streamAt w.1 n
  let kept : Stored := { rcd := r, slices := [w.2], closedAt := s.time.cclk, failover := false, coder := none }
  let t := putStream n { c with notices := c.notices ++ [kept]
                                safeDue := if c.hostRing.isSome then c.safeDue ++ [l] else c.safeDue
                                ringSafe := if c.ring then c.ringSafe ++ [l] else c.ringSafe } w.1
  let u := deliver n t
  if c.replay then u else (deliverRange n (findLosses n (lossFuel (streamAt u n)) u)).1

/-- A capture whose window was open closes with the frets that closed (R262). -/
def closeOpenCapture (s : State) (u : Nat) : State :=
  match (unitAt s u).cap with
  | none => s
  | some k =>
    let n := closedUpTo s k.era
    if n ≤ k.last then closeCapture u (cutCapture u (n - 1) stSafe true false s) else s

/-- The closes of R468. -/
def safeCloses (s : State) : State :=
  let bs := unclosedFrets s
  let was := s.safety.safe
  let s1 := { s with safety.safe := true, safety.closed := true,
                                 fret.closing := s.fret.closing.filter (fun b => !b.gathered) }
  let s2 := (List.range 8).foldl closeOpenCapture s1
  let s3 := (openStreams s2).foldl (fun t n =>
    let c := streamAt t n
    match safeRange c (fretsOf n c bs) with | none => t | some l => closeSafe n l t) s2
  { s3 with safety.safe := was }

/-- SAFE_STATE_CLOSE: 128 CCLK after a fret boundary. SAFE_ENTER is raised; the closes of a lost clock wait for recovery. -/
def onSafeClose (s : State) : State :=
  if s.safety.closeDue then
    let s1 := toCclk s.fret.closeAt s
    let s2 := { s1 with safety.closeDue := false }
    let s3 := if s2.safety.safe && !s2.host.alarms.contains (0x0B01, 0) then
        raiseAlarm 0x0B01 0 ([BitVec.ofNat 8 s2.safety.first, 0, 0, 0] ++ leBytes 4 s2.safety.stamp) s2 else s2
    if s3.safety.safe && clockCause s3 then s3 else safeCloses s3
  else s

def execSafeStateClose (s : State) : Host.Outcome State Fault Refusal := .next (onSafeClose s)

/-! ### SAFE_RECOVER (R471) -/

/-- SAFE_RECOVER checks. -/
def recoverCheck (key : Nat) (s : State) : Option Reply :=
  orElseReply (firstBad [(28, decide (key ≠ 0x5AFE5AFE))])
    (match recoverBar s with | none => none | some c => some (refusedState 8 c))

/-- SAFE_RECOVER: the hub leaves at the next boundary; outside the safe state nothing is left to do. -/
def execSafeRecover (h : CmdHdr) (key : Nat) (s : State) : Host.Outcome State Fault Refusal :=
  .next (runCommand h 0x0C02 (recoverCheck key)
    (fun t =>
      if t.safety.safe then
        match t.safety.leaveHdr with
        | none => { t with safety.leaveHdr := some h }
        | some _ => finishAtBoundary h 0x0C02 t
      else finish h 0x0C02 okReply t) s)

/-- A value output in MODE OFF, in both copies. -/
def outputOff (s : State) (n : Nat) : State :=
  let r := valAt s n
  putVal n { valRun0 with openLoad := r.openLoad, stuckOn := r.stuckOn, switched := r.switched, openAt := r.openAt, stuckAt := r.stuckAt }
    (setBoth (fun c => { c with val := tmod valSet0 c.val n (fun v => { v with mode := 0 }) }) s)

/-- SAFE_STATE_LEAVE at a fret boundary: outputs in MODE OFF, the lanes start again after a lost clock, SAFE_ENTER ends and SAFE_LEAVE is
raised; an entry whose closes are still due has them after this boundary. A cause that has come since refuses the command (R471). -/
def leaveSafe (s : State) : State :=
  match s.safety.leaveHdr with
  | none => s
  | some h =>
    let s0 := { s with safety.leaveHdr := none }
    match recoverBar s0 with
    | some c => finish h 0x0C02 (refusedState 8 c) s0
    | none =>
      let first := s0.safety.first
      let args := [BitVec.ofNat 8 first, 0, 0, 0]
      let ms := min ((s0.time.cclk - s0.safety.enteredAt) / 400000) 4294967295
      let s1 := if s0.host.alarms.contains (0x0B01, 0) then s0 else raiseAlarm 0x0B01 0 (args ++ leBytes 4 s0.safety.stamp) s0
      let s2 := (List.range 8).foldl outputOff
        { s1 with safety.safe := false, safety.first := 0, safety.present := [], loc.valSet := [] }
      let s3 := if clockCause s0 then [4, 5].foldl (fun t n => if (laneAt t n).state = 0 then enterStage n lnPll t else t) s2 else s2
      let s4 := event 0x0B02 0 (args ++ leBytes 4 ms) (endAlarm 0x0B01 0 (args ++ leBytes 4 s0.safety.stamp) s3)
      finishAt h 0x0C02 okReply (s4.fret.idx % 4294967296) (alarmPin s4)

end Sys2Proof.Machine
end

