-- ==== Sys2Proof/Machine/Slots.lean ====
section
/-! DEFINITION. What boot, update and the controller pairs share: the firmware slots, the update session, the end of an update
operation, and the reset of the whole hub (16, R412, R424; 20, R483 to R496; 21, R504). -/

namespace Sys2Proof.Machine

/-! ### Requesters (R368, R497) -/

/-- What the hub keeps for a requester. -/
def reqOf (s : State) (r : Requester) : ReqState :=
  match r with | .pcie => s.host.reqPcie | .service => s.host.reqSvc | .controller => s.host.reqCtl

def putReq (r : Requester) (x : ReqState) (s : State) : State :=
  match r with
  | .pcie => { s with host.reqPcie := x }
  | .service => { s with host.reqSvc := x }
  | .controller => { s with host.reqCtl := x }

/-! ### Slots (R488, R489) -/

/-- Slot states. -/
def slEmpty : Nat := 0
def slWriting : Nat := 1
def slTrial : Nat := 2
def slConfirmed : Nat := 3
def slExpired : Nat := 4
def slFailed : Nat := 5

/-- State of slot 0 (A) or 1 (B). -/
def slotState (s : State) (n : Nat) : Nat := if n = 0 then s.boot.bcb.slotA else s.boot.bcb.slotB

/-- The hub writes the boot control block: copy 0, then copy 1, with the next write count (R483). -/
def putBcb (f : BootBlock → BootBlock) (s : State) : State :=
  { s with boot.bcb := { f s.boot.bcb with writes := (s.boot.bcb.writes + 1) % 4294967296 }, boot.bcbOld := s.boot.bcb }

/-- A slot takes a state. -/
def putSlot (n st : Nat) (s : State) : State :=
  putBcb (fun c => if n = 0 then { c with slotA := st } else { c with slotB := st }) s

/-- The slot that does not run. -/
def otherSlot (s : State) : Nat := 1 - s.boot.running

/-- The running slot is EXPIRED (R492, R496). -/
def runningExpired (s : State) : Bool := decide (slotState s s.boot.running = slExpired) && s.boot.up

/-! ### The session (R491, R499) -/

/-- UPD_SESSION for the present session. -/
def sessionEvent (what : Nat) (s : State) : State :=
  match s.boot.session with
  | none => s
  | some x => event 0x0B10 0 [BitVec.ofNat 8 what, BitVec.ofNat 8 x.holder, BitVec.ofNat 8 x.hub] s

/-- The session is over. -/
def endSession (what : Nat) (s : State) : State := { sessionEvent what s with boot.session := none }

/-! ### The end of an operation (R393, R497) -/

/-- An update operation has run to its end: the command completes, or the requester's status waits to be set. -/
def opEnds (hdr : Option CmdHdr) (req : Option Requester) (op : Nat) (r : Reply) (s : State) : State :=
  let t := match hdr with | none => s | some h => finish h op r s
  match req with | none => t | some q => putReq q { reqOf t q with updResult := some r.status } t

/-- The trial of the running slot begins (R495). -/
def startTrial (s : State) : State :=
  if slotState s s.boot.running = slTrial then { s with boot.trialFrom := some s.time.cclk, boot.trialOpen := true } else s

/-! ### Reset of the whole hub (R33, R504) -/

/-- The hub in reset: State.reset, but for the boot flash, the pins and links the outside drives, and the model's own fields. -/
def hubReset (s : State) : State :=
  { State.reset with
    boot := { boot0 with flash := s.boot.flash, bcb := s.boot.bcb, bcbOld := s.boot.bcbOld, inReset := true }
    host.perst := s.host.perst
    loc.gpio := s.loc.gpio, loc.syncIn := s.loc.syncIn, loc.reserve := s.loc.reserve
    fresh := s.fresh
    sent := s.sent
    pending := s.pending }

end Sys2Proof.Machine
end

