-- ==== Sys2Proof/Machine/Pairs.lean ====
section
/-! DEFINITION. The controller pairs: fencing, checkpoints, takeover, the return of a fenced pair and the swap drill (16, R409 to
R426; 15, R407). -/

namespace Sys2Proof.Machine

/-! ### The two pairs (R409) -/

def pairNo (p : Pair) : Nat := match p with | .p0 => 0 | .p1 => 1
def otherPair (p : Pair) : Pair := match p with | .p0 => .p1 | .p1 => .p0
def pairOf (s : State) (p : Pair) : PairRun := match p with | .p0 => s.pairs.p0 | .p1 => s.pairs.p1

def putPair (p : Pair) (r : PairRun) (s : State) : State :=
  match p with | .p0 => { s with pairs.p0 := r } | .p1 => { s with pairs.p1 := r }

/-- The pair in a state, P0 first. -/
def pairIn (st : PairState) (s : State) : Option Pair :=
  if s.pairs.p0.state = st then some .p0 else if s.pairs.p1.state = st then some .p1 else none

/-- State codes of R409. -/
def pairCode (st : PairState) : Nat :=
  match st with
  | .disabled => 0 | .active => 1 | .standby => 2 | .starting => 3 | .fenced => 4 | .selftest => 5 | .halted => 6

/-- A pair takes a state. -/
def setPair (p : Pair) (st : PairState) (s : State) : State := putPair p { pairOf s p with state := st } s

/-- CCLK in 24 h, in the 100 ms of R422 and in the 40 ms of R413. -/
def dayCclk : Nat := 34560000000000
def holdCclk : Nat := 40000000
def takeoverCclk : Nat := 16000000

/-! ### Fencing (R411 to R413, R421) -/

/-- The staged records of one stream are lost: one LOST_RANGE in place of each run of them, to the host ring and to the ring (R225, R421). -/
def loseStaged (n : Nat) (s : State) : State :=
  let seqs := (s.pairs.staging.filter (fun e => decide (e.1 = n))).map (·.2)
  let c := streamAt s n
  let t := putStream n { c with stored := c.stored.map (fun x => if seqs.contains x.rcd.seq then { x with failover := true } else x) } s
  let u := if c.replay then t else (deliverRange n (findLosses n (lossFuel (streamAt t n)) t)).1
  deliver n u

/-- The staging buffer is lost with the pair, and so are the events that wait in Clesin. -/
def dropStaging (s : State) : State :=
  let t := (distinct (s.pairs.staging.map (·.1))).foldl (fun t n => loseStaged n t) s
  { t with pairs.staging := [], pairs.waitingEvents := [] }

/-- A pair is cut off and held in reset; CTL_STATUS and CTL_FENCE record it and the alarm is raised (R412). -/
def fencePair (p : Pair) (cause : Nat) (s : State) : State :=
  let r := pairOf s p
  let t := putPair p { r with state := .fenced, holdEnd := s.time.cclk + holdCclk
                              fences := s.time.cclk :: r.fences.filter (fun c => decide (s.time.cclk < c + dayCclk)) } s
  raiseAlarm 0x0901 (pairNo p) ([BitVec.ofNat 8 cause, 0, 0, 0] ++ leBytes 4 (nowStamp s))
    { t with pairs.lastCause := cause, pairs.fenceSeen := true, pairs.fenceStamp := nowStamp s, pairs.fencedAt := s.time.cclk
             host.reqCtl := { t.host.reqCtl with latches := [], popWin := [] } }

/-- The standby is released and runs the takeover (R412, R424). -/
def startStandby (p : Pair) (s : State) : State :=
  setPair p .starting { s with pairs.startDeadline := some (s.time.cclk + takeoverCclk) }

/-- The end of a drill: counted, reported and completed (R424, R425). -/
def drillEnds (active : Pair) (result micros : Nat) (s : State) : State :=
  let body := [BitVec.ofNat 8 (pairNo active), BitVec.ofNat 8 result, 0, 0] ++ leBytes 4 micros
  let t := event 0x0906 (pairNo active) body { s with pairs.stage := .none, pairs.drillHdr := none, pairs.drills := satAdd 255 s.pairs.drills 1 }
  match s.pairs.drillHdr with | none => t | some h => finish h 0x0C01 (okResult body) t

/-- A commit's SWAP ends: UPD_COMMITTED, and the completion; where the standby failed on the new image, TIMEOUT (R494; its status
is the model's choice). -/
def commitEnds (done : Bool) (micros : Nat) (s : State) : State :=
  match s.boot.commit with
  | none => { s with pairs.stage := .none, pairs.commitSwap := false }
  | some c =>
    let dies := maskOf c.reloaded
    let t := { s with pairs.stage := .none, pairs.commitSwap := false, boot.commit := none }
    let u := if done then
        event 0x0B11 0 ([BitVec.ofNat 8 c.slot, BitVec.ofNat 8 dies, 0, 0] ++ leBytes 4 c.image.clesinVer) (endSession 1 t) else t
    opEnds c.hdr c.req 0x0D03
      (if done then okResult ([BitVec.ofNat 8 c.slot, BitVec.ofNat 8 dies, BitVec.ofNat 8 c.activate, 0] ++ leBytes 4 micros) else timedOut) u

/-- What waited for an ACTIVE pair is sent: credit, the answers to budget requests, and the return of grants (R419). -/
def catchUp (s : State) : State :=
  let t := ledgerCheck (payCredit s)
  returnGrants t.cfg t.streams t

/-- The starting pair of a drill fails: it is fenced, and the halted pair resumes (R425). The cause code and the takeover time that
the manual does not give are free. -/
def drillFails (p : Pair) (s : State) : State :=
  let t := fencePair p (freshNat s) (useFree s)
  let u := catchUp (setPair (otherPair p) .active { t with pairs.startDeadline := none, pairs.lastActive := otherPair p, host.ready := true })
  if u.pairs.commitSwap then commitEnds false 0 u
  else drillEnds (otherPair p) 2 (freshNat u) (useFree u)

/-- A cause of R411: the active pair is fenced, and the standby started; without one, or when a starting pair is fenced, the hub goes
to its safe state (R413). A drill that has not halted the pair ends as a real failover (R425). -/
def onFence (cause : Nat) (s : State) : State :=
  match pairIn .active s with
  | some p =>
    let s1 := fencePair p cause (passCclk 2 s)
    let s2 := { dropStaging s1 with host.ready := false, pairs.stage := .none }
    if (pairOf s2 (otherPair p)).state = .standby then startStandby (otherPair p) (passCclk 8 s2) else safeCause 4 false s2
  | none =>
    match pairIn .starting s with
    | none => s
    | some p =>
      if s.pairs.stage = .taking then drillFails p (passCclk 2 s)
      else safeCause 5 false { fencePair p cause (passCclk 2 s) with pairs.startDeadline := none }

def execLockstepDivergence (s : State) : Host.Outcome State Fault Refusal := .next (onFence 1 s)
def execPairSramUe (s : State) : Host.Outcome State Fault Refusal := .next (onFence 3 s)
def execBusErrorTimeout (s : State) : Host.Outcome State Fault Refusal := .next (onFence 4 s)
def execClesinFatalCheck (s : State) : Host.Outcome State Fault Refusal := .next (onFence 6 s)

/-- WATCHDOG_EXPIRY: a fence, but a running slot that is EXPIRED makes the hub reset (R496). -/
def onWatchdog (s : State) : State :=
  if runningExpired s && ((pairIn .active s).isSome || (pairIn .starting s).isSome) then hubReset s else onFence 2 s

def execWatchdogExpiry (s : State) : Host.Outcome State Fault Refusal := .next (onWatchdog s)

/-! ### Checkpoints (R414, R417) -/

/-- What a checkpoint holds (R414). -/
def ckptOf (no : Nat) (s : State) : Ckpt :=
  { no := no, gateway := s.ring.gateway, arbiter := s.ring.arbiter, ledger := s.ring.ledger, ledgerReady := s.ring.ledgerReady
    ledgerHeard := s.ring.ledgerHeard, budgetQ := s.ring.budgetQ, incHist := s.ptp.incHist, goodSyncs := s.ptp.goodSyncs }

/-- A checkpoint goes into the next slot; one that fails leaves the slot without its trailer. -/
def takeCheckpoint (written : Bool) (s : State) : State :=
  let no := (s.pairs.ckptNo + 1) % 4294967296
  let v := if written then some (ckptOf no s) else none
  let t := { s with pairs.ckptNo := no, pairs.toSlotB := !s.pairs.toSlotB }
  if s.pairs.toSlotB then { t with pairs.slotB := v } else { t with pairs.slotA := v }

/-- CHECKPOINT: at a boundary that is a multiple of 10 ms. -/
def onCheckpoint (written : Bool) (badAddr : Nat) (s : State) : State :=
  match pairIn .active s with
  | none => s
  | some p =>
    if s.fret.idx * period2 s % 20000000 = 0 then
      let args := [BitVec.ofNat 8 (b2n s.pairs.toSlotB), 0, 0, 0] ++ leBytes 8 badAddr
      let t := takeCheckpoint written s
      if written then endAlarm 0x0905 (pairNo p) args t else raiseAlarm 0x0905 (pairNo p) args t
    else s

def execCheckpoint (written : Bool) (badAddr : Nat) (s : State) : Host.Outcome State Fault Refusal := .next (onCheckpoint written badAddr s)

/-- The newest and the older valid slot: slot and checkpoint number. -/
def slotsHeld (s : State) : Option (Nat × Nat) × Option (Nat × Nat) :=
  match s.pairs.slotA, s.pairs.slotB with
  | none, none => (none, none)
  | some a, none => (some (0, a.no), none)
  | none, some b => (some (1, b.no), none)
  | some a, some b => if b.no ≤ a.no then (some (0, a.no), some (1, b.no)) else (some (1, b.no), some (0, a.no))

/-- The slot a starting pair uses (R417). -/
def slotUsed (r : TakeoverRead) (s : State) : Option (Nat × Nat) :=
  if r.newestWhole && (slotsHeld s).1.isSome then (slotsHeld s).1 else if r.olderWhole then (slotsHeld s).2 else none

/-- The new pair takes a lease up as the checkpoint has it: a role won since then is lost, and one lost since then stays lost. -/
def takeLease (r : Role) (k : LeaseRun) (s : State) : State :=
  if (leaseOf s r).held then putLease r k (if k.held then s else loseRole r s)
  else putLease r (if k.held then { k with held := false, holder := none } else k) s

/-- Step 3 of R418: Clesin's state as the slot holds it; the leases and the ledger matter only to a joined hub (R333, R417). -/
def loadCheckpoint (slot : Nat) (s : State) : State :=
  match (if slot = 0 then s.pairs.slotA else s.pairs.slotB) with
  | none => s
  | some k =>
    let t := { s with ptp.incHist := k.incHist, ptp.goodSyncs := k.goodSyncs }
    if t.ring.state = .joined then
      let u := takeLease .arbiter k.arbiter (takeLease .gateway k.gateway t)
      if u.ring.gateway.held then
        { u with ring.ledger := k.ledger, ring.ledgerReady := k.ledgerReady, ring.ledgerHeard := k.ledgerHeard, ring.budgetQ := k.budgetQ }
      else u
    else t

/-! ### Takeover (R407, R418 to R420) -/

/-- The header of a handed command, as its completion needs it. -/
def handedHdr (e : Handed) : CmdHdr :=
  { tag := e.tag, idem := e.idem, fence := false, force := false, parallel := false, update := false, cplRing := e.cplRing
    cmdRing := e.ring, descIdx := e.descIdx, dataLen := 0, gateway := e.gateway, reexec := false }

/-- Headers of the commands whose completion is still to come of work begun. -/
def deferredHdrs (s : State) : List CmdHdr :=
  s.fret.startAt.map (·.2) ++ s.fret.atBoundary.map (·.1) ++ s.fe.spares.filterMap (·.2.hdr) ++
  (s.fe.courses.map (fun e => e.2.urgents.map (·.hdr) ++ (e.2.slot.bind (·.urgent)).toList)).flatten ++
  s.fe.calJobs.map (·.hdr) ++ s.fe.resets.map (·.2.2) ++ s.fe.calWrites.map (·.1) ++ s.red.testHdrs ++ s.ring.asks.map (·.hdr) ++
  s.hist.retrieving.map (·.hdr) ++ s.ring.joinHdr.toList ++ s.ring.leaving ++ s.lanes.filterMap (fun e => e.2.test.map (·.hdr)) ++ s.safety.leaveHdr.toList

/-- A command is answered ABORTED_FAILOVER. -/
def abortCommand (h : CmdHdr) (op : Nat) (s : State) : State := finish h op { status := stAborted, result := [], data := [] } s

/-- Commands handed and not completed: those with IDEM run again, every other is answered; what a first run still does gives no
completion of its own (R407). -/
def settleHanded (s : State) : State :=
  let keys := (deferredHdrs s).map orphanKey
  let begun := (s.host.handed.map (fun e => orphanKey (handedHdr e))).filter (fun k => keys.contains k)
  let t := { s with host.handed := s.host.handed.map (fun e => if e.idem then { e with reexec := true } else e) }
  let u := (s.host.handed.filter (fun e => !e.idem)).foldl (fun t e => abortCommand (handedHdr e) e.opcode t) t
  { u with host.orphans := u.host.orphans ++ begun }

/-- The write under way runs to its end, though its command has been answered; those of commands that have not begun are dropped. -/
def keepBegun (ops : List FlashOp) : List FlashOp :=
  match ops with | [] => [] | o :: os => { o with hdr := none } :: os.filter (fun x => x.hdr.isNone)

/-- A commit or drill that the failover interrupts is over; hardware steps begun run on (R407, R425, R494). -/
def settleUpdate (s : State) : State :=
  let known (h : CmdHdr) : Bool := s.host.handed.any (fun e => decide (orphanKey (handedHdr e) = orphanKey h))
  let t := match s.pairs.drillHdr with
    | none => s
    | some h => if known h then { s with pairs.drillHdr := none } else finish h 0x0C01 { status := stAborted, result := [], data := [] } { s with pairs.drillHdr := none }
  let u := match t.boot.commit with
    | none => t
    | some c => opEnds (c.hdr.filter (fun h => !known h)) c.req 0x0D03 { status := stAborted, result := [], data := [] }
        { t with boot.commit := none, pairs.commitSwap := false }
  { u with boot.ops := keepBegun u.boot.ops }

/-- Forwarded commands are sent again with the same TAG (R407). -/
def resendForwarded (s : State) : State :=
  s.ring.forwarded.foldl (fun t f => sendCommand f t)
    { s with ring.forwarded := s.ring.forwarded.map (fun f => { f with at_ := s.time.cclk }) }

/-- Step 5: the pair is ACTIVE, READY is set, leases are renewed, commands are dealt with, TAKEOVER is raised. -/
def resume (p : Pair) (slot : Nat × Nat) (micros : Nat) (s : State) : State :=
  let drill := decide (s.pairs.stage = .taking)
  let s1 := setPair p .active { s with pairs.startDeadline := none, pairs.lastActive := p, host.ready := true }
  let s2 := catchUp ([Role.gateway, Role.arbiter].foldl (fun t r => if decide (nowNs t < (leaseOf t r).expires) && mayRenew r t then sendRenew r t else t) s1)
  let again := if drill then 0 else (s2.host.handed.filter (·.idem)).length
  let aborted := if drill then 0 else s2.host.handed.length - again
  let s3 := if drill then s2
    else resendForwarded (settleHanded (settleUpdate { s2 with pairs.failovers := satAdd 65535 s2.pairs.failovers 1 }))
  event 0x0902 (pairNo p) ([BitVec.ofNat 8 slot.1, 0, 0, 0] ++ leBytes 4 slot.2 ++ leBytes 4 micros ++ leBytes 2 again ++ leBytes 2 aborted) s3

/-- The new image runs from its first ACTIVE; its trial begins (R494, R495). -/
def runNewImage (s : State) : State :=
  match s.boot.commit with
  | none => s
  | some c =>
    startTrial (putBcb (fun b => if c.slot = 0 then { b with bootedA := true } else { b with bootedB := true })
      { s with boot.running := c.slot, boot.fw := c.image.clesinVer, boot.jorvaHi := c.image.jorvaHi, boot.feIf := c.image.feIf
               boot.ckptFmt := c.image.ckptFmt })

/-- A takeover that fails (R413, R417, R425). -/
def takeoverFails (p : Pair) (s : State) : State :=
  if s.pairs.stage = .taking then drillFails p s
  else safeCause 5 false { fencePair p (freshNat s) (useFree s) with pairs.startDeadline := none }

/-- STARTING has lasted 40 ms (R413, R425). -/
def onStartingTimeout (s : State) : State :=
  match pairIn .starting s, s.pairs.startDeadline with
  | some p, some d =>
    let t := toCclk d s
    if t.pairs.stage = .taking then drillFails p t else safeCause 5 false { t with pairs.startDeadline := none }
  | _, _ => s

def execStartingTimeout (s : State) : Host.Outcome State Fault Refusal := .next (onStartingTimeout s)

/-- TAKEOVER: the starting pair has run the steps of R418, or one of them has failed. -/
def onTakeover (r : TakeoverRead) (s : State) : State :=
  match pairIn .starting s with
  | none => s
  | some p =>
    if !s.boot.up then s
    else
      let stop := s.pairs.fencedAt + 400 * r.micros
      if s.pairs.startDeadline.any (fun d => decide (d < stop)) then onStartingTimeout s
      else
        let t := toCclk stop s
        match slotUsed r t with
        | none => takeoverFails p t
        | some slot =>
          if !r.stepsOk then takeoverFails p t
          else if t.pairs.stage = .taking then
            let u := setPair (otherPair p) .selftest (resume p slot r.micros (loadCheckpoint slot.1 (if t.pairs.commitSwap then runNewImage t else t)))
            { u with pairs.stage := .oldTest, pairs.drillMicros := r.micros }
          else resume p slot r.micros (loadCheckpoint slot.1 t)

def execTakeover (read : TakeoverRead) (s : State) : Host.Outcome State Fault Refusal := .next (onTakeover read s)

/-! ### Return of a fenced pair (R422) -/

/-- FENCE_HOLD_END: 100 ms after the fence. -/
def onFenceHoldEnd (p : Pair) (s : State) : State :=
  let r := pairOf s p
  if r.state = .fenced then setPair p .selftest (toCclk r.holdEnd s) else s

def execFenceHoldEnd (pair : Pair) (s : State) : Host.Outcome State Fault Refusal := .next (onFenceHoldEnd pair s)

/-- The result of a self-test: STANDBY with PAIR_RESYNC, which the pair of a boot does not raise; FENCED once more; or DISABLED, after
two failures in a row or three fences in 24 h. -/
def pairTested (p : Pair) (o : SelfTest) (s : State) : State :=
  let r := pairOf s p
  let often := decide (3 ≤ (r.fences.filter (fun c => decide (s.time.cclk < c + dayCclk))).length)
  match o with
  | .pass =>
    let t := putPair p { r with state := if often then .disabled else .standby, fails := 0 } s
    if often then t
    else
      let u := endAlarm 0x0904 (pairNo p) [] (endAlarm 0x0901 (pairNo p) ([BitVec.ofNat 8 s.pairs.lastCause, 0, 0, 0] ++ leBytes 4 (nowStamp s)) t)
      if s.boot.up then event 0x0903 (pairNo p) [] u else u
  | .fail part =>
    let out := often || decide (1 ≤ r.fails)
    let t := putPair p { r with state := if out then .disabled else .fenced, fails := r.fails + 1, holdEnd := s.time.cclk + holdCclk } s
    raiseAlarm 0x0904 (pairNo p) [BitVec.ofNat 8 part, BitVec.ofNat 8 (b2n out)] { t with pairs.failCount := satAdd 255 s.pairs.failCount 1 }

/-- PAIR_SELFTEST_END; the self-test of the old pair ends a drill or a commit's SWAP (R424, R494). -/
def onSelftestEnd (p : Pair) (o : SelfTest) (s : State) : State :=
  if (pairOf s p).state = .selftest then
    let t := pairTested p o s
    if t.pairs.stage = .oldTest then
      if t.pairs.commitSwap then commitEnds true t.pairs.drillMicros t
      else drillEnds (otherPair p) (match o with | .pass => 0 | .fail _ => 1) t.pairs.drillMicros t
    else t
  else s

def execPairSelftestEnd (pair : Pair) (outcome : SelfTest) (s : State) : Host.Outcome State Fault Refusal :=
  .next (onSelftestEnd pair outcome s)

/-! ### The swap drill (R424, R425) -/

/-- Opcodes of class L (R396 to R398). -/
def classL (op : Nat) : Bool :=
  [0x0209, 0x020D, 0x020E, 0x0301, 0x0303, 0x0604, 0x0804, 0x0805, 0x0901, 0x0C01, 0x0C02, 0x0D01, 0x0D02, 0x0D03, 0x0D04].contains op

/-- The update session is open: BUSY names its holder (R394). -/
def sessionBusy (s : State) : Option Reply :=
  match s.boot.session with
  | none => none
  | some x => some { status := stBusy, result := [7, BitVec.ofNat 8 x.holder, BitVec.ofNat 8 x.hub], data := [] }

/-- Handed commands other than this one. -/
def othersHanded (h : CmdHdr) (s : State) : List Handed := s.host.handed.filter (fun e => decide (orphanKey (handedHdr e) ≠ orphanKey h))

/-- SWAP_DRILL checks. -/
def drillCheck (h : CmdHdr) (s : State) : Option Reply :=
  orElseReply (if (pairIn .standby s).isNone then some (refusedState 13 0) else none)
    (orElseReply (sessionBusy s)
      (if s.pairs.stage ≠ .none ∨ (othersHanded h s).any (fun e => classL e.opcode) = true then some (busy 5 0) else none))

/-- Quiescing begins: no further descriptor is fetched. -/
def beginQuiesce (s : State) : State := { s with pairs.stage := .quiescing, pairs.drillStart := s.time.cclk }

def execSwapDrill (h : CmdHdr) (s : State) : Host.Outcome State Fault Refusal :=
  .next (runCommand h 0x0C01 (drillCheck h) (fun t => { beginQuiesce t with pairs.drillHdr := some h }) s)

/-- Every other handed command has completed and the staging buffer is empty. -/
def quiesced (s : State) : Bool :=
  let own := match s.pairs.drillHdr, s.boot.commit with
    | some h, _ => some h
    | none, some c => c.hdr
    | none, none => none
  decide ((match own with | some h => othersHanded h s | none => s.host.handed) = []) && s.pairs.staging.isEmpty

/-- DRILL_QUIESCED: the checkpoint is taken, and the halt waits for the next boundary. -/
def onQuiesced (s : State) : State :=
  if s.pairs.stage = .quiescing ∧ quiesced s = true then { takeCheckpoint true s with pairs.stage := .haltDue } else s

def execDrillQuiesced (s : State) : Host.Outcome State Fault Refusal := .next (onQuiesced s)

/-- DRILL_QUIESCE_TIMEOUT: 100 ms after the drill began, the checkpoint is taken as things stand. -/
def onQuiesceTimeout (s : State) : State :=
  if s.pairs.stage = .quiescing then
    { takeCheckpoint true (toCclk (s.pairs.drillStart + holdCclk) s) with pairs.stage := .haltDue }
  else s

def execDrillQuiesceTimeout (s : State) : Host.Outcome State Fault Refusal := .next (onQuiesceTimeout s)

/-- DRILL_HALT at a fret boundary: the active pair is HALTED with cause code 5, and the standby starts. -/
def drillHalt (s : State) : State :=
  if s.pairs.stage = .haltDue then
    match pairIn .active s with
    | none => { s with pairs.stage := .none }
    | some p =>
      startStandby (otherPair p) (setPair p .halted
        { s with pairs.stage := .taking, pairs.lastCause := 5, pairs.fenceStamp := nowStamp s, pairs.fencedAt := s.time.cclk, host.ready := false })
  else s

end Sys2Proof.Machine
end

