-- ==== Sys2Proof/Machine/Changes.lean ====
section
/-! DEFINITION. What a fret boundary changes: accepted settings, starts and stops of acquisition, resets that fall due (01, R23; 03,
R78, R90; 04, R100, R106, R107; 06, R167 to R172; 15, R399 to R401). -/

namespace Sys2Proof.Machine

/-! ### Rails and channels (R100, R106, R107, R172) -/

/-- A channel's outputs up to b + P are invalid, and its reset falls due then (R106, R107). -/
def dueChange (b c : Nat) (exc : Bool) (s : State) : State :=
  let r := dynRun s c
  let until_ := resetBoundary (dynLive s c) (b + period2 s)
  putDyn c { r with badUntil := some until_, excUntil := if exc then some until_ else r.excUntil, dueAt := some (b + period2 s) } s

/-- The channel runs: enabled, its die not isolated, acquisition on. -/
def chanRuns (s : State) (c : Nat) : Bool := s.fret.acquiring && (dynLive s c).enable && !dieOut s (c / 32)

/-- The channel's die returns at this boundary: the reset of a rail change then comes after the return's (07, after R190). -/
def chanReturns (s : State) (c : Nat) : Bool := s.fret.acquiring && (dynLive s c).enable && (dieAt s (c / 32)).returnWait

/-- A rail whose settings have changed (R99, R104, R106). -/
def changeRail (b : Nat) (old : Settings) (s : State) (e : Nat) : State :=
  let o := tget railSet0 old.rails e
  let n := railLive s e
  if o = n then s
  else
    let r := railAt s e
    let q : RailRun := if n.voltage = 0 then { r with offCmd := r.offCmd || decide (o.voltage ≠ 0), outOfReg := false, limitSince := none }
      else { r with offCmd := false, tripped := false }
    let t := putRail e { q with changeEnd := some (b + period2 s) } s
    let u := if n.voltage = 0 then t else endAlarm 0x0203 e [] t
    ((List.range 8).map (8 * e + ·)).foldl (fun v c => if chanRuns v c || chanReturns v c then dueChange b c true v else v) u

/-- A run takes a channel's input settings; its chain stays (R107). -/
def retune (d : DynSet) (r : DynRun) : DynRun :=
  { r with set := { d with chain := r.set.chain, osr := r.set.osr, m := r.set.m, r := r.set.r, notch := r.set.notch, width := r.set.width } }

/-- Slices connected to a channel's input: its own, and the spare's. -/
def slicesOf (s : State) (c : Nat) : List Nat :=
  if spareConnected (spareAt s (c / 32)) && decide ((spareAt s (c / 32)).chan = c) then [c, 128 + c / 32] else [c]

/-- A new chain: the old run ends with its last output at or before `b`, the new one is reset at its own reset boundary (R172). -/
def rechain (b : Nat) (o d : DynSet) (r : DynRun) : DynRun :=
  let q := match r.resetAt with
    | some w => if w < b then switchRun o r w else r
    | none => r
  { q with resetAt := some (resetBoundary d b), oldUntil := b, causes := q.causes ||| causeRail }

/-- A dynamic channel whose settings have changed. A new chain makes the frets up to the one that holds the old chain's last output
unusable to captures of the channel (R248, DEDUCED, log 33). -/
def changeDyn (b : Nat) (old : Settings) (s : State) (c : Nat) : State :=
  let o := dynOf old c
  let n := dynLive s c
  if o = n || !s.fret.acquiring || dieOut s (c / 32) then s
  else if n.enable && !o.enable then
    let r := dynRun s c
    let q := { dynRun0 with stuck := r.stuck, stuckDue := r.stuckDue, tone := r.tone, badUntil := r.badUntil, excUntil := r.excUntil
                            dueAt := r.dueAt }
    resetChannel c b causeRail 0 true ((if r.stuck then replaceSlice c else id) (putDyn c q s))
  else if !n.enable then
    let r := dynRun s c
    putDyn c { dynRun0 with stuck := r.stuck, stuckDue := r.stuckDue, tone := r.tone } s
  else
    let s1 := if inputDiffers o n then
        dueChange b c false ((slicesOf s c).foldl (fun t k => putDyn k (retune n (dynRun t k)) t) s)
      else s
    if chainKey o = chainKey n then s1
    else
      relearn c b ((slicesOf s1 c).foldl (fun t k => putDyn k (rechain b o n (dynRun t k)) t)
        { s1 with hist.chainSince := tput 0 s1.hist.chainSince c (s1.fret.idx + 1) })

/-- Channels whose new chain finds the old chain's last output at `b` (R215). -/
def chainFirsts (b : Nat) (old : Settings) (s : State) : List Nat :=
  (List.range 128).filter (fun c =>
    let o := dynOf old c
    let n := dynLive s c
    chanRuns s c && o.enable && decide (chainKey o ≠ chainKey n) && decide (b % (2 * outNs o) = 0) && decide (outNs n ≤ s.live.period) &&
      (match (dynRun s c).runStart with | none => false | some st => decide (st < b)))

/-- The accepted settings take effect; courses and ports take theirs at the end of their cycles, the period while stopped (R23, R78,
R136, R433). -/
def copySettings (b : Nat) (s : State) : State :=
  let t : State := { s with live := { s.cfg with courses := s.live.courses, scan := s.live.scan, fp := s.live.fp, dir := s.live.dir } }
  if t.live.period = s.live.period then t else { t with fret.idx := b / period2 t }

/-- All changes of settings at a boundary. A channel enabled there keeps the tags and the reset of its rail's change (R100, R106). -/
def changeSettings (b : Nat) (s : State) : State :=
  let t := ringChange s.live.ring (copySettings b s)
  (List.range 128).foldl (changeDyn b s.live) ((List.range 16).foldl (changeRail b s.live) t)

/-- Channel, rail and VEXC settings at the boundary of a large step: they take effect there, and the reset of R54 stands for theirs (04, after
R107). -/
def stepSettings (b : Nat) (s : State) : State :=
  let t : State := { s with live := { s.live with dyn := s.cfg.dyn, rails := s.cfg.rails, vexc := s.cfg.vexc } }
  (List.range 128).foldl (changeDyn b s.live) ((List.range 16).foldl (changeRail b s.live) t)

/-! ### Start and stop (R78, R399 to R401) -/

/-- Every run ends. -/
def dropAllRuns (s : State) : State :=
  { s with fe.dyn := s.fe.dyn.map (fun e =>
      (e.1, { e.2 with runStart := none, resetAt := none, causes := 0, edges := 0, outs := 0, window := [], notches := [], overload := []
                       owUntil := none, owRun := 0, owRaised := false, dueAt := none, badUntil := none, excUntil := none })) }

/-- ACQ_STOP takes effect at boundary `b`, with the fret before it the last gathered (R401). -/
def stopNow (b : Nat) (s : State) : State :=
  let last := s.fret.idx - 1
  let s1 := dropAllRuns { s with fret.acquiring := false, fret.stopAt := false, fe.syncEdges := 0, fe.syncAt := none }
  let s2 := (List.range 8).foldl (fun t u => cutCapture u last stCutShort false false t) s1
  let s3 := (List.range 32).foldl (fun t c => stopCourse 2 c t) s2
  stopReductions last (b / 2) ((List.range 8).foldl (fun t p => stopPort p t) s3)

/-- A die has a set that still reads NOT_RUN (R195). -/
def calMissing (s : State) (k : Nat) : Bool := (List.range 41).any (fun i => decide ((factorsAt s (dieSet k i)).set.result = 7))

/-- Acquisition starts at boundary `b`: every decimator begins a run (R78, R195). -/
def startNow (b : Nat) (s : State) : State :=
  let s1 := { s with fret.acquiring := true, hist.since := s.fret.idx, hist.sincePage := s.hist.nextPage, hist.freed := [] }
  let s2 := (runningChans s1).foldl (fun t c => resetChannel c b causeStart 0 true t) s1
  let s3 := (List.range 8).foldl restartAuto s2
  [0, 1, 2, 3].foldl (fun t k => if calMissing t k then event 0x0212 k [] t else t) s3

/-- ACQ_START commands that fall due at `b`: in the safe state they are refused (R399, R400). -/
def startBoundary (b : Nat) (s : State) : State :=
  if b % period2 s ≠ 0 then s
  else
    match s.fret.startAt.filter (fun e => decide (e.1 ≤ b)) with
    | [] => s
    | e :: es =>
      let t := { s with fret.startAt := s.fret.startAt.filter (fun e => decide (b < e.1)) }
      if t.safety.safe then (e :: es).foldl (fun u x => finish x.2 0x0003 (refusedState 8 0) u) t
      else
        (e :: es).foldl (fun u x => finishAt x.2 0x0003 okReply (u.fret.idx % 4294967296) u) (if t.fret.acquiring then t else startNow b t)

/-! ### Resets (R106, R167 to R170) -/

/-- SYNC_IN resets (R169). -/
def syncBoundary (b : Nat) (s : State) : State :=
  match s.fe.syncAt with
  | none => s
  | some a =>
    if a ≤ b then
      let n := s.fe.syncEdges
      let t := { s with fe.syncEdges := 0, fe.syncAt := none }
      if t.fret.acquiring then (runningChans t).foldl (fun u c => resetChannel c b causeSync n false u) t else t
    else s

/-- Command resets (R170). -/
def commandResets (b : Nat) (s : State) : State :=
  (s.fe.resets.filter (fun e => decide (e.1 ≤ b))).foldl (fun t e =>
    let u := if t.fret.acquiring then
        ((runningChans t).filter (fun c => e.2.1.contains c)).foldl (fun v c => resetChannel c b causeCommand 0 false v) t else t
    finishAt e.2.2 0x020B okReply (u.fret.idx % 4294967296) u)
    { s with fe.resets := s.fe.resets.filter (fun e => decide (b < e.1)) }

/-- Resets b + P after a rail or channel change (R106, R107). -/
def changeResets (b : Nat) (s : State) : State :=
  ((List.range 128).filter (fun c => match (dynRun s c).dueAt with | none => false | some a => decide (a ≤ b))).foldl (fun t c =>
    let u := putDyn c { dynRun t c with dueAt := none } t
    if chanRuns u c then resetChannel c b causeRail 0 false u else u) s

/-- The reset of a large step: every channel, and the spares with them, begin again without a word at the reset boundary (R54, R172). -/
def stepResets (b : Nat) (s : State) : State :=
  (runningChans s).foldl (fun t c =>
    let u := resetChannel c b causeStep 0 true t
    (slicesOf u c).foldl (fun v k => putDyn k { dynRun v k with noStart := true } v) u) s

/-! ### Completions and the rest (R23, R392) -/

/-- Commands whose change has taken effect complete. -/
def boundaryCompletions (s : State) : State :=
  s.fret.atBoundary.foldl (fun t e => finishAt e.1 e.2 okReply (t.fret.idx % 4294967296) t) { s with fret.atBoundary := [] }

/-- Value outputs take new settings (R452, R456); none in the safe state (R458). -/
def outputBoundary (s : State) : State :=
  if s.safety.safe then { s with loc.valSet := [] } else { s.loc.valSet.foldl setOutput s with loc.valSet := [] }

end Sys2Proof.Machine
end

