-- ==== Sys2Proof/Machine/Boundary.lean ====
section
/-! DEFINITION. The fret boundary: gathering, processing and closing, overrun, time steps (03, R75 to R90; 02, R52 to R55). -/

namespace Sys2Proof.Machine

/-! ### Buffers (R76, R81) -/

/-- What the gathering buffer holds of the fret that boundary `b` opens, and the buffer without it (R76). -/
def splitBuf (b : Nat) (x new : FretBuf) : FretBuf × FretBuf :=
  ({ x with dyn := x.dyn.filter (fun o => decide (o.done < b)), scans := x.scans.filter (fun o => decide (o.slotEnd < b))
            polls := x.polls.filter (fun o => decide (o.ready < b)), epochs := x.epochs.filter (fun e => decide (2 * e.1 < b)) },
   { new with dyn := x.dyn.filter (fun o => decide (b ≤ o.done)), scans := x.scans.filter (fun o => decide (b ≤ o.slotEnd))
              polls := x.polls.filter (fun o => decide (b ≤ o.ready)), epochs := new.epochs ++ x.epochs.filter (fun e => decide (b ≤ 2 * e.1)) })

/-- The die of an output that its isolation ends with. -/
def dropOffline (dies : List Nat) (x : FretBuf) : FretBuf :=
  { x with dyn := x.dyn.filter (fun o => !dies.contains (o.chan / 32)), scans := x.scans.filter (fun o => !dies.contains (o.course / 8)) }

/-- POST_FILTER_PASS on the fret gathered; it joins those that wait for their close. -/
def processGathered (s : State) : State :=
  match s.fret.gather with
  | none => swapsIdle (s.fret.acquiring && !s.safety.safe) s
  | some x =>
    if x.gathered then
      let w := filterPass x s
      let y := { w.1 with events := match w.2.fret.gather with | some g => g.events | none => w.1.events }
      { w.2 with fret.closing := w.2.fret.closing ++ [y], fret.gather := none }
    else
      let t := swapsIdle false s
      { t with fret.closing := t.fret.closing ++ [x], fret.gather := none }

/-- The frets processed by the last boundary close 128 CCLK from now; those before a large step wait their full period (R81, R90). -/
def closesDue (s : State) : State :=
  { s with
    fret.closing := if s.time.cclk < s.fret.holdClose then s.fret.closing else s.fret.closing.map (fun x => { x with due := true })
    fret.closeDue := true, fret.closeAt := s.time.cclk + 128 }

/-! ### Time steps (R47, R48, R52 to R55, R90) -/

/-- A waiting increment takes effect, saturated (R47, R48). -/
def takeIncrement (s : State) : State :=
  match s.time.incNext with
  | none => s
  | some v =>
    let w := min 8796972631510 (max 8795213412906 v)
    let t := { s with time.inc := w, time.incNext := none }
    if w = v then t else setSource 133 { t with time.dcoClamp := true }

/-- Ends of running durations move with the time (the model holds them as instants of hub time). -/
def moveEnds (d : Int) (s : State) : State :=
  { s with
    fe.rails := s.fe.rails.map (fun e => (e.1, { e.2 with limitSince := e.2.limitSince.map (moved d), changeEnd := none }))
    fe.dies := s.fe.dies.map (fun e => (e.1, { e.2 with loadEnd := e.2.loadEnd.map (moved d) }))
    fe.spares := s.fe.spares.map (fun e => (e.1, { e.2 with dueAt := moved d e.2.dueAt }))
    fe.rotation := s.fe.rotation.map (fun e => (e.1, { e.2 with start := moved d e.2.start }))
    red.testEnd := s.red.testEnd.map (moved (d / 2))
    red.pauses := s.red.pauses ++ ((s.red.pauses.filter (fun p => p.meets (eraNow s) (s.time.half / 2) (s.time.half / 2 + 1))).map (fun p =>
        { start := moved (d / 2) p.start, stop := p.stop.map (moved (d / 2)), era := s.hist.era + 1 })) }

/-- Runs end with the old time at boundary `b`: what they still hold is not delivered; a reset that still waits gives its causes to the reset to
come (R54, R171, R172). -/
def cutRuns (b : Nat) (s : State) : State :=
  { s with fe.dyn := s.fe.dyn.map (fun e =>
      let r := e.2
      let waits := match r.resetAt with | none => false | some w => decide (b ≤ w)
      (e.1, { r with runStart := none, resetAt := none, dueAt := none, badUntil := none, excUntil := none, owUntil := none, overload := []
                     causes := if waits then r.causes else 0, edges := if waits then r.edges else 0 })) }

/-- Hub time and the fret grid as a large step leaves them, with LOCKED earned anew (R54, R68). -/
def newGrid (t2 : Nat) (s : State) : State :=
  let t := setLocked false s
  { t with
    time := { t.time with half := t2, step := 0, reload := none, stepBig := true, walk := []
                          mclkEdge := s.time.cclk + ceilDiv (200 * ceilDiv t2 200 - t2) 5 }
    ptp.goodSyncs := 0
    ptp.sentSyncs := 0
    ptp.largeSteps := s.ptp.largeSteps + 1
    fret := { s.fret with idx := t2 / period2 s, boundary := t2 / period2 s * period2 s, regrid := true
                          holdClose := s.time.cclk + fretCclk s.live }
    trig.flight := s.trig.flight.map (fun w => { w with arrive := 0 })
    fe.syncAt := s.fe.syncAt.map (fun _ => 0)
    hist.chainSince := [] }

/-- What runs in the old time ends at boundary `b`: captures, reduction intervals, slots, polls and the dies' runs (R54, R90, R255). -/
def oldTimeEnds (b t2 : Nat) (s : State) : State :=
  let n := s.fret.idx
  let s1 := (List.range 8).foldl (fun t u => cutCapture u (n - 1) stTimeStepped false false t) s
  let s2 := stepReductions (n - 1) (b / 2) s1
  let s3 := (List.range 32).foldl (fun t c => regridCourse 0 c t) s2
  let s4 := (List.range 8).foldl (fun t p => stopPort p t) s3
  [0, 1, 2, 3].foldl (fun t k => restartCal k t) (moveEnds ((t2 : Int) - s.time.half) (cutRuns b s4))

/-- A large step at boundary `b`: the time jumps to `t2`, LOCKED clears, MCLK starts again with its first edge on the next 100 ns grid point,
and the boundary at which it is regridded is still to come (R54, R68, R90). -/
def largeStep (b t2 : Nat) (s0 : State) : State :=
  let s := stepSettings b s0
  let timed (e : CmdHdr × Nat) : Bool := [0x0101, 0x0102, 0x0202, 0x0203, 0x0204, 0x0205].contains e.2
  let t := event 0x0102 0 (secNs (s.time.half / 2) ++ secNs (t2 / 2)) (newGrid t2 (oldTimeEnds b t2 s))
  (t.fret.atBoundary.filter timed).foldl (fun t e => finishAt e.1 e.2 okReply (s.fret.idx % 4294967296) t)
    { t with fret.atBoundary := t.fret.atBoundary.filter (fun e => !timed e) }

/-- The MCLK periods that a small step of `k` CCLK changes: ⌈|k| / 8⌉ of them, each by 8 CCLK, the last by what is left (R53; that the last
takes the rest is a DESIGN CHOICE, log 85). -/
def walkPeriods (k : Int) : List Nat :=
  (List.range (ceilDiv k.natAbs 8)).map (fun i => let n := min 8 (k.natAbs - 8 * i); if 0 < k then 40 - n else 40 + n)

/-- A small step: the counter takes it, and MCLK walks back to the grid from the edge of the boundary (R53). -/
def smallStep (s : State) : State :=
  let k := s.time.step
  if k = 0 then s
  else event 0x0101 0 (leSigned 4 k) { s with time := { s.time with half := moved (5 * k) s.time.half, step := 0, walk := walkPeriods k } }

/-! ### FRET_BOUNDARY -/

/-- Blocks at a boundary, in turn: dies, trims, spares, courses, units, conditions, reductions, streams, lanes, outputs, ports. -/
def unitsAtBoundary (b : Nat) (s : State) : State :=
  let s1 := finishWrites (s.fret.idx % 4294967296) (walkTrims s)
  let s2 := [0, 1, 2, 3].foldl (fun t k => dieBoundary b k t) s1
  let s3 := (List.range 132).foldl (fun t n => declareStuck n t) (wireBoundary b s2)
  let s4 := [0, 1, 2, 3].foldl (fun t k => spareBoundary k b t) s3
  let s5 := (List.range 32).foldl (fun t c => if t.fret.acquiring && !dieOut t (c / 8) then courseBoundary b c t else applyCourse c t) s4
  let s6 := triggerBoundary ((List.range 8).foldl unitBoundary s5)
  let s7 := laneBoundary b (unsubscribeBoundary (reductionBoundary (b / 2) s6))
  (List.range 8).foldl (portBoundary b) (outputBoundary s7)

/-- The buffer's facts once the boundary has settled (R119, R211, R219). -/
def settleBuffer (firsts : List Nat) (s : State) : State :=
  match s.fret.gather with
  | none => s
  | some x =>
    let out := [0, 1, 2, 3].filter (dieOut s)
    let served := ([0, 1, 2, 3].filter (fun k => spareServes (spareAt s k))).map (fun k => ((spareAt s k).chan, k))
    let y := dropOffline out { x with offline := out, served := served, chainFirst := if x.stepShort then [] else firsts
                                      dynSet := s.live.dyn, scanSet := s.live.scan, gathered := s.fret.acquiring }
    { s with fret.gather := some { y with opened := streamsToOpen { s with fret.gather := none } } }

/-- What takes effect at a boundary on the grid: settings, stop and start, the new fret, resets, and every block in turn. -/
def openFret (b : Nat) (late : Option FretBuf) (s : State) : State :=
  let firsts := chainFirsts b s.live (copySettings b s)
  let s1 := changeSettings b s
  let s2 := if s1.fret.stopAt then stopNow b s1 else s1
  let s3 := { s2 with fret.regrid := false, fret.gather := none }
  let new := newBuf s3.fret.idx b s3
  let first := { new with stepShort := s2.fret.regrid, epochs := if s2.fret.regrid then [(b / 2, 2)] else [], events := s3.fret.early
                          era := s3.hist.era + b2n s2.fret.regrid }
  let held := match late with | none => first | some x => (splitBuf b x first).2
  let s4 := if s3.safety.safe then s3 else { s3 with fret.gather := some held, fret.early := [] }
  let s5 := if s2.fret.regrid then
      stepResets b { s4 with hist := { s4.hist with since := s4.fret.idx, sincePage := s4.hist.nextPage, freed := [], era := s4.hist.era + 1
                                                    upBefore := s4.hist.upTo, upTo := 0 } } else s4
  let s6 := startBoundary b s5
  let s7 := changeResets b (commandResets b (syncBoundary b s6))
  let s8 := resetsFallDue b (drillHalt (unitsAtBoundary b s7))
  boundaryCompletions (settleBuffer firsts s8)

/-- The boundary while the hub is in its safe state: nothing is gathered; the closes of the entry fall due, and recovery takes effect
(R468, R471). -/
def safeBoundary (b : Nat) (entered : Bool) (s : State) : State :=
  let t := { s with safety.closeDue := !s.safety.closed && !entered, fret.closeAt := s.time.cclk + 128 }
  match largeStepTo t with
  | some t2 => takeIncrement (largeStep b t2 t)
  | none => takeIncrement (smallStep (openFret b none (leaveSafe t)))

/-- At an overrun the fret that begins with the boundary is in progress, and the one before it waits for its close (R87, R468). -/
def overrunBuffers (b : Nat) (s : State) : State :=
  { s with fret.closing := s.fret.closing ++ s.fret.gather.toList
           fret.gather := some { newBuf s.fret.idx b s with gathered := s.fret.acquiring && !s.fret.stopAt } }

/-- FRET_BOUNDARY: none while CCLK is lost (R469). A late engine is a fret overrun (R87). -/
def onBoundary (late : Bool) (s : State) : State :=
  if s.safety.clockLost.contains .cclk then s
  else
    let b := period2 s * (s.fret.idx + 1)
    let s1 := endShare (toInstant b s)
    let s2 := { s1 with fret.idx := s1.fret.idx + 1, fret.boundary := b }
    let was := s2.safety.safe
    let s3 := if late then safeCause 3 false (overrunBuffers b s2) else s2
    if s3.safety.safe then safeBoundary b (!was) s3
    else
      let x := s3.fret.gather
      let cut := { s3 with fret.gather := x.map (fun g => (splitBuf b g g).1) }
      let s4 := { cut with live := { cut.live with banks := cut.cfg.banks } }
      match largeStepTo s3 with
      | some t2 => takeIncrement (largeStep b t2 { processGathered (closesDue s4) with fret.gather := none })
      | none => takeIncrement (smallStep (openFret b x (processGathered (closesDue s4))))

def execFretBoundary (late : Bool) (s : State) : Host.Outcome State Fault Refusal := .next (onBoundary late s)

end Sys2Proof.Machine
end

