-- ==== Sys2Proof/Machine/RecordClose.lean ====
section
/-! DEFINITION. The record close: die blocks, the history and the streams' data records (08, R203 to R221; 11, R294 to R298; 10, R266;
17, R437, R439), and the EPOCH instants (02, R71). -/

namespace Sys2Proof.Machine

/-! ### Die blocks (R210, R212, R214, R216, R437) -/

/-- Enabled dynamic and scanned channels of a die in a fret. -/
def dynEnabled (x : FretBuf) (k : Nat) : List Nat := ((List.range 32).map (32 * k + ·)).filter (fun c => (tget dynSet0 x.dynSet c).enable)
def scanEnabled (x : FretBuf) (k : Nat) : List Nat := ((List.range 64).map (64 * k + ·)).filter (fun c => (tget scanSet0 x.scanSet c).enable)

/-- A channel has an output instant in the fret: a multiple of its T_out lies in it, beside the reset boundary of a large step, whose output
is not delivered (R54, R210, R214). -/
def hasInstant (p : Nat) (x : FretBuf) (c : Nat) : Bool :=
  decide (resetBoundary (tget dynSet0 x.dynSet c) (x.start + b2n x.stepShort) < x.start + 2 * p)

/-- The words of a channel, in order of completion. -/
def dynWordsOf (x : FretBuf) (c : Nat) : List OutWord := x.words.filter (fun w => decide (w.chan = ⟨.dynamic, c⟩))

/-- The DYN block of a die over some of its channels: none where no channel has a word; offline where the die is isolated. -/
def dynBlock (p : Nat) (right : Bool) (sel : List Nat) (x : FretBuf) (k : Nat) : Option Block :=
  if x.offline.contains k then
    match sel.filter (hasInstant p x) with
    | [] => none
    | cs => some (offlineBlock 9 k (maskOf (cs.map (· % 32))))
  else
    match sel.filter (fun c => !(dynWordsOf x c).isEmpty) with
    | [] => none
    | cs => some (aligned right (mkBlock 1 k 0 (maskOf (cs.map (· % 32)))
        ((cs.map (fun c => ((dynWordsOf x c).map (fun w => leBytes 4 (sampleWord right w.field w.tags))).flatten)).flatten)))

/-- Results of a die's courses over some of its channels, in course order. -/
def scanWordsOf (sel : List Nat) (x : FretBuf) : List OutWord :=
  ((sortNats sel).map (fun c => x.scanWords.filter (fun w => decide (w.chan = ⟨.scanned, c⟩)))).flatten

/-- One nibble per course: present, with the position. -/
def scanSelect (cs : List Nat) : Nat := cs.foldl (fun a c => a ||| ((8 + c % 8) * 16 ^ (c / 8 % 8))) 0

/-- Courses of a die whose result in the fret is urgent: bit i for course 8 k + i (R207). -/
def urgentMask (x : FretBuf) (ws : List OutWord) : Nat :=
  maskOf ((ws.filter (fun w => x.scans.any (fun r => r.urgent && decide (8 * r.course + r.pos = w.chan.num)))).map (fun w => w.chan.num / 8 % 8))

/-- The SCAN block of a die. -/
def scanBlock (right : Bool) (sel : List Nat) (x : FretBuf) (k : Nat) : Option Block :=
  match scanWordsOf sel x with
  | [] => none
  | ws => some (aligned right (mkBlock 2 k (urgentMask x ws) (scanSelect (ws.map (·.chan.num)))
      ((ws.map (fun w => leBytes 4 (sampleWord right w.field w.tags))).flatten)))

/-- The offline SCAN block of a die: the lowest selected enabled position of each course (R210). -/
def scanOffline (sel : List Nat) (k : Nat) : Option Block :=
  match ((List.range 8).filterMap (fun i => (sortNats sel).find? (fun c => decide (c / 8 = 8 * k + i)))) with
  | [] => none
  | cs => some (offlineBlock 10 k (scanSelect cs))

/-- Alignment of the stream that selects a polled channel; left where none does. -/
def pollRight (s : State) (p : Nat) : Bool :=
  s.streams.any (fun e => e.2.isOpen && decide (e.2.type = tyPolled) && e.2.right && e.2.select.contains p)

/-- The POLL block of a result (R437). -/
def pollBlock (s : State) (o : PollOut) : Block :=
  aligned (pollRight s o.p) (mkBlock 3 o.port (b2n o.retried) (o.p + 2048 * b2n o.write)
    (leBytes 4 (sampleWord (pollRight s o.p) o.field o.tags) ++ leBytes 4 (stampOf o.inst) ++
      [BitVec.ofNat 8 o.status, BitVec.ofNat 8 o.attempts, BitVec.ofNat 8 o.exc, 0]))

/-! ### The history (R294, R295) -/

/-- Put a block of a lane into the history; an offline block takes no slice. -/
def historyBlock (lane fret era : Nat) (b : Option Block) (s : State) : State :=
  match b with
  | none => s
  | some b =>
    if 8 ≤ b.kind then { s with hist.blocks := s.hist.blocks ++ [{ lane := lane, fret := fret, era := era, slice := none, block := b }] }
    else writeLane lane fret era b s

/-- A gathered fret enters the history. -/
def writeHistory (x : FretBuf) (s : State) : State :=
  let p := s.live.period
  let dies := [0, 1, 2, 3]
  let scanned := dies.any (fun k => !x.offline.contains k && !(scanWordsOf (scanEnabled x k) x).isEmpty)
  let s1 := dies.foldl (fun t k => historyBlock (laneDyn k) x.idx x.era (dynBlock p false (dynEnabled x k) x k) t) s
  let s2 := dies.foldl (fun t k => historyBlock (laneScan k) x.idx x.era
    (if x.offline.contains k then (if scanned then scanOffline (scanEnabled x k) k else none) else scanBlock false (scanEnabled x k) x k) t) s1
  let s3 := (List.range 8).foldl (fun t q => (x.polls.filter (fun o => decide (o.port = q))).foldl (fun u o =>
    historyBlock (lanePort q) x.idx x.era (some (pollBlock u o)) u) t) s2
  if x.era = s3.hist.era then { s3 with hist.upTo := x.idx + 1 } else { s3 with hist.upBefore := x.idx + 1 }

/-! ### The data records (R210 to R217, R298, R439) -/

/-- Close a data record: blocks with the lanes whose history blocks serve them, or none. -/
def closeData (n type stamp flags aux : Nat) (x : FretBuf) (bs : List (Block × Option Nat)) (s : State) : State :=
  closeInto n type stamp x.idx x.era flags aux (bs.map (·.1)) (bs.filterMap (·.2))
    (32 :: (bs.filter (fun b => b.2.isNone)).map (fun b => (blockBytes b.1).length)) s

/-- The lane that serves a die block: the selection is the die's enabled channels, in left alignment (R212). -/
def serves (lane : Nat) (right : Bool) (sel enabled : List Nat) (b : Block) : Block × Option Nat :=
  (b, if right || decide (sel ≠ enabled) || decide (8 ≤ b.kind) then none else some lane)

/-- Short stamp of a time that may lie before zero. -/
def stampInt (t : Int) : Nat := (t % 4294967296).toNat

/-- The SAMPLE record of a stream (R210, R212 to R215). -/
def closeSample (n : Nat) (x : FretBuf) (s : State) : State :=
  let c := streamAt s n
  let sel (k : Nat) : List Nat := (dynEnabled x k).filter (fun j => c.select.contains j)
  let bs := [0, 1, 2, 3].filterMap (fun k =>
    (dynBlock s.live.period c.right (sel k) x k).map (serves (laneDyn k) c.right (sel k) (dynEnabled x k)))
  let all := ([0, 1, 2, 3].map sel).flatten
  match bs, all with
  | [], _ => s
  | _, [] => s
  | _, j :: _ =>
    let d := tget dynSet0 x.dynSet j
    let first := !x.stepShort && all.any (fun i => x.chainFirst.contains i)
    let tc := if first then x.start / 2 else resetBoundary d x.start / 2
    let aux := if first then
        (match x.words.find? (fun w => decide (w.chan.kind = .dynamic) && all.contains w.chan.num) with | none => 0 | some w => stampOf w.inst)
      else 0
    closeData n tySample (stampInt ((tc : Int) - delayTotal d)) (64 * b2n x.stepShort + 128 * b2n first) aux x bs s

/-- The SCAN record of a stream: it closes where a die that is not isolated has a result (R210, R216, R217). -/
def closeScan (n : Nat) (x : FretBuf) (s : State) : State :=
  let c := streamAt s n
  let sel (k : Nat) : List Nat := (scanEnabled x k).filter (fun j => c.select.contains j)
  let real := [0, 1, 2, 3].any (fun k => !x.offline.contains k && !(scanWordsOf (sel k) x).isEmpty)
  if real then
    let bs := [0, 1, 2, 3].filterMap (fun k =>
      (if x.offline.contains k then scanOffline (sel k) k else scanBlock c.right (sel k) x k).map
        (serves (laneScan k) c.right (sel k) (scanEnabled x k)))
    closeData n tyScan (stampOf (x.start / 2)) 0 0 x bs s
  else s

/-- The POLLED record of a stream (R439). -/
def closePolled (n : Nat) (x : FretBuf) (s : State) : State :=
  let c := streamAt s n
  match ((List.range 8).map (fun q => x.polls.filter (fun o => decide (o.port = q) && c.select.contains o.p))).flatten with
  | [] => s
  | os => closeData n tyPolled (stampOf (x.start / 2)) 0 0 x (os.map (fun o => (pollBlock s o, some (lanePort o.port)))) s

/-- An event in its place in the order of stamps, from the fret's start on (R44, R218). -/
def insertEvent (start : Nat) (e : Event) : List Event → List Event
  | [] => [e]
  | f :: fs => if stampDiff e.stamp start < stampDiff f.stamp start then e :: f :: fs else f :: insertEvent start e fs

/-- The events of hardware that a fret has for a stream, in the order of their stamps (R218). -/
def fretEvents (x : FretBuf) (n : Nat) : List Event :=
  ((x.events.filter (fun e => decide (e.1 = n))).map (·.2)).foldl (fun es e => insertEvent (stampOf (x.start / 2)) e es) []

/-- The EVENT records of a stream that close with a fret: those of hardware, and those held whose allowance has come back (R218, R329). -/
def closeEvents (x : FretBuf) (s : State) (n : Nat) : State :=
  closeHeld x.idx ((fretEvents x n).foldl (fun t e => closeEvent n x.idx e t) s) n

/-- The records of one stream for a fret: its START EPOCH, the EPOCHs of the fret, the data record, the EVENT records (R218, R219, R221). -/
def closeStream (x : FretBuf) (s : State) (n : Nat) : State :=
  let opens := x.opened.contains n && !(streamAt s n).started
  let s1 := if opens then closeEpoch (x.start / 2) 1 x.idx n s else s
  if (streamAt s1 n).started then
    let s2 := x.epochs.foldl (fun t e => closeEpoch e.1 e.2 x.idx n t) s1
    let type := (streamAt s2 n).type
    let s3 := if !x.gathered then s2
      else if type = tySample then closeSample n x s2 else if type = tyScan then closeScan n x s2
      else if type = tyPolled then closePolled n x s2 else s2
    closeEvents x s3 n
  else s1

/-! ### RECORD_CLOSE (R81, R266, R309, R421, R455) -/

/-- Value outputs take the words of a closed fret (R453, R455). -/
def feedOutputs (x : FretBuf) (s : State) : State :=
  let s1 := (x.words ++ x.scanWords).foldl (fun t w => valWords w.chan w.signed w.tags t) s
  x.polls.foldl (fun t o => valWords ⟨.polled, o.p⟩ o.signed o.tags t) s1

/-- The records of one fret close. -/
def closeFret (s : State) (x : FretBuf) : State :=
  let s1 := if x.gathered then writeHistory x s else s
  let s2 := (openStreams s1).foldl (closeStream x) s1
  if x.gathered then reduceFret x (feedOutputs x s2) else s2

/-- RECORD_CLOSE: 128 CCLK after the boundary, the staging buffer empties and the frets that are due close. -/
def onRecordClose (s : State) : State :=
  if s.fret.closeDue && !s.safety.safe then
    let s1 := moveStaging { toCclk s.fret.closeAt s with fret.closeDue := false }
    let s2 := { s1 with fret.closing := s1.fret.closing.filter (fun x => !x.due) }
    let s3 := poisonRoom ((s1.fret.closing.filter (·.due)).foldl closeFret s2)
    if 0 < s3.fret.holdClose ∧ s3.fret.holdClose ≤ s3.time.cclk then { reduceCut s3 with fret.holdClose := 0 } else s3
  else s

def execRecordClose (s : State) : Host.Outcome State Fault Refusal := .next (onRecordClose s)

/-! ### EPOCH_DUE (R71) -/

/-- The next multiple of 2^30 ns, in half ns, at or after now; one that a positive small step jumps over has none (DESIGN CHOICE, log 86). -/
def epochInstant (s : State) : Nat := 2147483648 * ceilDiv s.time.half 2147483648

/-- EPOCH_DUE: an EPOCH for every active stream in the fret that holds the instant; none in the safe state. -/
def onEpochDue (s : State) : State :=
  let t := toInstant (epochInstant s) s
  if t.safety.safe then t
  else
    match t.fret.gather with
    | none => t
    | some x =>
      let e := (epochInstant s / 2, 0)
      if x.epochs.contains e then t else { t with fret.gather := some { x with epochs := x.epochs ++ [e] } }

def execEpochDue (s : State) : Host.Outcome State Fault Refusal := .next (onEpochDue s)

end Sys2Proof.Machine
end

