-- ==== Sys2Proof/Machine/BootUpdate.lean ====
section
/-! DEFINITION. Reset, boot, the owner lock, update sessions, commits and trials (20, R483 to R497; 21, R503, R504; 15, R406). -/

namespace Sys2Proof.Machine

/-! ### The boot flash (R483, R484) -/

/-- A flash byte: as programmed, or as it left the board maker (DEDUCED, log 5). -/
def flashAt (s : State) (a : Nat) : Nat :=
  match s.boot.flash.find? (fun c => decide (c.1 = a)) with
  | some c => c.2.toNat
  | none => Config.flashByte a % 256

/-- First byte of slot 0 (A) or 1 (B), and the bytes of a slot. -/
def slotBase (n : Nat) : Nat := if n = 0 then 0x0100000 else 0x2100000
def slotBytes : Nat := 32505856

/-- Cells for bytes from an address on. -/
def cellsFrom (a : Nat) : List Byte → List Host.Cell
  | [] => []
  | b :: bs => (a, b) :: cellsFrom (a + 1) bs

/-- Program bytes at `a`, in a region that ends at `stop`: what the region held from `a` on is gone (R493, DEDUCED, log 5). -/
def flashPut (a stop : Nat) (bs : List Byte) (m : List Host.Cell) : List Host.Cell :=
  m.filter (fun c => decide (c.1 < a)) ++ cellsFrom a bs ++ m.filter (fun c => decide (stop ≤ c.1 ∧ a + bs.length ≤ c.1))

/-- A little-endian field of `n` bytes at `a`. -/
def flashField (s : State) (a : Nat) : Nat → Nat
  | 0 => 0
  | n + 1 => flashAt s a + 256 * flashField s (a + 1) n

/-- The header of the image in a slot (R484). -/
def imageHead (s : State) (n : Nat) : ImageHead :=
  let b := slotBase n
  { clesinVer := flashField s (b + 8) 4, jorvaHi := flashAt s (b + 12), feIf := flashAt s (b + 13), ckptFmt := flashAt s (b + 14)
    svn := flashAt s (b + 15) }

/-- The image in a slot is valid (R485). -/
def imageValid (s : State) (n : Nat) (signed : Bool) : Bool :=
  let b := slotBase n
  let len := flashField s (b + 16) 4
  let inside (k : Nat) : Bool :=
    decide (128 ≤ flashField s (b + 20 + 8 * k) 4) && decide (flashField s (b + 20 + 8 * k) 4 + flashField s (b + 24 + 8 * k) 4 ≤ len)
  decide (flashField s b 4 = 0x3148564E) && decide (flashAt s (b + 4) = 1) && decide (256 ≤ len ∧ len ≤ slotBytes) &&
    inside 0 && inside 1 && inside 2 && decide (s.boot.bcb.minSvn ≤ flashAt s (b + 15)) && signed

/-! ### Reset (R33, R504) -/

def execPowerOnReset (s : State) : Host.Outcome State Fault Refusal := .next (hubReset s)
def execResetAssert (s : State) : Host.Outcome State Fault Refusal := .next (hubReset s)

/-! ### Slot choice (R488) -/

/-- A slot has been booted as TRIAL. -/
def slotBooted (s : State) (n : Nat) : Bool := if n = 0 then s.boot.bcb.bootedA else s.boot.bcb.bootedB

/-- The boot tries a slot: none where it cannot be taken; a TRIAL slot is marked booted, and FAILED when it already was. -/
def trySlot (n : Nat) (valid : Bool) (s : State) : Bool × State :=
  let st := slotState s n
  if st = slTrial ∧ slotBooted s n = true then (false, putSlot n slFailed s)
  else if valid && decide (st = slTrial) then
    (true, putBcb (fun c => if n = 0 then { c with bootedA := true } else { c with bootedB := true }) s)
  else (valid && decide (st = slConfirmed), s)

/-- The preferred slot. -/
def preferred (s : State) : Nat := b2n s.boot.bcb.preferB

/-- The slot chosen, or none: recovery mode. -/
def chooseSlot (f : BootFindings) (s : State) : Option Nat × State :=
  let p := preferred s
  let ok (n : Nat) : Bool := if n = 0 then f.slotAValid else f.slotBValid
  let a := trySlot p (ok p) s
  if a.1 then (some p, a.2)
  else
    let b := trySlot (1 - p) (ok (1 - p)) a.2
    if b.1 then (some (1 - p), b.2) else (none, b.2)

/-! ### Boot (R406, R409, R487, R489) -/

/-- A BOOT_STEP entry of the log (R379). -/
def bootStep (row slot micros : Nat) (s : State) : State :=
  logEntry 0x0301 ([BitVec.ofNat 8 row, BitVec.ofNat 8 slot] ++ leBytes 4 micros ++ List.replicate 16 0) s

/-- The pair's self-test at boot. -/
def bootTest (p : Pair) (passes : Bool) (s : State) : State :=
  if passes then pairTested p .pass s else pairTested p (.fail (freshNat s % 3)) (useFree s)

/-- The boot self-tests: P0 goes on, or P1 boots in its place (R409). -/
def bootPairs (f : BootFindings) (s : State) : State :=
  if f.p0Passes then s
  else
    let t := bootTest .p0 false s
    if f.p1Passes then setPair .p1 .starting t else bootTest .p1 false t

/-- The block in force: the valid copy with the higher write count. Copy 0 is written first, so it is never the older (R483, R521). -/
def blockInForce (f : BootFindings) (s : State) : BootBlock :=
  if f.copy0Whole then s.boot.bcb else if f.copy1Whole then (if f.copy1Old then s.boot.bcbOld else s.boot.bcb) else blankBlock

/-- Reset is released: the boot begins. -/
def beginBoot (f : BootFindings) (s : State) : State :=
  let s1 := bootStep 1 0 0 { s with boot.inReset := false, boot.resetAt := some s.time.cclk, boot.bcb := blockInForce f s }
  let s2 := bootPairs f s1
  if (pairIn .starting s2).isNone then s2
  else
    match chooseSlot f s2 with
    | (none, t) => { t with boot.recovery := true }
    | (some n, t) => { t with boot.running := n, boot.booting := some f }

/-- RESET_RELEASE: after power-up, after an assertion, and for a reset that the hub owes itself (R487, R494, R496). -/
def onResetRelease (f : BootFindings) (s : State) : State :=
  if s.boot.resetDue then beginBoot f (hubReset s)
  else if s.boot.inReset || s.boot.resetAt.isNone then beginBoot f s
  else s

def execResetRelease (found : BootFindings) (s : State) : Host.Outcome State Fault Refusal := .next (onResetRelease found s)

/-- The delays of initial training, by lane, direction and rank: free values (R303, log 2). -/
def trainedTaps (n seed : Nat) : Table Int := tputAll 0 [] (List.range n) (Config.trainedTap seed)

/-- The DRAM as the board table describes it, trained or not (R292, R303). -/
def bootDram (f : BootFindings) (s : State) : State :=
  let b := f.board
  let t := { s with dram := { s.dram with mib := b.dramMib, mts := b.mts, ranks := b.ranks, x16 := b.x16, order := b.order
                                          trained := f.dramTrains, failed := !f.dramTrains, lastRefresh := s.time.cclk
                                          scrubDue := s.time.cclk, taps := if f.dramTrains then trainedTaps (18 * b.ranks) s.fresh else [] } }
  if f.dramTrains then useFree t else raiseUncoded 0 t

/-- The octal SPI master's settings, with the strobe delay at the centre of the passing range that the search found (R442, R486; of an even
range, the lower middle tap: DESIGN CHOICE, log 100). -/
def bootOspi (f : BootFindings) (s : State) : State :=
  let b := f.board
  { s with loc.ospi := { s.loc.ospi with
      div := b.ospiDiv, opcode := b.ospiOpcode, dummies := b.ospiDummies, tCss := b.tCss, tCsh := b.tCsh, tCsd := b.tCsd
      tap := (max f.strobeLow b.strobeFrom + min f.strobeHigh b.strobeTo) / 2 } }

/-- The settings the board table gives (R406, R486). -/
def bootSettings (b : BoardTable) (s : State) : State :=
  setBoth (fun c => { c with
    ring := { hubId := b.hubId, rate10G := b.rate10G, fecA := b.fecA, fecB := b.fecB, etherType := b.etherType, reserve := b.reserve }
    roster := b.roster
    roles := { gwElig := b.gwElig, gwPri := b.gwPri, arbElig := b.arbElig, arbPri := b.arbPri }
    vexc := tputAll vexc0 c.vexc (List.range b.vexc.length) (fun k => natAt b.vexc k) }) s

/-- Front-end dies: the microcode is loaded; a die without both supplies is isolated, one with a single supply faults (R487, R503). -/
def bootDies (f : BootFindings) (s : State) : State :=
  [0, 1, 2, 3].foldl (fun t k =>
    let out := f.feSuppliesOut.filter (fun e => decide (dieOfSupply e.1 = k))
    match out with
    | [] => putDie k { dieAt t k with feIf := f.feIf } t
    | [e] => putDie k { dieAt t k with isolated := some .supply, feIf := f.feIf } (supplyOut e.1 e.2 t)
    | _ => putDie k { dieAt t k with isolated := some .unpowered } t) s

/-- The pairs at the end of the boot: the starting pair is ACTIVE, and P1 has its result. -/
def bootActive (f : BootFindings) (s : State) : State :=
  match pairIn .starting s with
  | none => s
  | some p =>
    let t := if s.pairs.p1.state = .selftest then bootTest .p1 f.p1Passes s else s
    setPair p .active { t with pairs.lastActive := p, pairs.startDeadline := none }

/-- Microseconds that a slot tried before the one booted, and failing R485, adds to the later bounds (R487, R488). -/
def slotDelay (f : BootFindings) (s : State) : Nat :=
  let p := preferred s
  if s.boot.running ≠ p ∧ (if p = 0 then f.slotAValid else f.slotBValid) = false then 200000 else 0

/-- The bounds of rows 2 to 7 in microseconds from the reset's release, each with the longest its step may take: 300 ms for the DRAM's training
(R303, R487). -/
def bootBounds (f : BootFindings) (s : State) : List (Nat × Nat) :=
  let x := slotDelay f s
  [(200, 200), (4200, 4200), (204200 + x, 204200 + x), (504200 + x, 300000), (554200 + x, 554200 + x), (600000 + x, 600000 + x)]

/-- When the steps end: free within their bounds, one after another. -/
def bootTimes : Nat → Nat → List (Nat × Nat) → List Nat
  | _, _, [] => []
  | seed, t, b :: bs => let n := t + Config.freeNat seed % (min (b.1 - t) b.2 + 1); n :: bootTimes (seed + 1) n bs

/-- The log entries of rows 2 to 7. -/
def bootSteps (slot : Nat) (times : List Nat) (s : State) : State :=
  (List.range 6).foldl (fun t i => bootStep (i + 2) slot (natAt times i) t) s

/-- CCLK by which a boot has ended: 600 ms, and 200 ms for each slot that fails R485 (R487). -/
def bootBound (f : BootFindings) (s : State) : Nat := 400 * (600000 + slotDelay f s)

/-- The boot ends within its bound: hardware, settings, pairs, READY, the ring lanes and JOIN, the trial, BOOT_FALLBACK. -/
def finishBoot (f : BootFindings) (s : State) : State :=
  let n := s.boot.running
  let times := bootTimes s.fresh 0 (bootBounds f s)
  let s0 := toCclk (s.boot.resetAt.getD 0 + 400 * natAt times 5) { s with fresh := s.fresh + 6 }
  let s1 := bootDies f (bootSettings f.board (bootOspi f (bootDram f s0)))
  let s2 := bootActive f s1
  let s3 := { s2 with
    boot := { s2.boot with booting := none, up := true, fw := f.clesinVer, jorvaHi := f.jorvaHi, feIf := f.feIf, ckptFmt := f.ckptFmt }
    host.ready := true }
  let s4 := bootSteps n times s3
  let s5 := [4, 5].foldl (fun t l => enterStage l lnPll t) s4
  let s6 := if f.board.autoJoin then (if s5.ring.state = .pass then startListen none s5 else { s5 with ring.autoJoin := true }) else s5
  let s7 := startTrial s6
  alarmPin (if n = preferred s7 then s7 else event 0x0B13 0 [BitVec.ofNat 8 n, BitVec.ofNat 8 (slotState s7 (1 - n))] s7)

/-- BOOT_COMPLETE. -/
def onBootComplete (s : State) : State := match s.boot.booting with | none => s | some f => finishBoot f s

def execBootComplete (s : State) : Host.Outcome State Fault Refusal := .next (onBootComplete s)

/-! ### Who may update (R470, R489, R491, R492) -/

/-- Holder code and hub of the source of a command or of a register write. -/
def holderOf (hdr : Option CmdHdr) (req : Option Requester) : Nat × Nat :=
  match hdr with
  | some h => (match h.gateway with | none => (1, 0) | some g => (3, g))
  | none => if req = some .service then (2, 0) else (1, 0)

/-- The session is this source's. -/
def holds (w : Nat × Nat) (s : State) : Bool :=
  match s.boot.session with | none => false | some x => decide (x.holder = w.1 ∧ x.hub = w.2)

/-- BUSY of the update session (R394). -/
def updateBusy (s : State) : Reply := (sessionBusy s).getD (busy 7 0)

/-- The lowest cause of R492 that holds. -/
def barredBy (s : State) : Option Nat :=
  let own := slotState s s.boot.running
  let causes := [(1, !s.boot.recovery && s.host.alarms.any (fun a => decide (a.1 ≠ 0x0B12))), (2, s.loc.reserve), (3, s.boot.bcb.lock),
    (4, !s.boot.recovery && s.boot.bcb.capoGuard && s.trig.units.any (fun e => decide (e.2.state = .capturing))),
    (5, !s.boot.recovery && decide (own = slTrial)), (6, !s.boot.recovery && decide (own = slExpired))]
  (causes.find? (·.2)).map (·.1)

/-- REFUSED_STATE, state 11. -/
def barredReply (s : State) : Option Reply := (barredBy s).map (refusedState 11)

/-- An operation on the slot runs: a write or a commit. -/
def updating (s : State) : Bool := !s.boot.ops.isEmpty || s.boot.commit.isSome

/-! ### OPEN and ABORT (R491, R493) -/

def openCheck (w : Nat × Nat) (length : Nat) (s : State) : Option Reply :=
  orElseReply (firstBad [(28, decide (length < 256 ∨ slotBytes < length))])
    (orElseReply (barredReply s) (if updating s || (s.boot.session.isSome && !holds w s) then some (updateBusy s) else none))

/-- The session opens, or the holder's starts again; the inactive slot becomes WRITING. -/
def openSession (w : Nat × Nat) (length : Nat) (s : State) : State :=
  sessionEvent 0 (putSlot (otherSlot s) slWriting
    { s with boot.session := some { holder := w.1, hub := w.2, length := length, written := 0, renewed := s.time.cclk } })

def abortCheck (w : Nat × Nat) (s : State) : Option Reply :=
  if updating s || (s.boot.session.isSome && !holds w s) then some (updateBusy s) else none

/-- The session ends and the inactive slot is EMPTY. -/
def dropSession (what : Nat) (s : State) : State :=
  if s.boot.session.isSome then endSession what (putSlot (otherSlot s) slEmpty s) else s

/-- UPD_SESSION_EXPIRY: 60 s after the last open or write; a commit that has started runs to its end. -/
def onSessionExpiry (s : State) : State :=
  match s.boot.session with
  | none => s
  | some x => if s.boot.commit.isSome then s else dropSession 2 (toCclk (x.renewed + 24000000000) s)

def execUpdSessionExpiry (s : State) : Host.Outcome State Fault Refusal := .next (onSessionExpiry s)

/-! ### WRITE (R493) -/

/-- The flash holds these bytes from `a` on. -/
def flashMatches (s : State) (a : Nat) : List Byte → Bool
  | [] => true
  | b :: bs => decide (flashAt s a = b.toNat) && flashMatches s (a + 1) bs

/-- What a write answers without programming anything, if it does; checked as it comes to run. -/
def writeAnswer (o : FlashOp) (s : State) : Option Reply :=
  match s.boot.session with
  | none => some (refusedState 11 0)
  | some x =>
    if !holds (holderOf o.hdr o.req) s then some (updateBusy s)
    else
      let n := o.data.length
      let last := decide (o.offset + n = x.length)
      orElseReply
        (firstBad [(28, !last && decide (o.offset % 4 ≠ 0)), (12, !last && decide (n % 4 ≠ 0)), (12, decide (n = 0)),
          (12, decide (x.length < o.offset + n)), (28, decide (x.written < o.offset)),
          (28, decide (o.offset < x.written) && !flashMatches s (slotBase (otherSlot s) + o.offset) o.data)])
        (if o.offset < x.written then some okReply else none)

/-- The session's lease is renewed. -/
def renewSession (s : State) : State := { s with boot.session := s.boot.session.map (fun x => { x with renewed := s.time.cclk }) }

/-- The writes of the queue in turn, up to one that programs the flash. -/
def runWrites : List FlashOp → State → State
  | [], s => { s with boot.ops := [] }
  | o :: rest, s =>
    match writeAnswer o s with
    | some r => runWrites rest (opEnds o.hdr o.req 0x0D02 r (if r.status = 0 then renewSession s else s))
    | none => { renewSession s with boot.ops := o :: rest }

/-- A write is handed: it runs at once, or after those before it. -/
def addWrite (o : FlashOp) (s : State) : State :=
  if s.boot.ops.isEmpty then runWrites [o] s else { s with boot.ops := s.boot.ops ++ [o] }

/-- FLASH_ERROR (R379). -/
def flashError (cause addr : Nat) (s : State) : State :=
  logEntry 0x0302 ([BitVec.ofNat 8 cause, 0] ++ leBytes 4 addr ++ List.replicate 16 0) s

/-- The codes a completion may carry (R393). -/
def statusCodes : List Nat := [0x00, 0x01, 0x02, 0x03, 0x04, 0x06, 0x07, 0x08, 0x09, 0x0A, 0x0B]

/-- FLASH_PROGRAM_DONE: the write that runs ends, and the next begins. The status of one that fails is free. -/
def onProgramDone (e : FlashEnd) (s : State) : State :=
  match s.boot.ops with
  | [] => s
  | o :: rest =>
    let b := slotBase (otherSlot s)
    match e with
    | .done =>
      let t := { s with boot.flash := flashPut (b + o.offset) (b + slotBytes) o.data s.boot.flash
                        boot.session := s.boot.session.map (fun x => { x with written := x.written + o.data.length }) }
      runWrites rest (opEnds o.hdr o.req 0x0D02 okReply t)
    | .failed cause addr =>
      let t := flashError cause addr { s with boot.flash := flashPut (b + o.offset) (b + slotBytes) [] s.boot.flash }
      runWrites rest (opEnds o.hdr o.req 0x0D02 { status := natAt statusCodes (freshNat t % 11), result := [], data := [] } (useFree t))

def execFlashProgramDone (outcome : FlashEnd) (s : State) : Host.Outcome State Fault Refusal := .next (onProgramDone outcome s)

/-! ### COMMIT (R489, R494) -/

/-- With SWAP: not in recovery mode, where every commit activates by RESET. -/
def swaps (activate : Nat) (s : State) : Bool := decide (activate = 0) && !s.boot.recovery

/-- Step 1: the image's validity and versions. -/
def verifyImage (activate : Nat) (f : ImageFacts) (s : State) : Option Reply :=
  let n := otherSlot s
  let i := imageHead s n
  if !imageValid s n f.signed then some (badParam 28)
  else if !s.boot.recovery && decide (i.feIf ≠ s.boot.feIf ∧ i.feIf ≠ s.boot.feIf + 1) then some (versionBad i.feIf s.boot.feIf)
  else
    match (presentHubs s).find? (fun h => decide ((topoAt s h).version + 1 < i.jorvaHi ∨ i.jorvaHi + 1 < (topoAt s h).version)) with
    | some h => some (versionBad i.jorvaHi (topoAt s h).version)
    | none =>
      if swaps activate s && decide (i.ckptFmt ≠ s.boot.ckptFmt ∧ i.ckptFmt ≠ s.boot.ckptFmt + 1) then
        some (versionBad i.ckptFmt s.boot.ckptFmt)
      else none

/-- A die to reload is isolated or in CAL_SELF (step 3). -/
def reloadBar (ks : List Nat) (s : State) : Option Reply :=
  (ks.find? (fun k =>
    let d := dieAt s k
    d.isolated.isSome || d.calWait || d.calEnd.isSome || d.isoWait.isSome || s.fe.calJobs.any (fun j => j.left.contains k))).map (busy 1)

/-- UPD_COMMIT checks. -/
def commitCheck (w : Nat × Nat) (activate : Nat) (f : ImageFacts) (s : State) : Option Reply :=
  orElseReply (firstBad [(28, decide (1 < activate))])
    (orElseReply (barredReply s)
      (match s.boot.session with
       | none => some (refusedState 11 0)
       | some x =>
         if updating s || !holds w s then some (updateBusy s)
         else if x.written < x.length then some (refusedState 11 0)
         else
           orElseReply (verifyImage activate f s)
             (orElseReply (reloadBar (sortNats f.diesChanged) s)
               (if swaps activate s && (pairIn .standby s).isNone then some (refusedState 13 0)
                else if swaps activate s && decide (s.pairs.stage ≠ .none) then some (busy 5 0) else none))))

/-- Step 4 with RESET: the completion is written, and the hub will reset (R494). -/
def commitResets (c : Commit) (s : State) : State :=
  let dies := maskOf c.reloaded
  let t := event 0x0B11 0 ([BitVec.ofNat 8 c.slot, BitVec.ofNat 8 dies, 0, 0] ++ leBytes 4 c.image.clesinVer) (endSession 1 s)
  opEnds c.hdr c.req 0x0D03 (okResult ([BitVec.ofNat 8 c.slot, BitVec.ofNat 8 dies, BitVec.ofNat 8 c.activate, 0] ++ leBytes 4 0))
    { t with boot.commit := none, boot.resetDue := true }

/-- Steps 3 and 4 go on: the next die's reload, or the firmware. -/
def advanceCommit (s : State) : State :=
  match s.boot.commit with
  | none => s
  | some c =>
    match c.dies with
    | k :: _ => putDie k { dieAt s k with loadWait := true, feIf := c.image.feIf } s
    | [] => if c.activate = 0 then { beginQuiesce s with pairs.commitSwap := true } else commitResets c s

/-- Steps 2 to 4. -/
def startCommit (activate : Nat) (f : ImageFacts) (hdr : Option CmdHdr) (req : Option Requester) (s : State) : State :=
  let n := otherSlot s
  let t := putBcb (fun c => if n = 0 then { c with slotA := slTrial, bootedA := false, preferB := false }
                            else { c with slotB := slTrial, bootedB := false, preferB := true }) s
  let c : Commit := { activate := if swaps activate s then 0 else 1, image := imageHead s n, dies := sortNats f.diesChanged, reloaded := []
                      slot := n, hdr := hdr, req := req }
  advanceCommit { t with boot.commit := some c }

/-- MICROCODE_RELOAD_END: 100 ms after the die's boundary it returns, and the commit goes on (R188, R494). -/
def onReloadEnd (k : Nat) (s : State) : State :=
  match (dieAt s k).loadEnd with
  | none => s
  | some e =>
    let t := toInstant e s
    let u := putDie k { dieAt t k with loadEnd := none, returnWait := true } t
    match u.boot.commit with
    | none => u
    | some c =>
      if c.dies.contains k then
        advanceCommit { u with boot.commit := some { c with dies := c.dies.filter (fun d => decide (d ≠ k)), reloaded := c.reloaded ++ [k] } }
      else u

def execMicrocodeReloadEnd (die : Nat) (s : State) : Host.Outcome State Fault Refusal := .next (onReloadEnd die s)

/-! ### Trial and confirmation (R495) -/

/-- HEALTH_CONFIRM is refused for cause 6 alone (R492). -/
def confirmCheck (s : State) : Option Reply := if runningExpired s then some (refusedState 11 6) else none

/-- A pending trial is confirmed; without one, nothing changes. -/
def confirm (s : State) : State :=
  if s.boot.trialOpen then
    let svn := flashAt s (slotBase s.boot.running + 15)
    event 0x0B14 0 [BitVec.ofNat 8 s.boot.running, BitVec.ofNat 8 svn]
      { putBcb (fun c => { c with minSvn := svn }) (putSlot s.boot.running slConfirmed s) with boot.trialOpen := false, boot.trialFrom := none }
  else s

/-- TRIAL_EXPIRY: 600 s without confirmation. -/
def onTrialExpiry (s : State) : State :=
  match s.boot.trialFrom with
  | none => s
  | some c =>
    if s.boot.trialOpen then
      let t := toCclk (c + 240000000000) s
      raiseAlarm 0x0B12 0 [BitVec.ofNat 8 s.boot.running]
        { putSlot s.boot.running slExpired t with boot.trialOpen := false, boot.trialFrom := none }
    else s

def execTrialExpiry (s : State) : Host.Outcome State Fault Refusal := .next (onTrialExpiry s)

/-! ### The commands (R490, R493) -/

def execUpdOpen (h : CmdHdr) (length : Nat) (s : State) : Host.Outcome State Fault Refusal :=
  .next (runCommand h 0x0D01 (openCheck (holderOf (some h) none) length)
    (fun t => finish h 0x0D01 okReply (openSession (holderOf (some h) none) length t)) s)

def execUpdWrite (h : CmdHdr) (offset : Nat) (data : List Byte) (s : State) : Host.Outcome State Fault Refusal :=
  .next (runCommand h 0x0D02 (fun _ => none) (addWrite { offset := offset, data := data, hdr := some h, req := none }) s)

def execUpdCommit (h : CmdHdr) (activate : Nat) (image : ImageFacts) (s : State) : Host.Outcome State Fault Refusal :=
  .next (runCommand h 0x0D03 (commitCheck (holderOf (some h) none) activate image) (startCommit activate image (some h) none) s)

def execUpdAbort (h : CmdHdr) (s : State) : Host.Outcome State Fault Refusal :=
  .next (runCommand h 0x0D04 (abortCheck (holderOf (some h) none)) (fun t => finish h 0x0D04 okReply (dropSession 3 t)) s)

def execHealthConfirm (h : CmdHdr) (s : State) : Host.Outcome State Fault Refusal :=
  .next (runCommand h 0x0D05 confirmCheck (fun t => finish h 0x0D05 okReply (confirm t)) s)

/-- OWNER_LOCK: while the lock is set, a change needs its key. -/
def lockCheck (lock guard_ key : Nat) (s : State) : Option Reply :=
  let c := s.boot.bcb
  let changes := decide (b2n c.lock ≠ lock) || decide (b2n c.capoGuard ≠ guard_)
  orElseReply (firstBad [(28, decide (1 < lock)), (29, decide (1 < guard_))])
    (firstBad [(30, c.lock && changes && decide (key ≠ c.key))])

/-- Setting LOCK from 0 to 1 stores KEY. -/
def setLock (lock guard_ key : Nat) (s : State) : State :=
  let c := s.boot.bcb
  if b2n c.lock = lock ∧ b2n c.capoGuard = guard_ then s
  else putBcb (fun c => { c with lock := decide (lock = 1), capoGuard := decide (guard_ = 1)
                                 key := if c.lock = false ∧ lock = 1 then key else c.key }) s

def execOwnerLock (h : CmdHdr) (lock capoGuard key : Nat) (s : State) : Host.Outcome State Fault Refusal :=
  .next (runCommand h 0x0C03 (lockCheck lock capoGuard key) (fun t => finish h 0x0C03 okReply (setLock lock capoGuard key t)) s)

def execOwnerLockTwin (h : CmdHdr) (s : State) : Host.Outcome State Fault Refusal :=
  .next (readCommand h 0x0C83 6 (fun _ => none)
    (fun t => [BitVec.ofNat 8 (b2n t.boot.bcb.lock), BitVec.ofNat 8 (b2n t.boot.bcb.capoGuard), 0, 0, 0, 0]) s)

/-! ### The register path (R489, R497) -/

/-- A write of UPD_CMD: discarded while an operation of this requester runs; the controller has no such path (DEDUCED, log 31). -/
def updCmd (req : Requester) (op : Nat) (chk : State → Option Reply) (eff : State → State) (s : State) : State :=
  if (reqOf s req).updBusy || decide (req = .controller) || !(clesinUp s || s.boot.recovery) then s
  else
    let t := putReq req { reqOf s req with updBusy := true, updResult := none } s
    match orElseReply (if t.safety.safe then some (refusedState 8 0) else none) (chk t) with
    | some r => opEnds none (some req) op r t
    | none => eff t

/-- UPD_ARG of the requester. -/
def updArgOf (s : State) (req : Requester) : Nat := (reqOf s req).updArg.toNat

def execUpdCmdOpen (req : Requester) (s : State) : Host.Outcome State Fault Refusal :=
  let w := holderOf none (some req)
  let n := updArgOf s req
  .next (updCmd req 0x0D01 (openCheck w n) (fun t => opEnds none (some req) 0x0D01 okReply (openSession w n t)) s)

/-- The first `n` words of UPD_DATA, little-endian. -/
def updBytes (s : State) (req : Requester) (n : Nat) : List Byte :=
  ((List.range n).map (fun j => leBytes 4 (tget (0 : Word) (reqOf s req).updData j).toNat)).flatten

def execUpdCmdWrite (req : Requester) (words : Nat) (s : State) : Host.Outcome State Fault Refusal :=
  .next (updCmd req 0x0D02 (fun _ => none)
    (addWrite { offset := updArgOf s req, data := updBytes s req (words + 1), hdr := none, req := some req }) s)

def execUpdCmdCommit (req : Requester) (image : ImageFacts) (s : State) : Host.Outcome State Fault Refusal :=
  let n := updArgOf s req
  .next (updCmd req 0x0D03 (commitCheck (holderOf none (some req)) n image) (startCommit n image none (some req)) s)

def execUpdCmdAbort (req : Requester) (s : State) : Host.Outcome State Fault Refusal :=
  .next (updCmd req 0x0D04 (abortCheck (holderOf none (some req)))
    (fun t => opEnds none (some req) 0x0D04 okReply (dropSession 3 t)) s)

def execUpdCmdHealthConfirm (req : Requester) (s : State) : Host.Outcome State Fault Refusal :=
  .next (updCmd req 0x0D05 confirmCheck (fun t => opEnds none (some req) 0x0D05 okReply (confirm t)) s)

/-- UNLOCK: the key clears the owner lock. -/
def execUpdCmdUnlock (req : Requester) (s : State) : Host.Outcome State Fault Refusal :=
  let key := updArgOf s req
  .next (updCmd req 0x0C03 (fun t => firstBad [(28, t.boot.bcb.lock && decide (key ≠ t.boot.bcb.key))])
    (fun t => opEnds none (some req) 0x0C03 okReply (if t.boot.bcb.lock then putBcb (fun c => { c with lock := false }) t else t)) s)

/-- UPD_CMD_DONE: BUSY clears and LAST_STATUS is set. -/
def execUpdCmdDone (req : Requester) (s : State) : Host.Outcome State Fault Refusal :=
  .next (match (reqOf s req).updBusy, (reqOf s req).updResult with
    | true, some st => putReq req { reqOf s req with updStatus := st, updBusy := false, updResult := none } s
    | _, _ => s)

end Sys2Proof.Machine
end

