-- ==== Sys2Proof/Machine/HostRings.lean ====
section
/-! DEFINITION. The PCIe endpoint and the host rings: doorbells, descriptor fetch, completions, queue entries, flush, FIFO mode and
ring configuration (14, R366 to R382; 15, R387 to R389, R404, R405; 12, R336). -/

namespace Sys2Proof.Machine

/-! ### The endpoint (R351, R366) -/

/-- PERST_RELEASE: the PCIe lanes start to train. -/
def onPerstRelease (s : State) : State := [0, 1, 2, 3].foldl (fun t n => enterStage n lnTrain t) { s with host.perst := true }

def execPerstRelease (s : State) : Host.Outcome State Fault Refusal := .next (onPerstRelease s)

/-- PCIE_RESET: rings are inactive and unconfigured, bound streams go into replay, completions of commands taken are discarded. -/
def onPcieReset (s : State) : State :=
  let taken := (s.host.handed.filter (fun e => e.gateway.isNone)).map (fun e => (e.ring, e.descIdx)) ++
    s.ring.forwarded.map (fun f => (f.hdr.cmdRing, f.hdr.descIdx))
  let wait (c : StreamCtx) : StreamCtx := if c.isOpen && c.hostRing.isSome then { c with replay := c.replay || decide (c.type ≠ tyCapHeader) } else c
  { s with host := { s.host with rings := [], waiting := [], flrSeen := true, orphans := s.host.orphans ++ taken, msixMask := false
                                 vecMask := 0xFFFFFFFFFFFFFFFF, pba := 0 }
           streams := s.streams.map (fun e => (e.1, wait e.2)) }

def execPcieReset (s : State) : Host.Outcome State Fault Refusal := .next (onPcieReset s)

/-! ### Indices (R371) -/

/-- Items that the host's index has passed leave the ring; a record may be passed in part. -/
def dropItems : Nat → List (Nat × RingItem) → List (Nat × RingItem)
  | _, [] => []
  | n, (k, i) :: rest => if k ≤ n then dropItems (n - k) rest else (k - n, i) :: rest

/-- An index write keeps the order of producer and consumer and the size. -/
def indexOk (x : HostRing) (idx : Nat) : Bool :=
  x.configured &&
    (if x.type = rtCommand then
      let fill := (idx + 4294967296 - x.hubIdx) % 4294967296
      decide (ringFill x ≤ fill ∧ fill ≤ ringSize x)
    else decide ((x.hubIdx + 4294967296 - idx) % 4294967296 ≤ ringFill x))

/-- RING_DOORBELL: the host's index moves on, or the write is ignored with BAD_IDX. -/
def onDoorbell (r idx : Nat) (s : State) : State :=
  let x := ringAt s r
  if indexOk x idx then
    let left := if x.type = rtCommand then x.items else dropItems ((idx + 4294967296 - x.hostIdx) % 4294967296) x.items
    unpark r (ringLevel r (putRing r { x with hostIdx := idx, items := left } s))
  else putRing r { x with badIdx := true } { s with host.badIdx := true }

def execRingDoorbell (ring idx : Nat) (s : State) : Host.Outcome State Fault Refusal := .next (onDoorbell ring idx s)

/-! ### Descriptors (R387, R388, R396 to R398) -/

/-- Opcodes with the bytes of their PARAMS. -/
def opcodeParams : List (Nat × Nat) :=
  [(0x0001, 0), (0x0002, 0), (0x0003, 5), (0x0004, 0), (0x0005, 4), (0x0006, 1), (0x0101, 10), (0x0102, 8), (0x0103, 5), (0x0104, 6),
    (0x0201, 1), (0x0202, 24), (0x0203, 3), (0x0204, 2), (0x0205, 28), (0x0206, 23), (0x0207, 17), (0x0208, 1), (0x0209, 2), (0x020A, 1),
    (0x020B, 23), (0x020C, 3), (0x020D, 3), (0x020E, 3), (0x020F, 2), (0x0210, 15), (0x0211, 5)] ++
  [(0x0301, 1), (0x0302, 9), (0x0303, 9), (0x0401, 7), (0x0402, 1), (0x0403, 4), (0x0404, 12), (0x0405, 5), (0x0406, 17), (0x0501, 4),
    (0x0502, 15), (0x0503, 25), (0x0504, 1), (0x0505, 1), (0x0506, 13), (0x0507, 5), (0x0508, 4), (0x0601, 6), (0x0602, 6), (0x0603, 10),
    (0x0604, 0), (0x0701, 2), (0x0702, 0)] ++
  [(0x0801, 7), (0x0802, 8), (0x0803, 4), (0x0804, 0), (0x0805, 0), (0x0806, 0), (0x0901, 12), (0x0902, 1), (0x0903, 2), (0x0904, 5),
    (0x0A01, 9), (0x0A02, 4), (0x0B01, 22), (0x0B02, 6), (0x0B03, 2), (0x0C01, 0), (0x0C02, 4), (0x0C03, 6), (0x0D01, 4), (0x0D02, 4),
    (0x0D03, 1), (0x0D04, 0), (0x0D05, 0)] ++
  [(0x0183, 1), (0x0184, 0), (0x0281, 0), (0x0282, 16), (0x0283, 1), (0x0284, 1), (0x0285, 16), (0x0286, 1), (0x0287, 2), (0x028C, 1),
    (0x0290, 3), (0x0481, 1), (0x0486, 1), (0x0581, 4), (0x0582, 1), (0x0583, 1), (0x0588, 1), (0x0681, 1), (0x0682, 1), (0x0683, 1)] ++
  [(0x0781, 0), (0x0881, 0), (0x0882, 0), (0x0883, 0), (0x0984, 1), (0x0A81, 1), (0x0A82, 4), (0x0B81, 1), (0x0B82, 0), (0x0B83, 0),
    (0x0C83, 0)]

/-- Bytes of PARAMS an opcode takes; none for one that is unknown. -/
def paramsOf (op : Nat) : Option Nat := (opcodeParams.find? (fun e => decide (e.1 = op))).map (·.2)

/-- The header a descriptor holds; `idx` is its position in its COMMAND ring. -/
def descHdr (r idx : Nat) (d : List Byte) : CmdHdr :=
  let f := fieldAt d 3 1
  { tag := fieldAt d 4 4, idem := bitOf f 0, fence := bitOf f 1, force := bitOf f 2, parallel := bitOf f 3, update := bitOf f 4
    cplRing := fieldAt d 8 1, cmdRing := r, descIdx := idx % 65536, dataLen := fieldAt d 12 4, gateway := none, reexec := false }

/-- The checks of R388 on a descriptor and its buffer, lowest field first; `limit` is the greatest DATA_LEN. -/
def descFaults (h : CmdHdr) (limit : Nat) (d data : List Byte) (readable : Bool) (s : State) : List (Nat × Bool) :=
  let op := fieldAt d 0 2
  let dcheck := fieldAt d 24 4
  let input := takesData op && decide (0 < h.dataLen)
  [(0, decide (paramsOf op = none)), (2, bitOf (fieldAt d 2 1) 7), (3, decide (32 ≤ fieldAt d 3 1) || flagFault h op),
    (8, !completionRing s h.cplRing), (9, decide (fieldAt d 9 1 ≠ 0)), (10, decide (paramsOf op ≠ some (fieldAt d 10 2))),
    (12, decide (limit < h.dataLen)), (16, decide (fieldAt d 16 8 % 4 ≠ 0) || (input && !readable)),
    (24, if input then readable && decide ((crc32c (data.take h.dataLen)).toNat ≠ dcheck) else decide (dcheck ≠ 0))]

/-! ### Fetching (R374, R404, R405, R424) -/

/-- A completion waits for room: CPL_WAIT (R374). -/
def cplWaits (s : State) : Bool :=
  s.host.waiting.any (fun c => (ringAt s c.ring).configured && decide (ringFree (ringAt s c.ring) = 0))

/-- Clesin takes descriptors: it runs, no completion waits for room, at most 64 commands are handed, no drill or SWAP is under way. -/
def takesDescriptors (s : State) : Bool :=
  clesinUp s && !cplWaits s && decide (s.host.handed.length < 64) && decide (s.pairs.stage = .none)

/-- A COMMAND ring with a descriptor to fetch. -/
def hasDescriptor (s : State) (r : Nat) : Bool :=
  let x := ringAt s r
  x.active && !x.flush && decide (x.type = rtCommand) && decide (0 < ringFill x)

/-- A handed command does not hold back the next of its ring: class L, or waiting for its TARGET (R404). -/
def letsNext (s : State) (e : Handed) : Bool :=
  classL e.opcode || s.fret.startAt.any (fun x => decide (orphanKey x.2 = (e.ring, e.descIdx))) ||
    s.fe.resets.any (fun x => decide (orphanKey x.2.2 = (e.ring, e.descIdx)))

/-- Handed commands of a ring of this hub. -/
def handedOf (s : State) (r : Nat) : List Handed := s.host.handed.filter (fun e => decide (e.ring = r) && e.gateway.isNone)

/-- The next command of a ring may start on this hub. -/
def mayStart (s : State) (r : Nat) (fence : Bool) : Bool :=
  if fence then (handedOf s r).isEmpty && !s.ring.forwarded.any (fun f => decide (f.hdr.cmdRing = r))
  else (handedOf s r).all (letsNext s)

/-- A command may be forwarded now: order on its ring, the window, and FENCE (R336, R405). -/
def mayForward (s : State) (r hub : Nat) (fence : Bool) : Bool :=
  let out := s.ring.forwarded.filter (fun f => decide (f.hub = hub))
  mayStart s r fence && decide (out.length < 16) && decide (s.ring.forwarded.length < 256) && (!fence || out.isEmpty)

/-- The hub index passes the descriptor, and the round-robin goes on (R372, R374). -/
def passDescriptor (r : Nat) (s : State) : State :=
  let x := ringAt s r
  writeSlot r (ringLevel r (putRing r { x with hubIdx := (x.hubIdx + 1) % 4294967296 } { s with host.fetchNext := (r + 1) % 128 }))

/-- A descriptor is taken, and refused or answered at once. -/
def answerAtOnce (h : CmdHdr) (op : Nat) (rep : Reply) (s : State) : State :=
  finish h op rep (traceCommand h.cmdRing op 0 0 h.tag 0 (passDescriptor h.cmdRing s))

/-- A command is handed to Clesin; its own row carries it out. -/
def handOver (h : CmdHdr) (op : Nat) (s : State) : State :=
  let t := passDescriptor h.cmdRing s
  traceCommand h.cmdRing op 0 0 h.tag 0 { t with host.handed := t.host.handed ++
    [{ ring := h.cmdRing, descIdx := h.descIdx, tag := h.tag, opcode := op, idem := h.idem, cplRing := h.cplRing, gateway := none
       since := t.time.cclk, reexec := false }] }

/-- A command is forwarded to a remote hub, with its descriptor and its input data (R336, R389). -/
def forward (h : CmdHdr) (op hub : Nat) (d data : List Byte) (s : State) : State :=
  let t := traceCommand h.cmdRing op 0 0 h.tag 0 (passDescriptor h.cmdRing s)
  let f : Forwarded := { hub := hub, hdr := h, opcode := op, desc := d, data := data, bound := boundCclk t op d, resent := false, at_ := t.time.cclk }
  sendCommand f { t with ring.forwarded := t.ring.forwarded ++ [f] }

/-- A descriptor in hand: refused, answered, forwarded or handed; it waits where its turn to start has not come. -/
def takeDescriptor (r : Nat) (d data : List Byte) (readable : Bool) (s : State) : State :=
  let op := fieldAt d 0 2
  let hub := fieldAt d 2 1 % 64
  let here := bitOf (fieldAt d 2 1) 6 || decide (hub = s.live.ring.hubId)
  let h := descHdr r (ringAt s r).hubIdx d
  let skip : State := { s with host.fetchNext := (r + 1) % 128 }
  if here then
    if !mayStart s r h.fence then skip
    else
      let bad := descFaults h 262144 d data readable s
      let late := bad.filter (fun e => decide (e.1 ≠ 3 ∧ e.1 ≠ 8))
      if late.any (·.2) then answerAtOnce h op ((firstBad bad).getD okReply) s else handOver h op s
  else if !mayForward s r hub h.fence then skip
  else
    match firstBad (descFaults h 65536 d data readable s) with
    | some rep => answerAtOnce h op rep s
    | none =>
      if !s.ring.gateway.held then answerAtOnce h op (refusedState 7 0) s
      else if !(topoAt s hub).present then answerAtOnce h op notFound s
      else forward h op hub d (if takesData op then data.take h.dataLen else []) s

/-- DESCRIPTOR_FETCH: the ring whose turn it is. -/
def onFetch (r : Nat) (d data : List Byte) (readable : Bool) (s : State) : State :=
  let next := ((List.range 128).map (fun i => (s.host.fetchNext + i) % 128)).find? (hasDescriptor s)
  if takesDescriptors s && decide (next = some r) then takeDescriptor r d data readable s else s

def execDescriptorFetch (ring : Nat) (descriptor data : List Byte) (readable : Bool) (s : State) : Host.Outcome State Fault Refusal :=
  .next (onFetch ring descriptor data readable s)

/-! ### Completions and queue entries (R374 to R376, R378, R379) -/

/-- COMPLETION_WRITE: the first waiting completion whose ring has room. One whose ring is no COMPLETION ring any more is discarded. -/
def onCompletionWrite (s : State) : State :=
  let keep := s.host.waiting.filter (fun c => (ringAt s c.ring).configured && decide ((ringAt s c.ring).type = rtCompletion))
  match takeFirst (fun c => completionRing s c.ring && !(ringAt s c.ring).flush && decide (0 < ringFree (ringAt s c.ring))) keep with
  | none => { s with host.waiting := keep }
  | some (c, rest) => ringWrite c.ring 1 (.completion c) { s with host.waiting := rest }

def execCompletionWrite (s : State) : Host.Outcome State Fault Refusal := .next (onCompletionWrite s)

/-- The entry a queue serves next and the queue after it: the gap notice, at priority 7; then by priority in EVENT and ALARM queues,
and by age. -/
def serve (type : Nat) (q : Queue) : Option (RingItem × Queue) :=
  match q.gap with
  | some g => some (.gap g, { q with gap := none })
  | none =>
    let top := q.entries.foldl (fun n e => max n e.pri) 0
    let first := if type = rtEvent ∨ type = rtAlarm then takeFirst (fun e => decide (e.pri = top)) q.entries else takeFirst (fun _ => true) q.entries
    first.map (fun e => (.entry e.1, { q with entries := e.2 }))

/-- Put the queue that serves a ring. -/
def putQueue (r : Nat) (q : Queue) (s : State) : State :=
  let x := ringAt s r
  if x.type = rtAlarm then { s with host.alarmQ := q } else if x.type = rtLog then { s with host.logQ := q }
  else if x.type = rtTrace then { s with host.traceQ := q } else putRing r { x with queue := q } s

/-- QUEUE_ENTRY_DMA. -/
def onQueueDma (r : Nat) (s : State) : State :=
  let x := ringAt s r
  if x.active && !x.flush && !x.fifo && hubHeld x.type && decide (0 < ringFree x) then
    match serve x.type (queueOf s x) with
    | none => s
    | some (i, q) => ringWrite r 1 i (putQueue r q s)
  else s

def execQueueEntryDma (ring : Nat) (s : State) : Host.Outcome State Fault Refusal := .next (onQueueDma ring s)

/-- The bytes of an entry (R228, R378, R379). -/
def itemBytes (type ring : Nat) (i : RingItem) : List Byte :=
  match i with
  | .gap g =>
    padTo (if type = rtEvent ∨ type = rtAlarm then 61 else 32)
      (leBytes 2 0xFFFF ++ leBytes 2 ring ++ leBytes 4 g.first ++ leBytes 4 g.count ++ leBytes 4 g.last ++
        [BitVec.ofNat 8 (if type = rtEvent then g.priMask else 0)]) ++ (if type = rtEvent ∨ type = rtAlarm then 7 :: leBytes 2 g.no else [])
  | .entry e =>
    let head := leBytes 2 e.code ++ leBytes 2 e.source ++ leBytes 4 e.stamp ++ leBytes 4 e.count ++ e.args
    let tail := [BitVec.ofNat 8 e.src, BitVec.ofNat 8 (e.pri % 8 + 8 * b2n (decide (type = rtAlarm)) + 16 * b2n e.cleared)] ++ leBytes 2 e.no
    if type = rtEvent then padTo 60 head ++ tail
    else if type = rtAlarm then padTo 56 head ++ leBytes 4 e.lastStamp ++ tail
    else if type = rtLog then leBytes 2 e.code ++ padTo 18 e.args ++ leBytes 4 e.stamp ++ padTo 4 (e.args.drop 18) ++ leBytes 4 e.count
    else leBytes 2 e.code ++ leBytes 2 e.source ++ leBytes 4 e.stamp ++ padTo 16 e.args ++ leBytes 4 e.dropped ++ padTo 4 (e.args.drop 16)
  | .completion _ => []
  | .record bs => bs

/-- Priority of what a queue served. -/
def itemPri (i : RingItem) : Nat := match i with | .gap _ => 7 | .entry e => e.pri % 8 | _ => 0

/-- RING_POP (R382): read by a requester that reaches the ring registers. -/
def onPop (req : Requester) (r : Nat) (s : State) : State :=
  let x := ringAt s r
  if req = .service then s
  else if !(x.active && x.fifo) then { s with host.readData := 0 }
  else
    match serve x.type (queueOf s x) with
    | none => { s with host.readData := 0 }
    | some (i, q) =>
      let bytes := itemBytes x.type r i
      let t := ringLevel r (putQueue r q s)
      let u := putReq req { reqOf t req with popWin := bytes } t
      let v := 2147483648 + itemPri i * 268435456 + (bytes.length / 4 - 1) * 65536 + min 65535 (queueLen q)
      { u with host.readData := BitVec.ofNat 32 v }

def execRingPop (req : Requester) (ring : Nat) (s : State) : Host.Outcome State Fault Refusal := .next (onPop req ring s)

/-! ### Flush, failure and start (R370, R381) -/

/-- RING_FLUSH_REQUEST: nothing happens on a ring that has stopped. -/
def onFlush (r : Nat) (s : State) : State :=
  if (ringAt s r).active then putRing r { ringAt s r with flush := true } s else s

def execRingFlushRequest (ring : Nat) (s : State) : Host.Outcome State Fault Refusal := .next (onFlush ring s)

/-- The ring stops: its final slot, then inactive. -/
def stopRing (r : Nat) (s : State) : State :=
  let t := writeSlot r s
  putRing r { ringAt t r with active := false, flush := false } t

def onFlushed (r : Nat) (s : State) : State := if (ringAt s r).active && (ringAt s r).flush then stopRing r s else s

def execRingFlushComplete (ring : Nat) (s : State) : Host.Outcome State Fault Refusal := .next (onFlushed ring s)

/-- DMA_READ_FAILURE: the ring stops, and DMA_ERR is set. -/
def onDmaFailure (r : Nat) (s : State) : State := if (ringAt s r).active then stopRing r { s with host.dmaErr := true } else s

def execDmaReadFailure (ring : Nat) (s : State) : Host.Outcome State Fault Refusal := .next (onDmaFailure ring s)

/-- Entries that wait are numbered afresh as their ring starts (R370, R378). -/
def renumber (q : Queue) : Queue :=
  { q with entries := (List.zip (List.range q.entries.length) q.entries).map (fun e => { e.2 with no := e.1 % 65536 })
           gap := q.gap.map (fun g => { g with no := q.entries.length % 65536 })
           entryNo := q.entries.length + b2n q.gap.isSome }

/-- A ring starts afresh with these settings: indices, loss, numbers and slot; what waits is kept. The start itself is no rise of
the measure (R380). -/
def startRing (r : Nat) (new : HostRing) (s : State) : State :=
  let was := ringAt s r
  let keep := if new.type = rtEvent ∧ was.configured = true ∧ was.type = rtEvent then renumber was.queue else queue0
  let wait := new.type = rtRecord ∧ s.streams.any (fun e => decide (e.2.hostRing = some r) && e.2.replay) = true
  let t := putRing r { new with active := true, configured := true, queue := keep, waiting := decide wait } s
  let u := if new.type = rtAlarm ∨ new.type = rtLog ∨ new.type = rtTrace then putQueue r (renumber (queueOf t new)) t else t
  let x := ringAt u r
  unpark r (writeSlot r (putRing r { x with above := decide (x.level < ringMeasure u x) } u))

/-- The settings of ring 0 or 1 from its boot registers. -/
def bootRing (s : State) (k : Nat) : Option HostRing :=
  let cfg := (wordAt 0 s.host.boot (3 * k + 2)).toNat
  let n := cfg % 16
  if 4 ≤ n ∧ n ≤ 12 then
    some { hostRing0 with type := k + 1, log2Size := n, level := cfg / 65536 % 4096
                          base := (wordAt 0 s.host.boot (3 * k)).toNat / 4096 * 4096 + 4294967296 * (wordAt 0 s.host.boot (3 * k + 1)).toNat }
  else none

/-- HIF_START: each of rings 0 and 1 that is not active starts; a bad size is ignored and sets DMA_ERR. -/
def onStart (s : State) : State :=
  [0, 1].foldl (fun t k =>
    if (ringAt t k).active then t
    else match bootRing t k with
      | some x => startRing k x t
      | none => { t with host.dmaErr := true }) s

def execHifStart (s : State) : Host.Outcome State Fault Refusal := .next (onStart s)

/-! ### RING_CONFIG (R369, R370) -/

/-- Smallest and greatest log2 of a type's size, and how many rings of the type a hub has (128: any). -/
def typeLimits (type : Nat) : Nat × Nat × Nat :=
  if type = rtCommand ∨ type = rtCompletion then (4, 12, 8) else if type = rtRecord then (16, 28, 128)
  else if type = rtEvent then (6, 12, 8) else (6, 12, 1)

/-- The ring these parameters describe. -/
def ringOfParams (p : RingConfigP) : HostRing :=
  { hostRing0 with type := p.type, fifo := decide (p.mode = 1), groups := p.groups, log2Size := p.log2Size, base := p.base, level := p.level }

/-- An active ring has exactly these settings. -/
def sameRing (x : HostRing) (p : RingConfigP) : Bool :=
  x.active && decide (x.type = p.type ∧ b2n x.fifo = p.mode ∧ x.groups = p.groups ∧ x.log2Size = p.log2Size ∧ x.base = p.base ∧ x.level = p.level)

/-- A stream of this hub or of another is bound to the ring. -/
def ringBound (s : State) (r : Nat) : Bool :=
  s.streams.any (fun e => e.2.isOpen && decide (e.2.hostRing = some r)) || s.ring.recv.any (fun e => decide (e.2.2 = r)) ||
    s.ring.retrieveTo.any (fun e => decide (e.2.2 = r))

/-- RING_CONFIG checks. -/
def ringConfigCheck (p : RingConfigP) (s : State) : Option Reply :=
  let x := ringAt s p.ring
  let l := typeLimits p.type
  let badSize := decide (p.log2Size < l.1 ∨ l.2.1 < p.log2Size)
  orElseReply
    (firstBad ([(28, decide (p.ring < 2 ∨ 127 < p.ring)), (29, decide (7 < p.type)), (30, decide (1 < p.mode))] ++
      (if p.type = 0 then []
       else [(29, decide (p.mode = 1) && !hubHeld p.type), (29, decide (p.groups ≠ 0 ∧ p.type ≠ rtEvent)), (29, badSize), (33, decide (p.base % 4096 ≠ 0)),
             (32, decide (2 ^ min p.log2Size 32 ≤ p.level))])))
    (if sameRing x p then none
     else
       let others := (s.host.rings.filter (fun e => e.2.configured && decide (e.2.type = p.type) && decide (e.1 ≠ p.ring))).length
       if p.type ≠ 0 ∧ l.2.2 ≤ others then some (busy 9 p.ring)
       else if x.configured && decide (x.type = rtRecord ∧ p.type ≠ rtRecord) && ringBound s p.ring then some (refusedState 0 0)
       else if x.active then some (refusedState 0 0)
       else none)

/-- RING_CONFIG. -/
def execRingConfig (h : CmdHdr) (p : RingConfigP) (s : State) : Host.Outcome State Fault Refusal :=
  .next (runCommand h 0x0406 (ringConfigCheck p)
    (fun t => finish h 0x0406 okReply
      (if sameRing (ringAt t p.ring) p then t
       else if p.type = 0 then writeSlot p.ring (putRing p.ring hostRing0 t)
       else startRing p.ring (ringOfParams p) t)) s)

def execRingConfigTwin (h : CmdHdr) (ring : Nat) (s : State) : Host.Outcome State Fault Refusal :=
  .next (readCommand h 0x0486 16 (fun _ => firstBad [(28, decide (127 < ring))])
    (fun t => let x := ringAt t ring
      leBytes 1 x.type ++ leBytes 1 (b2n x.fifo) ++ leBytes 1 x.groups ++ leBytes 1 x.log2Size ++ leBytes 8 x.base ++ leBytes 4 x.level) s)

end Sys2Proof.Machine
end

