-- ==== Sys2Proof/Machine/Registers.lean ====
section
/-! DEFINITION. BAR0: the value of every register, reads with their latches, writes by access code (00, R13; 02, R73, R74; 13, R361,
R362; 14, R365 to R368, R384; 16; 18; 19; 20, R497). -/

namespace Sys2Proof.Machine

/-- A word from a number. -/
def w32 (n : Nat) : Word := BitVec.ofNat 32 n

/-- The `n`-bit two's complement of a value. -/
def twos (n : Nat) (v : Int) : Nat := (v % (2 ^ n : Int)).toNat

/-! ### Reach (R367) -/

/-- A requester reaches an offset. -/
def reaches (req : Requester) (off : Nat) : Bool :=
  match req with
  | .pcie => true
  | .service => decide (off < 0x1000) || decide (0x2000 ≤ off ∧ off < 0x4000)
  | .controller => decide (off < 0x8000)

/-! ### Values by group -/

/-- Join states of ID_HUB (R338). -/
def joinCode (j : JoinState) : Nat := match j with | .down => 0 | .pass => 1 | .listen => 2 | .joined => 3 | .refused => 4

/-- The Jorva version in use: the lowest announced by any present hub, once joined (R340). -/
def jorvaInUse (s : State) : Nat :=
  if s.ring.state = .joined then (presentHubs s).foldl (fun n h => min n (topoAt s h).version) s.boot.jorvaHi else 0

/-- UPD_STATUS as a requester reads it (R497). -/
def updStatusOf (req : Requester) (s : State) : Nat :=
  let q := reqOf s req
  let c := s.boot.bcb
  let x := s.boot.session
  q.updStatus * 16777216 + (match x with | none => 0 | some x => x.holder * 4194304 + x.hub % 64 * 65536) + b2n s.boot.recovery * 2048 +
    b2n q.updBusy * 1024 + b2n c.capoGuard * 512 + b2n c.lock * 256 + c.slotB * 32 + c.slotA * 4 + s.boot.running * 2 + b2n x.isSome

/-- ID_REQ_STATUS of a requester. -/
def reqStatusOf (req : Requester) (s : State) : Nat :=
  let q := reqOf s req
  4 * b2n (!q.latches.isEmpty) + 2 * b2n q.partialWrite + b2n q.noLatch

/-- The identity group. -/
def idValue (req : Requester) (off : Nat) (s : State) : Nat :=
  if off = 0x0000 then 0x0384A100 + Config.grade % 2
  else if off = 0x0004 then (if s.host.ready || s.boot.up then s.boot.fw / 256 * 256 + s.boot.running else 0)
  else if off = 0x0008 then Config.eui % 4294967296
  else if off = 0x000C then Config.eui / 4294967296 % 4294967296
  else if off = 0x0010 then
    jorvaInUse s * 1048576 + b2n s.time.master * 262144 + b2n s.ring.arbiter.held * 131072 + b2n s.ring.gateway.held * 65536 +
      joinCode s.ring.state * 256 + s.live.ring.hubId % 64
  else if 0x0020 ≤ off ∧ off < 0x0040 then
    (if off % 8 = 0 then Config.feUid ((off - 0x0020) / 8) % 4294967296 else Config.feUid ((off - 0x0020) / 8) / 4294967296 % 4294967296)
  else if off = 0x0040 then reqStatusOf req s
  else if off = 0x0044 then s.host.scratch.toNat
  else if off = 0x0800 then updStatusOf req s
  else if off = 0x0808 then (reqOf s req).updArg.toNat
  else if 0x0900 ≤ off ∧ off < 0x0A00 then (tget (0 : Word) (reqOf s req).updData ((off - 0x0900) / 4)).toNat
  else 0

/-- Word `j` of a list of bytes. -/
def byteWord (bs : List Byte) (j : Nat) : Nat := fieldAt bs (4 * j) 4

/-- The ring group. -/
def ringValue (req : Requester) (off : Nat) (s : State) : Nat :=
  if off = 0x1000 then b2n ((ringAt s 0).active || (ringAt s 1).active)
  else if off = 0x1004 then
    b2n s.host.badIdx * 16 + b2n s.host.dmaErr * 8 + b2n s.host.flrSeen * 4 + b2n (cplWaits s) * 2 + b2n (clesinUp s)
  else if 0x1010 ≤ off ∧ off < 0x1030 then
    (if off % 16 < 12 then (wordAt 0 s.host.boot (3 * ((off - 0x1010) / 16) + off % 16 / 4)).toNat else 0)
  else if off = 0x1030 then s.host.wbLo.toNat
  else if off = 0x1034 then s.host.wbHi.toNat
  else if 0x1100 ≤ off ∧ off < 0x1140 then byteWord (reqOf s req).popWin ((off - 0x1100) / 4)
  else if 0x1800 ≤ off ∧ off < 0x2000 then
    let r := (off - 0x1800) / 16
    if off % 16 = 0 then (ringAt s r).hostIdx else if off % 16 = 4 then (ringAt s r).hubIdx else if off % 16 = 8 then ringStat s r else 0
  else 0

/-- TIME_STATUS. -/
def timeStatus (s : State) : Nat :=
  let t := s.time
  b2n t.portB * 256 + b2n t.stepBig * 128 + b2n (decide (t.step ≠ 0)) * 64 + b2n t.dcoClamp * 32 + b2n t.overlap * 16 + b2n t.master * 8 +
    b2n t.syncLost * 4 + b2n t.holdover * 2 + b2n t.locked

/-- The time group (R74), live. -/
def timeValue (off : Nat) (s : State) : Nat :=
  let ns := nowNs s
  if off = 0x2000 then ns % 1000000000
  else if off = 0x2004 then ns / 1000000000 % 4294967296
  else if off = 0x2008 then ns / 1000000000 / 4294967296 % 65536
  else if off = 0x200C then nowStamp s
  else if off = 0x2020 then timeStatus s
  else if off = 0x2024 then twos 32 s.time.offset16
  else if off = 0x2030 then s.time.masterId % 4294967296
  else if off = 0x2034 then s.time.masterId / 4294967296 % 4294967296
  else if off = 0x2040 then s.time.inc % 4294967296
  else if off = 0x2044 then s.time.inc / 4294967296 % 65536
  else if off = 0x2048 then twos 32 s.time.step
  else if off = 0x2050 then twos 32 s.time.asymA
  else if off = 0x2054 then twos 32 s.time.asymB
  else if off = 0x2058 then twos 32 s.time.closure
  else 0

/-- SAFE_STATUS (19). -/
def safeStatus (s : State) : Nat :=
  let f := s.safety
  let out (k : Nat) : Bool := decide ((dieAt s k).isolated = some .supply) || decide ((dieAt s k).isolated = some .link)
  twos 8 f.hubTemp * 16777216 + heartbeatOf s * 65536 + b2n (f.safe && (recoverBar s).isNone) * 128 + b2n f.xcheck * 64 +
    b2n (f.hubHot || [0, 1, 2, 3].any (fun k => (dieAt s k).tempHigh)) * 32 + b2n (!f.suppliesOut.isEmpty) * 16 +
    b2n ([0, 1, 2, 3].any out) * 8 + b2n f.sramSeen * 4 + b2n f.safe

/-- CTL_STATUS (16). -/
def ctlStatus (s : State) : Nat :=
  let p := s.pairs
  p.lastCause % 16 * 65536 + b2n p.fenceSeen * 32768 + b2n (decide (p.stage ≠ .none) && !p.commitSwap) * 16384 +
    b2n (s.boot.up && (pairIn .standby s).isNone) * 8192 + pairCode p.p1.state * 256 + pairCode p.p0.state * 16 +
    pairNo ((pairIn .active s).getD p.lastActive)

/-- LP_VOUT_STATUS (18). -/
def voutStatus (s : State) : Nat :=
  (List.range 8).foldl (fun v n =>
    let r := valAt s n
    v + 2 ^ (4 * n) * (b2n r.on + 2 * b2n r.blind + 4 * b2n r.openLoad + 8 * b2n r.stuckOn)) 0

/-- A GPIO pin's level: what an output drives, and what the outside drives (R460). -/
def gpioLevel (s : State) (j : Nat) : Bool :=
  let g := s.live.gpio
  if bitOf g.dir j && !(bitOf g.od j && bitOf g.out j) then bitOf g.out j else bitOf s.loc.gpio j

/-- LP_PINS (18). -/
def lpPins (s : State) : Nat :=
  b2n s.loc.spimRdy * 1048576 + b2n s.loc.pps * 524288 + b2n s.loc.alarmN * 262144 + b2n s.loc.reserve * 131072 + b2n s.loc.syncIn * 65536 +
    maskOf ((List.range 16).filter (gpioLevel s))

/-- EVT_SUMMARY (R384). -/
def evtSummary (s : State) : Nat :=
  maskOf ((List.range 8).filter (fun g => decide (wordAt 0 s.host.pend g &&& ~~~(wordAt 0xFFFFFFFF s.host.mask g) ≠ 0)))

/-- The safety and event groups. -/
def safetyValue (off : Nat) (s : State) : Nat :=
  if off = 0x3000 then safeStatus s
  else if off = 0x3004 then s.safety.first + 65536 * maskOf s.safety.seen
  else if off = 0x3008 then s.safety.stamp
  else if off = 0x300C then [0, 1, 2, 3].foldl (fun v k => v + 256 ^ k * twos 8 (dieAt s k).temp) 0
  else if off = 0x3080 then ctlStatus s
  else if off = 0x3084 then s.pairs.failCount % 256 * 16777216 + s.pairs.drills % 256 * 65536 + s.pairs.failovers % 65536
  else if off = 0x3088 then s.pairs.fenceStamp
  else if off = 0x3100 then voutStatus s
  else if off = 0x3104 then lpPins s
  else if off = 0x3108 then s.loc.svcViolations % 256 * 16777216 + s.loc.svcDiscards % 256 * 65536 + s.loc.svcFrames % 65536
  else if 0x3400 ≤ off ∧ off < 0x3420 then (wordAt 0 s.host.pend ((off - 0x3400) / 4)).toNat
  else if 0x3420 ≤ off ∧ off < 0x3440 then (wordAt 0xFFFFFFFF s.host.mask ((off - 0x3420) / 4)).toNat
  else if off = 0x3440 then evtSummary s
  else if 0x3500 ≤ off ∧ off < 0x3700 then (wordAt 0 s.host.map ((off - 0x3500) / 4)).toNat
  else 0

/-- The lane group (R362), live. -/
def laneValue (off : Nat) (s : State) : Nat :=
  let l := laneAt s ((off - 0x4000) / 256)
  let k := off % 256
  if k = 0x00 then
    b2n l.eyeLow * 33554432 + b2n l.downSeen * 16777216 + l.fault * 1048576 + b2n l.frozen * 262144 + l.rate * 32768 + l.slip * 256 +
      b2n l.fecOn * 128 + b2n l.aligned * 64 + b2n l.reversed * 32 + b2n l.polInv * 16 + l.state % 16
  else if k = 0x04 then l.scanNo % 256 * 16777216 + l.fom % 256 * 65536 + l.height % 256 * 256 + l.width % 256
  else if k = 0x08 then
    l.injK % 256 * 256 + b2n l.sat * 128 + b2n l.lockLost * 64 + b2n l.chkLock * 32 + b2n l.chk * 16 + b2n l.gen * 8 + l.pattern % 8
  else if k = 0x0C then l.err % 4294967296
  else if k = 0x10 then l.err / 4294967296 % 65536
  else if k = 0x14 then l.bits % 4294967296
  else if k = 0x18 then l.bits / 4294967296 % 65536
  else 0

/-- The MSI-X table and pending bits. -/
def msixValue (off : Nat) (s : State) : Nat :=
  if 0x8000 ≤ off ∧ off < 0x8400 then
    (if off % 16 = 12 then b2n (bitOf s.host.vecMask ((off - 0x8000) / 16)) else (wordAt 0 s.host.msixTab ((off - 0x8000) / 4)).toNat)
  else if off = 0x9000 then s.host.pba % 4294967296
  else if off = 0x9004 then s.host.pba / 4294967296 % 4294967296
  else 0

/-- The live value of the register at an offset; 0 at one that is unmapped. -/
def regValue (req : Requester) (off : Nat) (s : State) : Nat :=
  if off % 4 ≠ 0 then 0
  else if off < 0x1000 then idValue req off s
  else if off < 0x2000 then ringValue req off s
  else if off < 0x3000 then timeValue off s
  else if off < 0x4000 then safetyValue off s
  else if off < 0x4600 then laneValue off s
  else msixValue off s

/-! ### Latches (R73, R361, R368) -/

/-- The set that a read of a latching register copies. -/
def latchSet (off : Nat) : List Nat :=
  if off = 0x2000 then [0x2004, 0x2008] else if off = 0x2040 then [0x2044]
  else if 0x4000 ≤ off ∧ off < 0x4600 ∧ off % 256 = 0x0C then [off + 4, off + 8, off + 12] else []

/-- The latching register whose set holds an offset. -/
def latchOf (off : Nat) : Option Nat :=
  if off = 0x2004 ∨ off = 0x2008 then some 0x2000 else if off = 0x2044 then some 0x2040
  else if 0x4000 ≤ off ∧ off < 0x4600 ∧ (off % 256 = 0x10 ∨ off % 256 = 0x14 ∨ off % 256 = 0x18) then some (off / 256 * 256 + 0x0C) else none

/-- A read of a set's register finds no latch pending. -/
def latchMissing (req : Requester) (off : Nat) (s : State) : Bool :=
  match latchOf off with
  | none => false
  | some r => (tget latch0 (reqOf s req).latches r).unread.isEmpty

/-- A read of a latching register: its value, and a fresh latch in the place of the old. -/
def latchRead (req : Requester) (off : Nat) (s : State) : State :=
  let set := latchSet off
  let l : Latch := { shadow := set.map (fun o => (o, w32 (regValue req o s))), unread := set }
  let q := reqOf s req
  { putReq req { q with latches := tput latch0 q.latches off l } s with host.readData := w32 (regValue req off s) }

/-- A read of a register of a set: the shadow while a latch is pending, used up with the last of the set; else the live value and
NOLATCH. -/
def setRead (req : Requester) (off reg : Nat) (s : State) : State :=
  let q := reqOf s req
  let l := tget latch0 q.latches reg
  if l.unread.isEmpty then { putReq req { q with noLatch := true } s with host.readData := w32 (regValue req off s) }
  else
    let left := l.unread.filter (fun o => decide (o ≠ off))
    let new := if left.isEmpty then latch0 else { l with unread := left }
    { putReq req { q with latches := tput latch0 q.latches reg new } s with host.readData := tget (0 : Word) l.shadow off }

/-- One read of one register by a requester. -/
def readReg (req : Requester) (off : Nat) (s : State) : State :=
  if !reaches req off then s
  else if latchSet off ≠ [] then latchRead req off s
  else
    match latchOf off with
    | some reg => setRead req off reg s
    | none =>
      if 0x1800 ≤ off ∧ off < 0x2000 ∧ off % 16 = 12 then onPop req ((off - 0x1800) / 16) s
      else { s with host.readData := w32 (regValue req off s) }

def execReadTimeNowNs (req : Requester) (s : State) : Host.Outcome State Fault Refusal := .next (readReg req 0x2000 s)
def execReadTimeDcoIncLo (req : Requester) (s : State) : Host.Outcome State Fault Refusal := .next (readReg req 0x2040 s)
def execReadLaneErrLo (req : Requester) (lane : Nat) (s : State) : Host.Outcome State Fault Refusal :=
  .next (readReg req (0x400C + 256 * lane) s)
def execShadowRead (req : Requester) (offset : Nat) (s : State) : Host.Outcome State Fault Refusal := .next (readReg req offset s)

/-! ### Writes -/

/-- EVT_MASK_WRITE: each pending source that the write unmasks sends its message (R384). -/
def onMask (g : Nat) (v : Word) (s : State) : State :=
  let was := wordAt 0xFFFFFFFF s.host.mask g
  let opened := (List.range 32).filter (fun i => was.getLsbD i && !v.getLsbD i && (wordAt 0 s.host.pend g).getLsbD i)
  opened.foldl (fun t i => sendMsi (srcVector t (32 * g + i)) t)
    { s with host.mask := tput 0xFFFFFFFF s.host.mask g v }

def execEvtMaskWrite (group : Nat) (value : Word) (s : State) : Host.Outcome State Fault Refusal := .next (onMask group value s)

/-- The register path's operations as a write of UPD_CMD names them; what a COMMIT's verification finds is free (R497, DEDUCED, log 30). -/
def writeUpdCmd (req : Requester) (v : Nat) (s : State) : State :=
  let op := v / 16777216
  let w := holderOf none (some req)
  let n := updArgOf s req
  let free : ImageFacts := { signed := decide (freshNat s % 2 = 1), diesChanged := bitsOf 4 (freshNat s / 2) }
  if op = 1 then updCmd req 0x0D01 (openCheck w n) (fun t => opEnds none (some req) 0x0D01 okReply (openSession w n t)) s
  else if op = 2 then
    updCmd req 0x0D02 (fun _ => none) (addWrite { offset := n, data := updBytes s req (v % 64 + 1), hdr := none, req := some req }) s
  else if op = 3 then updCmd req 0x0D03 (commitCheck w n free) (startCommit n free none (some req)) (useFree s)
  else if op = 4 then updCmd req 0x0D04 (abortCheck w) (fun t => opEnds none (some req) 0x0D04 okReply (dropSession 3 t)) s
  else if op = 5 then updCmd req 0x0D05 confirmCheck (fun t => opEnds none (some req) 0x0D05 okReply (confirm t)) s
  else if op = 6 then
    updCmd req 0x0C03 (fun t => firstBad [(28, t.boot.bcb.lock && decide (n ≠ t.boot.bcb.key))])
      (fun t => opEnds none (some req) 0x0C03 okReply (if t.boot.bcb.lock then putBcb (fun c => { c with lock := false }) t else t)) s
  else s

/-- A write into the identity group. -/
def writeId (req : Requester) (off v : Nat) (s : State) : State :=
  let q := reqOf s req
  if off = 0x0040 then putReq req { q with noLatch := q.noLatch && !bitOf v 0, partialWrite := q.partialWrite && !bitOf v 1 } s
  else if off = 0x0044 then { s with host.scratch := w32 v }
  else if off = 0x0804 then writeUpdCmd req v s
  else if off = 0x0808 then putReq req { q with updArg := w32 v } s
  else if 0x0900 ≤ off ∧ off < 0x0A00 then putReq req { q with updData := tput 0 q.updData ((off - 0x0900) / 4) (w32 v) } s
  else s

/-- Writable bits of a boot register of ring 0 or 1, by its word. -/
def bootBits (k v : Nat) : Nat := if k = 0 then v / 4096 * 4096 else if k = 1 then v else v / 65536 % 4096 * 65536 + v % 16

/-- A write into the ring group. -/
def writeRing (off v : Nat) (s : State) : State :=
  if off = 0x1000 then (if bitOf v 0 then onStart s else s)
  else if off = 0x1004 then
    { s with host.badIdx := s.host.badIdx && !bitOf v 4, host.dmaErr := s.host.dmaErr && !bitOf v 3, host.flrSeen := s.host.flrSeen && !bitOf v 2 }
  else if 0x1010 ≤ off ∧ off < 0x1030 then
    (if off % 16 < 12 then
      { s with host.boot := tput 0 s.host.boot (3 * ((off - 0x1010) / 16) + off % 16 / 4) (w32 (bootBits (off % 16 / 4) v)) }
    else s)
  else if off = 0x1030 then { s with host.wbLo := w32 (v / 1024 * 1024) }
  else if off = 0x1034 then { s with host.wbHi := w32 v }
  else if 0x1800 ≤ off ∧ off < 0x2000 then
    let r := (off - 0x1800) / 16
    if off % 16 = 0 then onDoorbell r v s
    else if off % 16 = 8 then
      let t := if bitOf v 24 then putRing r { ringAt s r with badIdx := false } s else s
      if bitOf v 25 then onFlush r t else t
    else s
  else s

/-- A write into the time group: status bits; the increment and the step by the controller alone (R47, R74). -/
def writeTime (req : Requester) (off v : Nat) (s : State) : State :=
  let i := s.time.incNext.getD s.time.inc
  if off = 0x2020 then
    { s with time.stepBig := s.time.stepBig && !bitOf v 7, time.dcoClamp := s.time.dcoClamp && !bitOf v 5
             time.syncLost := s.time.syncLost && !bitOf v 2 }
  else if req ≠ .controller then s
  else if off = 0x2040 then writeInc (i / 4294967296 * 4294967296 + v) s
  else if off = 0x2044 then writeInc (v % 65536 * 4294967296 + i % 4294967296) s
  else if off = 0x2048 then { s with time.step := asSigned 32 v }
  else s

/-- A write into the safety and event groups. -/
def writeSafety (off v : Nat) (s : State) : State :=
  if off = 0x3000 then
    let a := if bitOf v 2 && s.safety.sramSeen then
        (s.host.alarms.filter (fun a => decide (a.1 = 0x0B06))).foldl (fun t a => endAlarm 0x0B06 a.2 [] t) { s with safety.sramSeen := false } else s
    let b := if bitOf v 6 then { a with safety.xcheck := false } else a
    if bitOf v 8 then safeCause 10 false b else b
  else if off = 0x3080 then (if bitOf v 15 then { s with pairs.fenceSeen := false } else s)
  else if 0x3400 ≤ off ∧ off < 0x3420 then
    let g := (off - 0x3400) / 4
    { s with host.pend := tput 0 s.host.pend g (wordAt 0 s.host.pend g &&& ~~~(w32 v)) }
  else if 0x3420 ≤ off ∧ off < 0x3440 then onMask ((off - 0x3420) / 4) (w32 v) s
  else if 0x3500 ≤ off ∧ off < 0x3700 then { s with host.map := tput 0 s.host.map ((off - 0x3500) / 4) (w32 v &&& 0x073F073F) }
  else s

/-- A write into the lane group. -/
def writeLaneReg (off v : Nat) (s : State) : State :=
  let n := (off - 0x4000) / 256
  let l := laneAt s n
  if off % 256 = 0 then putLane n { l with eyeLow := l.eyeLow && !bitOf v 25, downSeen := l.downSeen && !bitOf v 24 } s
  else if off % 256 = 8 then putLane n { l with lockLost := l.lockLost && !bitOf v 6 } s
  else s

/-- A write into the MSI-X table: address and data words, and the vector's mask, whose clearing releases a held message. -/
def writeMsix (off v : Nat) (s : State) : State :=
  if 0x8000 ≤ off ∧ off < 0x8400 then
    let n := (off - 0x8000) / 16
    if off % 16 = 12 then releaseMsi { s with host.vecMask := putBit s.host.vecMask n (bitOf v 0) }
    else { s with host.msixTab := tput 0 s.host.msixTab ((off - 0x8000) / 4) (w32 v) }
  else s

/-- One whole write of a register by a requester that reaches it; reserved and read-only bits keep their values (R13, R15). -/
def writeReg (req : Requester) (off v : Nat) (s : State) : State :=
  if !reaches req off || decide (off % 4 ≠ 0) then s
  else if off < 0x1000 then writeId req off v s
  else if off < 0x2000 then writeRing off v s
  else if off < 0x3000 then writeTime req off v s
  else if off < 0x4000 then writeSafety off v s
  else if off < 0x4600 then writeLaneReg off v s
  else writeMsix off v s

/-- REGISTER_WRITE: a write whose byte enables are not all set is dropped, and sets PARTIAL for the PCIe requester; a poisoned write is dropped
and reported through AER, as Poisoned TLP Received (R365; that bit's place is PCI Express's, PRESUMED, log 8). -/
def execRegisterWrite (req : Requester) (offset : Nat) (value : Word) (enables : Nat) (s : State) : Host.Outcome State Fault Refusal :=
  .next (if bitOf enables 4 && decide (req = .pcie) then { s with host.aerStatus := setBit s.host.aerStatus 12 }
    else if enables % 16 = 15 then writeReg req offset value.toNat s
    else if req = .pcie then putReq .pcie { reqOf s .pcie with partialWrite := true } s
    else s)

end Sys2Proof.Machine
end

