-- ==== Sys2Proof/Machine/LocalPorts.lean ====
section
/-! DEFINITION. The local ports: the octal SPI master, the service port, PPS_OUT and RESERVE_PWR (18, R442 to R451, R461, R463). -/

namespace Sys2Proof.Machine

/-! ### The boot flash window (R443, R444) -/

/-- A byte of the window: of a boot control block, whose layout is open, free; else of the flash. -/
def windowByte (s : State) (a : Nat) : Byte :=
  if a < 0x0020000 then BitVec.ofNat 8 (Config.freeNat (s.fresh + a % 32)) else BitVec.ofNat 8 (flashAt s a)

/-- The command bytes of a line read: the opcode and its inverse, and the address, most significant byte first (R442; the order of the
address bytes is that of JESD251, PRESUMED, log 100). -/
def ospiCommand (o : Ospi) (addr : Nat) : List Byte :=
  [BitVec.ofNat 8 o.opcode, ~~~(BitVec.ofNat 8 o.opcode)] ++ (leBytes 4 addr).reverse

/-- Clocks of a line fill from the fall of the select to its rise: t_CSS, two command bytes, four of the address, the dummies, 32 bytes of data
and t_CSH, two bytes to the clock (R442, R445). -/
def lineClocks (o : Ospi) : Nat := o.tCss + 1 + 2 + o.dummies + 16 + o.tCsh

/-- OSPI_LINE_READ: once the select may fall, the 32 bytes of the line; SPIM_RDY is high, so a timeout's alarm ends (R443 to R445). -/
def onLineRead (addr : Nat) (s : State) : State :=
  let a := addr / 32 * 32
  let o := s.loc.ospi
  let t := passCclk (o.div * lineClocks o) (toCclk o.freeAt s)
  endAlarm 0x0A07 0 (leBytes 4 s.loc.ospiTimeouts)
    { t with loc.ospiLine := (List.range 32).map (fun i => windowByte s (a + i)), loc.spimRdy := true, fresh := s.fresh + 32
             loc.ospi := { o with freeAt := t.time.cclk + o.div * o.tCsd, command := ospiCommand o a } }

def execOspiLineRead (addr : Nat) (s : State) : Host.Outcome State Fault Refusal := .next (onLineRead addr s)

/-- OSPI_WINDOW_WRITE: an error response, counted. -/
def execOspiWindowWrite (_addr : Nat) (s : State) : Host.Outcome State Fault Refusal :=
  .next { s with loc.ospiWriteErrors := s.loc.ospiWriteErrors + 1 }

/-- OSPI_RDY_TIMEOUT: SPIM_RDY low for 8 µs. -/
def execOspiRdyTimeout (s : State) : Host.Outcome State Fault Refusal :=
  .next (raiseAlarm 0x0A07 0 (leBytes 4 (s.loc.ospiTimeouts + 1))
    { passCclk 3200 s with loc.ospiTimeouts := s.loc.ospiTimeouts + 1, loc.spimRdy := false })

/-! ### The service port (R446 to R451) -/

/-- Header fields (R447). -/
def svcCmd (h : Word) : Nat := h.toNat / 16777216
def svcN (h : Word) : Nat := h.toNat / 65536 % 256
def svcAddr (h : Word) : Nat := h.toNat % 65536

/-- ALIGN and NOREACH, which void the frame (R448). -/
def svcAlign (h : Word) : Bool := decide (svcCmd h ≠ 1 ∧ svcCmd h ≠ 2) || decide (svcN h = 0 ∨ 64 < svcN h) || decide (svcAddr h % 4 ≠ 0)
def svcNoReach (h : Word) : Bool := !reaches .service (svcAddr h)

/-- The last word of the region that holds an offset (R449). -/
def svcLast (off : Nat) : Nat := if off < 0x1000 then 0x0FFC else 0x3FFC

/-- The auto-increment passes the end of the region (R448). -/
def svcOver (h : Word) : Bool := decide (svcLast (svcAddr h) < svcAddr h + 4 * (svcN h - 1))

/-- Bytes of a word in the order sent, most significant first (R446). -/
def wordBytes (w : Word) : List Byte := (leBytes 4 w.toNat).reverse

/-- CRC-16 over header and data words (R448). -/
def svcCrc (h : Word) (data : List Word) : Nat := (crc16 ((h :: data).map wordBytes).flatten).toNat

/-- The status word. -/
def svcStatus (crc : Nat) (noLatch viol last align noReach overrun : Bool) : Word :=
  w32 (crc * 65536 + b2n noLatch * 32 + b2n viol * 16 + b2n last * 8 + b2n align * 4 + b2n noReach * 2 + b2n overrun)

/-- A frame is counted, with its violation (LP_SVC_COUNT). -/
def countFrame (viol : Bool) (s : State) : State :=
  { s with loc.svcFrames := (s.loc.svcFrames + 1) % 65536, loc.svcViolations := satAdd 255 s.loc.svcViolations (b2n viol) }

/-- The data words of a READ in turn: the words sent, whether a latch was missing, and the state. -/
def svcReads (last : Nat) (early : List Nat) : List Nat → Nat → State → List Word × Bool × State
  | [], _, s => ([], false, s)
  | i :: is, off, s =>
    let inside := decide (off ≤ last)
    let miss := inside && latchMissing .service off s
    let t := if inside then readReg .service off s else s
    let w := if inside && !early.contains i then t.host.readData else 0
    let rest := svcReads last early is (off + 4) t
    (w :: rest.1, miss || rest.2.1, rest.2.2)

/-- SERVICE_READ_FRAME: each data word is a read of its own; a void frame reads 0. -/
def onSvcRead (h : Word) (early : List Nat) (s : State) : State :=
  let viol := early.any (fun i => decide (i < svcN h))
  let t := countFrame viol s
  if svcAlign h || svcNoReach h then
    let data := List.replicate (svcN h) (0 : Word)
    { t with loc.svcOut := data ++ [svcStatus (svcCrc h data) false viol s.loc.svcDiscard (svcAlign h) (svcNoReach h) false] }
  else
    let r := svcReads (svcLast (svcAddr h)) early (List.range (svcN h)) (svcAddr h) t
    { r.2.2 with loc.svcOut := r.1 ++ [svcStatus (svcCrc h r.1) r.2.1 viol s.loc.svcDiscard false false (svcOver h)] }

def execServiceReadFrame (header : Word) (early : List Nat) (s : State) : Host.Outcome State Fault Refusal :=
  .next (onSvcRead header early s)

/-- The in-range words of a WRITE, applied together. -/
def svcWrites (last : Nat) : List Word → Nat → State → State
  | [], _, s => s
  | w :: ws, off, s => svcWrites last ws (off + 4) (if off ≤ last then writeReg .service off w.toNat s else s)

/-- SERVICE_WRITE_FRAME at select release: applied whole, or discarded and counted. -/
def onSvcWrite (h : Word) (data : List Word) (crc : Nat) (whole early : Bool) (s : State) : State :=
  let t := countFrame early s
  let void := svcAlign h || svcNoReach h || early
  let good := whole && decide (data.length = svcN h) && !void && decide (svcCmd h = 2) && decide (crc = svcCrc h data)
  let out := svcStatus (svcCrc h data) false early s.loc.svcDiscard (svcAlign h) (svcNoReach h) (!void && svcOver h)
  if good then svcWrites (svcLast (svcAddr h)) data (svcAddr h) { t with loc.svcOut := [out], loc.svcDiscard := false }
  else { t with loc.svcOut := [out], loc.svcDiscard := true, loc.svcDiscards := satAdd 255 t.loc.svcDiscards 1 }

def execServiceWriteFrame (header : Word) (data : List Word) (crc : Nat) (whole early : Bool) (s : State) :
    Host.Outcome State Fault Refusal := .next (onSvcWrite header data crc whole early s)

/-! ### Pins (R461, R463) -/

/-- PPS_RISE at the next whole second of hub time, while LOCKED or HOLDOVER and outside the safe state. -/
def onPpsRise (s : State) : State :=
  let t := toInstant (2000000000 * ceilDiv s.time.half 2000000000) s
  if (t.time.locked || t.time.holdover) && !t.safety.safe then
    { t with loc.pps := true, loc.ppsFall := 2000000000 * (t.time.half / 2000000000) + 200000000 }
  else { t with loc.pps := false }

def execPpsRise (s : State) : Host.Outcome State Fault Refusal := .next (onPpsRise s)

/-- PPS_FALL 100 ms after the rise. -/
def execPpsFall (s : State) : Host.Outcome State Fault Refusal :=
  .next (if s.loc.pps then { toInstant s.loc.ppsFall s with loc.pps := false } else s)

/-- RESERVE_PWR: a level that has held for 10 ms is the new level, and each change raises the event. -/
def execReservePwr (level : Bool) (s : State) : Host.Outcome State Fault Refusal :=
  .next (if s.loc.reserve = level then s else event 0x0A06 0 [BitVec.ofNat 8 (b2n level)] { s with loc.reserve := level })

end Sys2Proof.Machine
end

