-- ==== Sys2Proof/Machine/Hub.lean ====
section
/-! DEFINITION. The commands of the hub family (15, R396, R399 to R402). -/

namespace Sys2Proof.Machine

/-- NOP. -/
def execNop (h : CmdHdr) (s : State) : Host.Outcome State Fault Refusal :=
  .next (runCommand h 0x0001 (fun _ => none) (finish h 0x0001 okReply) s)

/-- BAR0 0x0000 to 0x003F (R396). -/
def hubInfoBytes (s : State) : List Byte := ((List.range 16).map (fun j => leBytes 4 (regValue .controller (4 * j) s))).flatten

def execHubInfo (h : CmdHdr) (s : State) : Host.Outcome State Fault Refusal :=
  .next (readCommand h 0x0002 64 (fun _ => none) hubInfoBytes s)

/-- The hub acquires, and no stop waits. -/
def stillRunning (s : State) : Bool := s.fret.acquiring && !s.fret.stopAt

/-- ACQ_START checks (R390, R400); a running hub needs none beyond its fields (R399). -/
def acqStartCheck (has target : Nat) (s : State) : Option Reply :=
  orElseReply (firstBad [(28, decide (1 < has))])
    (if stillRunning s then none else if !s.dram.trained then some (refusedState 9 0) else targetCheck 29 has target s)

/-- ACQ_START (R399, R400). -/
def execAcqStart (h : CmdHdr) (hasTarget target : Nat) (s : State) : Host.Outcome State Fault Refusal :=
  .next (runCommand h 0x0003 (acqStartCheck hasTarget target)
    (fun t =>
      if stillRunning t then finish h 0x0003 okReply t
      else { t with fret.startAt := t.fret.startAt ++ [(targetBoundary hasTarget target t, h)] }) s)

/-- ACQ_STOP (R399, R401). -/
def execAcqStop (h : CmdHdr) (s : State) : Host.Outcome State Fault Refusal :=
  .next (runCommand h 0x0004 (fun _ => none)
    (fun t => if t.fret.acquiring then finishAtBoundary h 0x0004 { t with fret.stopAt := true } else finish h 0x0004 okReply t) s)

/-- RESET_HUB: the completion is written, and the hub will reset (R396). -/
def execResetHub (h : CmdHdr) (key : Nat) (s : State) : Host.Outcome State Fault Refusal :=
  .next (runCommand h 0x0005 (fun _ => firstBad [(28, decide (key ≠ 0x0D1E0D1E))])
    (fun t => { finish h 0x0005 okReply t with boot.resetDue := true }) s)

/-- The eight counters of a port (R402). -/
def portCounters (c : PortCount) : List Nat := [c.frames, c.fcs, c.r312, c.lsdu, c.dups, c.reasm, c.versions,
  (c.classFull.map (·.2)).foldl (· + ·) 0]

/-- A group of counters (R402). -/
def counterGroup (g : Nat) (s : State) : List Nat :=
  if g = 0 then
    [s.ptp.discards, s.ptp.portA.validSyncs, s.ptp.portB.validSyncs, s.ptp.announces, s.ptp.portChanges, s.trig.stale, s.trig.badCheck,
      s.ptp.largeSteps]
  else if g = 1 then portCounters s.ring.countA ++ portCounters s.ring.countB
  else (List.range 16).map (fun n => (tget combRun0 s.trig.combs n).held)

/-- COUNTER_READ. -/
def execCounterRead (h : CmdHdr) (group : Nat) (s : State) : Host.Outcome State Fault Refusal :=
  .next (readCommand h 0x0006 (if group = 0 then 32 else 64) (fun _ => firstBad [(28, decide (2 < group))])
    (fun t => ((counterGroup group t).map (leBytes 4)).flatten) s)

end Sys2Proof.Machine
end

