-- ==== Sys2Proof/Machine/Dispatch.lean ====
section
/-! DEFINITION. One arm per command, each one call of its meaning. -/

namespace Sys2Proof.Machine

def exec (i : Instr) (s : State) : Host.Outcome State Fault Refusal :=
  match i with
  -- FRET AND RECORDS (03, 08)
  | .fretBoundary late => Sys2Proof.Machine.execFretBoundary late s
  | .recordClose => Sys2Proof.Machine.execRecordClose s
  | .epochDue => Sys2Proof.Machine.execEpochDue s
  | .safeStateClose => Sys2Proof.Machine.execSafeStateClose s
  -- FRONT ENDS (04)
  | .decimatorOutput slice levels => Sys2Proof.Machine.execDecimatorOutput slice levels s
  | .modulatorOverload slice => Sys2Proof.Machine.execModulatorOverload slice s
  -- TRIGGERS (09)
  | .triggerWordArrival => Sys2Proof.Machine.execTriggerWordArrival s
  | .gpioEdge pin level => Sys2Proof.Machine.execGpioEdge pin level s
  | .termExpiry comb => Sys2Proof.Machine.execTermExpiry comb s
  | .captureClose unit => Sys2Proof.Machine.execCaptureClose unit s
  | .rearmEnd unit => Sys2Proof.Machine.execRearmEnd unit s
  | .fullToArmed unit => Sys2Proof.Machine.execFullToArmed unit s
  | .autoTrigger unit => Sys2Proof.Machine.execAutoTrigger unit s
  | .sympatheticRx port payload => Sys2Proof.Machine.execSympatheticRx port payload s
  | .mergeWindowEnd group => Sys2Proof.Machine.execMergeWindowEnd group s
  | .sympatheticFallback group => Sys2Proof.Machine.execSympatheticFallback group s
  -- DELIVERY (08, 09)
  | .captureDataDeliver stream found => Sys2Proof.Machine.execCaptureDataDeliver stream found s
  | .replayDeliver stream found => Sys2Proof.Machine.execReplayDeliver stream found s
  | .stagingEventPost => Sys2Proof.Machine.execStagingEventPost s
  -- EXCITATION AND MONITORS (04, 05, 21)
  | .railRegulationChange rail vsnsMv limiting => Sys2Proof.Machine.execRailRegulationChange rail vsnsMv limiting s
  | .railCurrentLimitTimeout rail => Sys2Proof.Machine.execRailCurrentLimitTimeout rail s
  | .vexcHigh die tenMv => Sys2Proof.Machine.execVexcHigh die tenMv s
  | .vexcLow die tenMv => Sys2Proof.Machine.execVexcLow die tenMv s
  | .vexcRecovered die tenMv => Sys2Proof.Machine.execVexcRecovered die tenMv s
  | .openWireDetect monitor site => Sys2Proof.Machine.execOpenWireDetect monitor site s
  | .openWireClearTimeout monitor site => Sys2Proof.Machine.execOpenWireClearTimeout monitor site s
  | .toneWindowEnd slice ratio => Sys2Proof.Machine.execToneWindowEnd slice ratio s
  | .learningRunEnd die => Sys2Proof.Machine.execLearningRunEnd die s
  | .sliceTestEnd die measured => Sys2Proof.Machine.execSliceTestEnd die measured s
  | .rotationCycleStart die => Sys2Proof.Machine.execRotationCycleStart die s
  | .rotationOutPeriodEnd die => Sys2Proof.Machine.execRotationOutPeriodEnd die s
  | .slotEnd course meas => Sys2Proof.Machine.execSlotEnd course meas s
  | .syncInEdge rising => Sys2Proof.Machine.execSyncInEdge rising s
  | .calSelfEnd die measured => Sys2Proof.Machine.execCalSelfEnd die measured s
  | .microcodeReloadEnd die => Sys2Proof.Machine.execMicrocodeReloadEnd die s
  | .tempDrift die temp => Sys2Proof.Machine.execTempDrift die temp s
  -- REDUCTION (10)
  | .statsRecordClose set ue => Sys2Proof.Machine.execStatsRecordClose set ue s
  | .rainflowRecordClose set ue => Sys2Proof.Machine.execRainflowRecordClose set ue s
  | .spectrumRecordClose set ue => Sys2Proof.Machine.execSpectrumRecordClose set ue s
  | .redSelftestEnd pass => Sys2Proof.Machine.execRedSelftestEnd pass s
  -- DRAM (11)
  | .retrainPause above85 move edgeNear => Sys2Proof.Machine.execRetrainPause above85 move edgeNear s
  | .refreshDue => Sys2Proof.Machine.execRefreshDue s
  | .scrubRead found => Sys2Proof.Machine.execScrubRead found s
  | .dramParityError addr requester failures => Sys2Proof.Machine.execDramParityError addr requester failures s
  -- RING (12, 02)
  | .ringFrameRx port frame => Sys2Proof.Machine.execRingFrameRx port frame s
  | .egressFrameTx port => Sys2Proof.Machine.execEgressFrameTx port s
  | .ptpSyncRx port msg => Sys2Proof.Machine.execPtpSyncRx port msg s
  | .ptpAnnounceRx port msg => Sys2Proof.Machine.execPtpAnnounceRx port msg s
  | .announceReceiptTimeout => Sys2Proof.Machine.execAnnounceReceiptTimeout s
  | .pdelayReqRx port domain seqId requestor ingress16 => Sys2Proof.Machine.execPdelayReqRx port domain seqId requestor ingress16 s
  | .pdelayRespRx port domain seqId turnaround16 ingress16 => Sys2Proof.Machine.execPdelayRespRx port domain seqId turnaround16 ingress16 s
  | .ptpSyncTx => Sys2Proof.Machine.execPtpSyncTx s
  | .ptpAnnounceTx => Sys2Proof.Machine.execPtpAnnounceTx s
  | .pdelayReqTx port => Sys2Proof.Machine.execPdelayReqTx port s
  | .preferredPortTimeout => Sys2Proof.Machine.execPreferredPortTimeout s
  | .overlapTimeout => Sys2Proof.Machine.execOverlapTimeout s
  | .closureUpdate => Sys2Proof.Machine.execClosureUpdate s
  | .syncLossTimeout => Sys2Proof.Machine.execSyncLossTimeout s
  | .jorvaRecordRx hub stream record retrieval => Sys2Proof.Machine.execJorvaRecordRx hub stream record retrieval s
  | .reassemblyTimeout port hub stream tag => Sys2Proof.Machine.execReassemblyTimeout port hub stream tag s
  | .beaconRx port msg => Sys2Proof.Machine.execBeaconRx port msg s
  | .beaconTx => Sys2Proof.Machine.execBeaconTx s
  | .hubAbsentTimeout hub => Sys2Proof.Machine.execHubAbsentTimeout hub s
  | .ringHoldResend stream => Sys2Proof.Machine.execRingHoldResend stream s
  | .retrievalRecordTx => Sys2Proof.Machine.execRetrievalRecordTx s
  | .creditRx msg => Sys2Proof.Machine.execCreditRx msg s
  | .creditReturnTimeout hub => Sys2Proof.Machine.execCreditReturnTimeout hub s
  | .budgetMsgRx msg => Sys2Proof.Machine.execBudgetMsgRx msg s
  | .leaseMsgRx msg => Sys2Proof.Machine.execLeaseMsgRx msg s
  | .roleVacantTimeout role => Sys2Proof.Machine.execRoleVacantTimeout role s
  | .claimWindowEnd role => Sys2Proof.Machine.execClaimWindowEnd role s
  | .leaseRenewTx role => Sys2Proof.Machine.execLeaseRenewTx role s
  | .leaseExpiry role => Sys2Proof.Machine.execLeaseExpiry role s
  | .commandFrameRx gateway term opcode hdr => Sys2Proof.Machine.execCommandFrameRx gateway term opcode hdr s
  | .completionFrameRx c => Sys2Proof.Machine.execCompletionFrameRx c s
  | .forwardRetryTimeout hub tag => Sys2Proof.Machine.execForwardRetryTimeout hub tag s
  | .leaveMsgRx hub => Sys2Proof.Machine.execLeaveMsgRx hub s
  | .joinListenEnd => Sys2Proof.Machine.execJoinListenEnd s
  | .hsrSupervisionTx => Sys2Proof.Machine.execHsrSupervisionTx s
  | .hsrSupervisionRx node => Sys2Proof.Machine.execHsrSupervisionRx node s
  | .nodeForget node => Sys2Proof.Machine.execNodeForget node s
  | .duplicateEntryExpiry => Sys2Proof.Machine.execDuplicateEntryExpiry s
  | .linkUp port => Sys2Proof.Machine.execLinkUp port s
  | .linkDown port => Sys2Proof.Machine.execLinkDown port s
  -- LANES (13)
  | .laneStageAdvance lane align => Sys2Proof.Machine.execLaneStageAdvance lane align s
  | .laneStageTimeout lane => Sys2Proof.Machine.execLaneStageTimeout lane s
  | .laneFaultRetry lane => Sys2Proof.Machine.execLaneFaultRetry lane s
  | .laneLockLoss lane loss => Sys2Proof.Machine.execLaneLockLoss lane loss s
  | .eyeScanComplete lane width height => Sys2Proof.Machine.execEyeScanComplete lane width height s
  | .laneTestEnd lane bits errors => Sys2Proof.Machine.execLaneTestEnd lane bits errors s
  -- HOST INTERFACE (14)
  | .perstRelease => Sys2Proof.Machine.execPerstRelease s
  | .pcieReset => Sys2Proof.Machine.execPcieReset s
  | .ringDoorbell ring idx => Sys2Proof.Machine.execRingDoorbell ring idx s
  | .descriptorFetch ring descriptor data readable => Sys2Proof.Machine.execDescriptorFetch ring descriptor data readable s
  | .completionWrite => Sys2Proof.Machine.execCompletionWrite s
  | .queueEntryDma ring => Sys2Proof.Machine.execQueueEntryDma ring s
  | .ringPop req ring => Sys2Proof.Machine.execRingPop req ring s
  | .ringFlushRequest ring => Sys2Proof.Machine.execRingFlushRequest ring s
  | .ringFlushComplete ring => Sys2Proof.Machine.execRingFlushComplete ring s
  | .hifStart => Sys2Proof.Machine.execHifStart s
  | .evtMaskWrite group value => Sys2Proof.Machine.execEvtMaskWrite group value s
  | .dmaReadFailure ring => Sys2Proof.Machine.execDmaReadFailure ring s
  | .readTimeNowNs req => Sys2Proof.Machine.execReadTimeNowNs req s
  | .readTimeDcoIncLo req => Sys2Proof.Machine.execReadTimeDcoIncLo req s
  | .readLaneErrLo req lane => Sys2Proof.Machine.execReadLaneErrLo req lane s
  | .shadowRead req offset => Sys2Proof.Machine.execShadowRead req offset s
  | .registerWrite req offset value enables => Sys2Proof.Machine.execRegisterWrite req offset value enables s
  -- SAFETY (19)
  | .safeForce => Sys2Proof.Machine.execSafeForce s
  | .clockLoss clock => Sys2Proof.Machine.execClockLoss clock s
  | .clockRestored clock => Sys2Proof.Machine.execClockRestored clock s
  | .hubSupplyFault supply tenMv => Sys2Proof.Machine.execHubSupplyFault supply tenMv s
  | .feSupplyFault supply tenMv => Sys2Proof.Machine.execFeSupplyFault supply tenMv s
  | .dieLinkFault die => Sys2Proof.Machine.execDieLinkFault die s
  | .tempHigh die temp => Sys2Proof.Machine.execTempHigh die temp s
  | .configParityError => Sys2Proof.Machine.execConfigParityError s
  | .residueMismatch => Sys2Proof.Machine.execResidueMismatch s
  | .sramUe which => Sys2Proof.Machine.execSramUe which s
  | .timeXcheckWindow edges => Sys2Proof.Machine.execTimeXcheckWindow edges s
  -- CONTROLLER PAIRS (16)
  | .lockstepDivergence => Sys2Proof.Machine.execLockstepDivergence s
  | .watchdogExpiry => Sys2Proof.Machine.execWatchdogExpiry s
  | .pairSramUe => Sys2Proof.Machine.execPairSramUe s
  | .busErrorTimeout => Sys2Proof.Machine.execBusErrorTimeout s
  | .clesinFatalCheck => Sys2Proof.Machine.execClesinFatalCheck s
  | .takeover read => Sys2Proof.Machine.execTakeover read s
  | .startingTimeout => Sys2Proof.Machine.execStartingTimeout s
  | .fenceHoldEnd pair => Sys2Proof.Machine.execFenceHoldEnd pair s
  | .pairSelftestEnd pair outcome => Sys2Proof.Machine.execPairSelftestEnd pair outcome s
  | .checkpoint written badAddr => Sys2Proof.Machine.execCheckpoint written badAddr s
  | .drillQuiesced => Sys2Proof.Machine.execDrillQuiesced s
  -- FIELD PORTS (17)
  | .fpRequestSend port idle => Sys2Proof.Machine.execFpRequestSend port idle s
  | .fpResponseComplete port chars framingOk => Sys2Proof.Machine.execFpResponseComplete port chars framingOk s
  | .fpResponseTimeout port => Sys2Proof.Machine.execFpResponseTimeout port s
  | .fpSlotEnd port => Sys2Proof.Machine.execFpSlotEnd port s
  -- LOCAL PORTS (18)
  | .serviceReadFrame header early => Sys2Proof.Machine.execServiceReadFrame header early s
  | .serviceWriteFrame header data crc whole early => Sys2Proof.Machine.execServiceWriteFrame header data crc whole early s
  | .ospiLineRead addr => Sys2Proof.Machine.execOspiLineRead addr s
  | .ospiWindowWrite addr => Sys2Proof.Machine.execOspiWindowWrite addr s
  | .ospiRdyTimeout => Sys2Proof.Machine.execOspiRdyTimeout s
  | .valPeriodStart out => Sys2Proof.Machine.execValPeriodStart out s
  | .valStaleTimeout out => Sys2Proof.Machine.execValStaleTimeout out s
  | .valTripHoldEnd out => Sys2Proof.Machine.execValTripHoldEnd out s
  | .valFbFinding out finding => Sys2Proof.Machine.execValFbFinding out finding s
  | .valDiagClear out finding => Sys2Proof.Machine.execValDiagClear out finding s
  | .ppsRise => Sys2Proof.Machine.execPpsRise s
  | .ppsFall => Sys2Proof.Machine.execPpsFall s
  | .reservePwr level => Sys2Proof.Machine.execReservePwr level s
  -- BOOT AND UPDATE (20, 21)
  | .powerOnReset => Sys2Proof.Machine.execPowerOnReset s
  | .resetAssert => Sys2Proof.Machine.execResetAssert s
  | .resetRelease found => Sys2Proof.Machine.execResetRelease found s
  | .bootComplete => Sys2Proof.Machine.execBootComplete s
  | .trialExpiry => Sys2Proof.Machine.execTrialExpiry s
  | .updSessionExpiry => Sys2Proof.Machine.execUpdSessionExpiry s
  | .updCmdOpen req => Sys2Proof.Machine.execUpdCmdOpen req s
  | .updCmdWrite req words => Sys2Proof.Machine.execUpdCmdWrite req words s
  | .updCmdCommit req image => Sys2Proof.Machine.execUpdCmdCommit req image s
  | .updCmdAbort req => Sys2Proof.Machine.execUpdCmdAbort req s
  | .updCmdHealthConfirm req => Sys2Proof.Machine.execUpdCmdHealthConfirm req s
  | .updCmdUnlock req => Sys2Proof.Machine.execUpdCmdUnlock req s
  | .updCmdDone req => Sys2Proof.Machine.execUpdCmdDone req s
  -- COMMANDS OF THE HUB, TIME AND FRET FAMILIES (15, R396)
  | .nop h => Sys2Proof.Machine.execNop h s
  | .hubInfo h => Sys2Proof.Machine.execHubInfo h s
  | .acqStart h hasTarget target => Sys2Proof.Machine.execAcqStart h hasTarget target s
  | .acqStop h => Sys2Proof.Machine.execAcqStop h s
  | .resetHub h key => Sys2Proof.Machine.execResetHub h key s
  | .counterRead h group => Sys2Proof.Machine.execCounterRead h group s
  | .timeSet h sec ns => Sys2Proof.Machine.execTimeSet h sec ns s
  | .timeAdjust h step freq => Sys2Proof.Machine.execTimeAdjust h step freq s
  | .timeAsym h port asym => Sys2Proof.Machine.execTimeAsym h port asym s
  | .ptpSet h p => Sys2Proof.Machine.execPtpSet h p s
  | .fretSet h period => Sys2Proof.Machine.execFretSet h period s
  -- COMMANDS OF THE FRONT ENDS (R396)
  | .dynChanSet h p => Sys2Proof.Machine.execDynChanSet h p s
  | .railSet h rail voltage iLim => Sys2Proof.Machine.execRailSet h rail voltage iLim s
  | .vexcSet h die nom => Sys2Proof.Machine.execVexcSet h die nom s
  | .dynChainSet h p => Sys2Proof.Machine.execDynChainSet h p s
  | .courseSet h p => Sys2Proof.Machine.execCourseSet h p s
  | .scanChanSet h p => Sys2Proof.Machine.execScanChanSet h p s
  | .courseRealign h course => Sys2Proof.Machine.execCourseRealign h course s
  | .urgentRead h chan => Sys2Proof.Machine.execUrgentRead h chan s
  | .courseResultRead h course => Sys2Proof.Machine.execCourseResultRead h course s
  | .syncResetCmd h p => Sys2Proof.Machine.execSyncResetCmd h p s
  | .spareSet h die auto rotation => Sys2Proof.Machine.execSpareSet h die auto rotation s
  | .spareSubst h chan action => Sys2Proof.Machine.execSpareSubst h chan action s
  | .sliceTest h chan keep => Sys2Proof.Machine.execSliceTest h chan keep s
  | .dieIsolate h die action => Sys2Proof.Machine.execDieIsolate h die action s
  | .bankWrite h chan bank gain offset label => Sys2Proof.Machine.execBankWrite h chan bank gain offset label s
  | .bankSwap h chan target fade => Sys2Proof.Machine.execBankSwap h chan target fade s
  | .calSelf h dies => Sys2Proof.Machine.execCalSelf h dies s
  | .calRead h die sets => Sys2Proof.Machine.execCalRead h die sets s
  | .calWrite h die sets blocks => Sys2Proof.Machine.execCalWrite h die sets blocks s
  -- STREAMS AND HOST RINGS (R397)
  | .subscribe h p => Sys2Proof.Machine.execSubscribe h p s
  | .unsubscribe h stream => Sys2Proof.Machine.execUnsubscribe h stream s
  | .recvSubscribe h srcHub stream hostRing action => Sys2Proof.Machine.execRecvSubscribe h srcHub stream hostRing action s
  | .retrieve h p => Sys2Proof.Machine.execRetrieve h p s
  | .streamStateRead h stream seq => Sys2Proof.Machine.execStreamStateRead h stream seq s
  | .ringConfig h p => Sys2Proof.Machine.execRingConfig h p s
  -- TRIGGERS AND CAPTURE (R397)
  | .condWrite h first entries => Sys2Proof.Machine.execCondWrite h first entries s
  | .combSet h p => Sys2Proof.Machine.execCombSet h p s
  | .unitSet h p => Sys2Proof.Machine.execUnitSet h p s
  | .arm h unit => Sys2Proof.Machine.execArm h unit s
  | .disarm h unit => Sys2Proof.Machine.execDisarm h unit s
  | .captureTrigger h p => Sys2Proof.Machine.execCaptureTrigger h p s
  | .captureRelease h unit captureNo => Sys2Proof.Machine.execCaptureRelease h unit captureNo s
  | .sympGroupSet h group mode wG => Sys2Proof.Machine.execSympGroupSet h group mode wG s
  -- REDUCTION AND MEMORY (R397)
  | .statsSet h set interval stream entries => Sys2Proof.Machine.execStatsSet h set interval stream entries s
  | .rainflowSet h set interval stream chans => Sys2Proof.Machine.execRainflowSet h set interval stream chans s
  | .spectralSet h p => Sys2Proof.Machine.execSpectralSet h p s
  | .redSelftest h => Sys2Proof.Machine.execRedSelftest h s
  | .memPartition h hist capo => Sys2Proof.Machine.execMemPartition h hist capo s
  | .memStatus h => Sys2Proof.Machine.execMemStatus h s
  -- RING AND LANES (R397)
  | .ringPortSet h p => Sys2Proof.Machine.execRingPortSet h p s
  | .rosterSet h hubs => Sys2Proof.Machine.execRosterSet h hubs s
  | .roleSet h gwElig gwPri arbElig arbPri => Sys2Proof.Machine.execRoleSet h gwElig gwPri arbElig arbPri s
  | .join h => Sys2Proof.Machine.execJoin h s
  | .leave h => Sys2Proof.Machine.execLeave h s
  | .topologyRead h => Sys2Proof.Machine.execTopologyRead h s
  | .laneTest h p => Sys2Proof.Machine.execLaneTest h p s
  | .laneInject h lane => Sys2Proof.Machine.execLaneInject h lane s
  | .laneAdapt h lane freeze => Sys2Proof.Machine.execLaneAdapt h lane freeze s
  | .laneTxSet h lane pre main post txInv => Sys2Proof.Machine.execLaneTxSet h lane pre main post txInv s
  -- THE REMAINING FAMILIES (R398)
  | .fpPortSet h p => Sys2Proof.Machine.execFpPortSet h p s
  | .fpDirWrite h first entries => Sys2Proof.Machine.execFpDirWrite h first entries s
  | .valOutSet h p => Sys2Proof.Machine.execValOutSet h p s
  | .gpioSet h dir out od => Sys2Proof.Machine.execGpioSet h dir out od s
  | .syncInSet h enable edge => Sys2Proof.Machine.execSyncInSet h enable edge s
  | .swapDrill h => Sys2Proof.Machine.execSwapDrill h s
  | .safeRecover h key => Sys2Proof.Machine.execSafeRecover h key s
  | .ownerLock h lock capoGuard key => Sys2Proof.Machine.execOwnerLock h lock capoGuard key s
  | .updOpen h length => Sys2Proof.Machine.execUpdOpen h length s
  | .updWrite h offset data => Sys2Proof.Machine.execUpdWrite h offset data s
  | .updCommit h activate image => Sys2Proof.Machine.execUpdCommit h activate image s
  | .updAbort h => Sys2Proof.Machine.execUpdAbort h s
  | .healthConfirm h => Sys2Proof.Machine.execHealthConfirm h s
  -- READ TWINS (R391)
  | .timeAsymTwin h port => Sys2Proof.Machine.execTimeAsymTwin h port s
  | .ptpSetTwin h => Sys2Proof.Machine.execPtpSetTwin h s
  | .fretSetTwin h => Sys2Proof.Machine.execFretSetTwin h s
  | .dynChanSetTwin h chans => Sys2Proof.Machine.execDynChanSetTwin h chans s
  | .railSetTwin h rail => Sys2Proof.Machine.execRailSetTwin h rail s
  | .vexcSetTwin h die => Sys2Proof.Machine.execVexcSetTwin h die s
  | .dynChainSetTwin h chans => Sys2Proof.Machine.execDynChainSetTwin h chans s
  | .courseSetTwin h course => Sys2Proof.Machine.execCourseSetTwin h course s
  | .scanChanSetTwin h course positions => Sys2Proof.Machine.execScanChanSetTwin h course positions s
  | .spareSetTwin h die => Sys2Proof.Machine.execSpareSetTwin h die s
  | .bankWriteTwin h chan bank => Sys2Proof.Machine.execBankWriteTwin h chan bank s
  | .subscribeTwin h stream => Sys2Proof.Machine.execSubscribeTwin h stream s
  | .ringConfigTwin h ring => Sys2Proof.Machine.execRingConfigTwin h ring s
  | .condWriteTwin h first count => Sys2Proof.Machine.execCondWriteTwin h first count s
  | .combSetTwin h comb => Sys2Proof.Machine.execCombSetTwin h comb s
  | .unitSetTwin h unit => Sys2Proof.Machine.execUnitSetTwin h unit s
  | .sympGroupSetTwin h group => Sys2Proof.Machine.execSympGroupSetTwin h group s
  | .statsSetTwin h set => Sys2Proof.Machine.execStatsSetTwin h set s
  | .rainflowSetTwin h set => Sys2Proof.Machine.execRainflowSetTwin h set s
  | .spectralSetTwin h set => Sys2Proof.Machine.execSpectralSetTwin h set s
  | .memPartitionTwin h => Sys2Proof.Machine.execMemPartitionTwin h s
  | .ringPortSetTwin h => Sys2Proof.Machine.execRingPortSetTwin h s
  | .rosterSetTwin h => Sys2Proof.Machine.execRosterSetTwin h s
  | .roleSetTwin h => Sys2Proof.Machine.execRoleSetTwin h s
  | .laneTxSetTwin h lane => Sys2Proof.Machine.execLaneTxSetTwin h lane s
  | .fpPortSetTwin h port => Sys2Proof.Machine.execFpPortSetTwin h port s
  | .fpDirWriteTwin h first count => Sys2Proof.Machine.execFpDirWriteTwin h first count s
  | .valOutSetTwin h out => Sys2Proof.Machine.execValOutSetTwin h out s
  | .gpioSetTwin h => Sys2Proof.Machine.execGpioSetTwin h s
  | .syncInSetTwin h => Sys2Proof.Machine.execSyncInSetTwin h s
  | .ownerLockTwin h => Sys2Proof.Machine.execOwnerLockTwin h s
  -- EVENTS AT THE END OF THE TABLE
  | .prbsCheckerLock received => Sys2Proof.Machine.execPrbsCheckerLock received s
  | .prbsLockLost lane bits errors => Sys2Proof.Machine.execPrbsLockLost lane bits errors s
  | .pcieLinkTrained rate lanes reversed inverted => Sys2Proof.Machine.execPcieLinkTrained rate lanes reversed inverted s
  | .hubSupplyRestored supply => Sys2Proof.Machine.execHubSupplyRestored supply s
  | .tempRecovered die temp => Sys2Proof.Machine.execTempRecovered die temp s
  | .flashProgramDone outcome => Sys2Proof.Machine.execFlashProgramDone outcome s
  | .drillQuiesceTimeout => Sys2Proof.Machine.execDrillQuiesceTimeout s

end Sys2Proof.Machine
end

