-- ==== Sys2Proof/Safety.lean ====
section
/-! DEFINITION. The terms statements use: what a safe run of the block is, when Clesin takes a command, the state apart from
messages, and the header of a command. -/

namespace Sys2Proof

/-- `k` steps from a state end in a next state. -/
def runsSafely (k : Nat) (s : Machine.State) : Prop := ∃ t, Host.Core.run core k s = Host.Outcome.next t

namespace Machine

/-- Clesin takes a command and finds nothing wrong with its descriptor: it runs, no flag is set that the opcode does not use, the
completion has a ring to go to, and the opcode is allowed in the safe state where the hub is in it (R388, R394, R470). -/
abbrev Accepts (h : CmdHdr) (op : Nat) (s : State) : Prop :=
  clesinUp s = true ∧ flagFault h op = false ∧ (h.gateway = none → completionRing s h.cplRing = true) ∧
    (s.safety.safe = true → safeOp op = true)

/-- A state apart from messages: event sources and interrupt messages, the rings and the entries queued for them, the alarms
listed, the ALARM_N pin and the events that wait to be posted or to close with their fret. What an event, an alarm, a log or a trace entry writes lies in these. -/
def silent (s : State) : State :=
  { s with
    host := { s.host with pend := [], pba := 0, msixSent := [], rings := [], alarmQ := queue0, logQ := queue0, traceQ := queue0
                          trace := [], alarms := [] }
    pairs.waitingEvents := []
    fret.gather := s.fret.gather.map (fun x => { x with events := [] })
    fret.early := []
    loc.alarmN := false }

/-- The command answers a next state which is `u` apart from messages. -/
def Does (i : Instr) (s u : State) : Prop := ∃ t, exec i s = .next t ∧ silent t = silent u

/-- `s` with a command's completion delivered: into its ring, or back to its gateway (R336, R392). -/
def answered (h : CmdHdr) (op : Nat) (r : Reply) (s : State) : State := deliverCompletion h (completionOf h op r 0xFFFFFFFF s) s

/-- `s` with a command's completion due at the next fret boundary (R23, R392). -/
def dueAtBoundary (h : CmdHdr) (op : Nat) (s : State) : State := { s with fret.atBoundary := s.fret.atBoundary ++ [(h, op)] }

/-- The boot flash as the hub has programmed it: rising addresses, all within slot A or slot B; the boot control block is held as
`bcb`, and the board's region is never written (R483). -/
def flashForm (m : List Host.Cell) : Prop :=
  (m.map (·.1)).Pairwise (· < ·) ∧
    ∀ c ∈ m, (slotBase 0 ≤ c.1 ∧ c.1 < slotBase 0 + slotBytes) ∨ (slotBase 1 ≤ c.1 ∧ c.1 < slotBase 1 + slotBytes)

/-- The invariant of the boot flash: its form, with an open session and the write under way each within a slot (R493). -/
def FlashInv (s : State) : Prop :=
  flashForm s.boot.flash ∧ (∀ x, s.boot.session = some x → x.length ≤ slotBytes) ∧
    (∀ o, s.boot.ops.head? = some o → o.offset + o.data.length ≤ slotBytes)

/-- The descriptor header and the opcode of a command; none for what is no command of a descriptor (R395 to R398). -/
def commandOf : Instr → Option (CmdHdr × Nat)
  | .nop h => some (h, 0x0001)
  | .hubInfo h => some (h, 0x0002)
  | .acqStart h _ _ => some (h, 0x0003)
  | .acqStop h => some (h, 0x0004)
  | .resetHub h _ => some (h, 0x0005)
  | .counterRead h _ => some (h, 0x0006)
  | .timeSet h _ _ => some (h, 0x0101)
  | .timeAdjust h _ _ => some (h, 0x0102)
  | .timeAsym h _ _ => some (h, 0x0103)
  | .ptpSet h _ => some (h, 0x0104)
  | .fretSet h _ => some (h, 0x0201)
  | .dynChanSet h _ => some (h, 0x0202)
  | .railSet h _ _ _ => some (h, 0x0203)
  | .vexcSet h _ _ => some (h, 0x0204)
  | .dynChainSet h _ => some (h, 0x0205)
  | .courseSet h _ => some (h, 0x0206)
  | .scanChanSet h _ => some (h, 0x0207)
  | .courseRealign h _ => some (h, 0x0208)
  | .urgentRead h _ => some (h, 0x0209)
  | .courseResultRead h _ => some (h, 0x020A)
  | .syncResetCmd h _ => some (h, 0x020B)
  | .spareSet h _ _ _ => some (h, 0x020C)
  | .spareSubst h _ _ => some (h, 0x020D)
  | .sliceTest h _ _ => some (h, 0x020E)
  | .dieIsolate h _ _ => some (h, 0x020F)
  | .bankWrite h _ _ _ _ _ => some (h, 0x0210)
  | .bankSwap h _ _ _ => some (h, 0x0211)
  | .calSelf h _ => some (h, 0x0301)
  | .calRead h _ _ => some (h, 0x0302)
  | .calWrite h _ _ _ => some (h, 0x0303)
  | .subscribe h _ => some (h, 0x0401)
  | .unsubscribe h _ => some (h, 0x0402)
  | .recvSubscribe h _ _ _ _ => some (h, 0x0403)
  | .retrieve h _ => some (h, 0x0404)
  | .streamStateRead h _ _ => some (h, 0x0405)
  | .ringConfig h _ => some (h, 0x0406)
  | .condWrite h _ _ => some (h, 0x0501)
  | .combSet h _ => some (h, 0x0502)
  | .unitSet h _ => some (h, 0x0503)
  | .arm h _ => some (h, 0x0504)
  | .disarm h _ => some (h, 0x0505)
  | .captureTrigger h _ => some (h, 0x0506)
  | .captureRelease h _ _ => some (h, 0x0507)
  | .sympGroupSet h _ _ _ => some (h, 0x0508)
  | .statsSet h _ _ _ _ => some (h, 0x0601)
  | .rainflowSet h _ _ _ _ => some (h, 0x0602)
  | .spectralSet h _ => some (h, 0x0603)
  | .redSelftest h => some (h, 0x0604)
  | .memPartition h _ _ => some (h, 0x0701)
  | .memStatus h => some (h, 0x0702)
  | .ringPortSet h _ => some (h, 0x0801)
  | .rosterSet h _ => some (h, 0x0802)
  | .roleSet h _ _ _ _ => some (h, 0x0803)
  | .join h => some (h, 0x0804)
  | .leave h => some (h, 0x0805)
  | .topologyRead h => some (h, 0x0806)
  | .laneTest h _ => some (h, 0x0901)
  | .laneInject h _ => some (h, 0x0902)
  | .laneAdapt h _ _ => some (h, 0x0903)
  | .laneTxSet h _ _ _ _ _ => some (h, 0x0904)
  | .fpPortSet h _ => some (h, 0x0A01)
  | .fpDirWrite h _ _ => some (h, 0x0A02)
  | .valOutSet h _ => some (h, 0x0B01)
  | .gpioSet h _ _ _ => some (h, 0x0B02)
  | .syncInSet h _ _ => some (h, 0x0B03)
  | .swapDrill h => some (h, 0x0C01)
  | .safeRecover h _ => some (h, 0x0C02)
  | .ownerLock h _ _ _ => some (h, 0x0C03)
  | .updOpen h _ => some (h, 0x0D01)
  | .updWrite h _ _ => some (h, 0x0D02)
  | .updCommit h _ _ => some (h, 0x0D03)
  | .updAbort h => some (h, 0x0D04)
  | .healthConfirm h => some (h, 0x0D05)
  | .timeAsymTwin h _ => some (h, 0x0183)
  | .ptpSetTwin h => some (h, 0x0184)
  | .fretSetTwin h => some (h, 0x0281)
  | .dynChanSetTwin h _ => some (h, 0x0282)
  | .railSetTwin h _ => some (h, 0x0283)
  | .vexcSetTwin h _ => some (h, 0x0284)
  | .dynChainSetTwin h _ => some (h, 0x0285)
  | .courseSetTwin h _ => some (h, 0x0286)
  | .scanChanSetTwin h _ _ => some (h, 0x0287)
  | .spareSetTwin h _ => some (h, 0x028C)
  | .bankWriteTwin h _ _ => some (h, 0x0290)
  | .subscribeTwin h _ => some (h, 0x0481)
  | .ringConfigTwin h _ => some (h, 0x0486)
  | .condWriteTwin h _ _ => some (h, 0x0581)
  | .combSetTwin h _ => some (h, 0x0582)
  | .unitSetTwin h _ => some (h, 0x0583)
  | .sympGroupSetTwin h _ => some (h, 0x0588)
  | .statsSetTwin h _ => some (h, 0x0681)
  | .rainflowSetTwin h _ => some (h, 0x0682)
  | .spectralSetTwin h _ => some (h, 0x0683)
  | .memPartitionTwin h => some (h, 0x0781)
  | .ringPortSetTwin h => some (h, 0x0881)
  | .rosterSetTwin h => some (h, 0x0882)
  | .roleSetTwin h => some (h, 0x0883)
  | .laneTxSetTwin h _ => some (h, 0x0984)
  | .fpPortSetTwin h _ => some (h, 0x0A81)
  | .fpDirWriteTwin h _ _ => some (h, 0x0A82)
  | .valOutSetTwin h _ => some (h, 0x0B81)
  | .gpioSetTwin h => some (h, 0x0B82)
  | .syncInSetTwin h => some (h, 0x0B83)
  | .ownerLockTwin h => some (h, 0x0C83)
  | .fretBoundary _ | .recordClose | .epochDue | .safeStateClose | .decimatorOutput _ _ | .modulatorOverload _
  | .triggerWordArrival | .gpioEdge _ _ | .termExpiry _ | .captureClose _ | .rearmEnd _ | .fullToArmed _ | .autoTrigger _
  | .sympatheticRx _ _ | .mergeWindowEnd _ | .sympatheticFallback _ | .captureDataDeliver _ _ | .replayDeliver _ _
  | .stagingEventPost | .railRegulationChange _ _ _ | .railCurrentLimitTimeout _ | .vexcHigh _ _ | .vexcLow _ _
  | .vexcRecovered _ _ | .openWireDetect _ _ | .openWireClearTimeout _ _ | .toneWindowEnd _ _ | .learningRunEnd _
  | .sliceTestEnd _ _ | .rotationCycleStart _ | .rotationOutPeriodEnd _ | .slotEnd _ _ | .syncInEdge _ | .calSelfEnd _ _
  | .microcodeReloadEnd _ | .tempDrift _ _ | .statsRecordClose _ _ | .rainflowRecordClose _ _ | .spectrumRecordClose _ _
  | .redSelftestEnd _ | .retrainPause _ _ _ | .refreshDue | .scrubRead _ | .dramParityError _ _ _ | .ringFrameRx _ _
  | .egressFrameTx _ | .ptpSyncRx _ _ | .ptpAnnounceRx _ _ | .announceReceiptTimeout | .pdelayReqRx _ _ _ _ _
  | .pdelayRespRx _ _ _ _ _ | .ptpSyncTx | .ptpAnnounceTx | .pdelayReqTx _ | .preferredPortTimeout | .overlapTimeout
  | .closureUpdate | .syncLossTimeout | .jorvaRecordRx _ _ _ _ | .reassemblyTimeout _ _ _ _ | .beaconRx _ _ | .beaconTx
  | .hubAbsentTimeout _ | .ringHoldResend _ | .retrievalRecordTx | .creditRx _ | .creditReturnTimeout _ | .budgetMsgRx _
  | .leaseMsgRx _ | .roleVacantTimeout _ | .claimWindowEnd _ | .leaseRenewTx _ | .leaseExpiry _ | .commandFrameRx _ _ _ _
  | .completionFrameRx _ | .forwardRetryTimeout _ _ | .leaveMsgRx _ | .joinListenEnd | .hsrSupervisionTx | .hsrSupervisionRx _
  | .nodeForget _ | .duplicateEntryExpiry | .linkUp _ | .linkDown _ | .laneStageAdvance _ _ | .laneStageTimeout _
  | .laneFaultRetry _ | .laneLockLoss _ _ | .eyeScanComplete _ _ _ | .laneTestEnd _ _ _ | .perstRelease | .pcieReset
  | .ringDoorbell _ _ | .descriptorFetch _ _ _ _ | .completionWrite | .queueEntryDma _ | .ringPop _ _ | .ringFlushRequest _
  | .ringFlushComplete _ | .hifStart | .evtMaskWrite _ _ | .dmaReadFailure _ | .readTimeNowNs _ | .readTimeDcoIncLo _
  | .readLaneErrLo _ _ | .shadowRead _ _ | .registerWrite _ _ _ _ | .safeForce | .clockLoss _ | .clockRestored _
  | .hubSupplyFault _ _ | .feSupplyFault _ _ | .dieLinkFault _ | .tempHigh _ _ | .configParityError | .residueMismatch | .sramUe _
  | .timeXcheckWindow _ | .lockstepDivergence | .watchdogExpiry | .pairSramUe | .busErrorTimeout | .clesinFatalCheck | .takeover _
  | .startingTimeout | .fenceHoldEnd _ | .pairSelftestEnd _ _ | .checkpoint _ _ | .drillQuiesced | .fpRequestSend _ _
  | .fpResponseComplete _ _ _ | .fpResponseTimeout _ | .fpSlotEnd _ | .serviceReadFrame _ _ | .serviceWriteFrame _ _ _ _ _
  | .ospiLineRead _ | .ospiWindowWrite _ | .ospiRdyTimeout | .valPeriodStart _ | .valStaleTimeout _ | .valTripHoldEnd _
  | .valFbFinding _ _ | .valDiagClear _ _ | .ppsRise | .ppsFall | .reservePwr _ | .powerOnReset | .resetAssert | .resetRelease _
  | .bootComplete | .trialExpiry | .updSessionExpiry | .updCmdOpen _ | .updCmdWrite _ _ | .updCmdCommit _ _ | .updCmdAbort _
  | .updCmdHealthConfirm _ | .updCmdUnlock _ | .updCmdDone _ | .prbsCheckerLock _ | .prbsLockLost _ _ _ | .pcieLinkTrained _ _ _ _
  | .hubSupplyRestored _ | .tempRecovered _ _ | .flashProgramDone _ | .drillQuiesceTimeout => none

end Machine

end Sys2Proof
end

