-- ==== Sys2Proof/Certificates/Slice0/Obligations.lean ====
section
/-! DEFINITION. The statements for the provers. -/

open Sys2Proof Sys2Proof.Machine

/-- A step with a command at the front of the queue is that command's effect on the state with the rest of the queue. -/
def Obligations.StepRunsFrontCommand : Prop :=
  ∀ (c : Instr) (rest : List Instr) (s : State), s.pending = c :: rest → step s = exec c { s with pending := rest }

/-- The model's choice (log 1): a step with no command waiting is one CCLK, on which the counter advances 2.5 ns and MCLK runs on,
and nothing else. -/
def Obligations.IdleStepPassesOneCclk : Prop :=
  ∀ (s : State), s.pending = [] →
    let m := mclkRun (s.time.cclk + 1) s.time.mclkEdge s.time.walk
    step s = .next { s with time := { s.time with half := s.time.half + 5, cclk := s.time.cclk + 1, mclkEdge := m.1, walk := m.2 } }

/-- Every command answers a next state in every state: no command of the table ends in a fault or a refusal. -/
def Obligations.EveryCommandAnswersNext : Prop :=
  ∀ (c : Instr) (s : State), ∃ t, exec c s = .next t

/-- No command touches the queue of waiting commands: only a step takes from it, so commands take effect first in, first out. -/
def Obligations.CommandsLeaveQueue : Prop :=
  ∀ (c : Instr) (s t : State), exec c s = .next t → t.pending = s.pending

/-- No command but FLASH_PROGRAM_DONE, which ends a write of the update path, changes a byte of the boot flash: not a reset, a
power-on or a boot. -/
def Obligations.OnlyProgramDoneWritesFlash : Prop :=
  ∀ (c : Instr) (s t : State) (a : Nat), (∀ e, c ≠ .flashProgramDone e) → exec c s = .next t → flashAt t a = flashAt s a

/-- Every step keeps the form of the boot flash: what the hub programs lies within slot A or slot B at rising addresses, so the
board's region and the boot control block's sectors are never written as slot data; the open session and the write under way
stay within a slot. -/
def Obligations.FlashInvariantKept : Prop :=
  ∀ (s t : State), FlashInv s → step s = .next t → FlashInv t

/-- The invariant of the boot flash holds in the state after reset. -/
def Obligations.FlashInvariantAtReset : Prop :=
  FlashInv State.reset

/-- After reset the hub time is 0, P0 is starting and P1 tests itself, acquisition is stopped, the fret period is the default, no
stream is open, ALARM_N is asserted, READY is clear, no ring is active, no update session is open, slot A is CONFIRMED and
preferred, slot B is EMPTY, and no command waits. -/
def Obligations.ResetValues : Prop :=
  State.reset.time.half = 0 ∧ State.reset.pairs.p0.state = .starting ∧ State.reset.pairs.p1.state = .selftest ∧
    State.reset.fret.acquiring = false ∧ State.reset.live = settings0 ∧ State.reset.cfg = settings0 ∧ State.reset.streams = [] ∧
    State.reset.loc.alarmN = true ∧ State.reset.host.ready = false ∧ State.reset.host.rings = [] ∧ State.reset.boot.session = none ∧
    State.reset.boot.bcb.slotA = slConfirmed ∧ State.reset.boot.bcb.preferB = false ∧ State.reset.boot.bcb.slotB = slEmpty ∧
    State.reset.safety.safe = false ∧ State.reset.pending = []

/-- The model's reading (log 12): before READY, and while no controller pair is ACTIVE, a command of a descriptor has no effect
and no completion. -/
def Obligations.ClesinDownIgnoresCommands : Prop :=
  ∀ (c : Instr) (h : CmdHdr) (op : Nat) (s : State), commandOf c = some (h, op) → clesinUp s = false → exec c s = .next s

/-- A command whose descriptor sets a flag the opcode does not use is refused with BAD_PARAM at offset 3, and one whose CPL_RING
names no active COMPLETION ring with BAD_PARAM at offset 8, answered to ring 1; apart from the answer and messages the state is
as before, so every setting stands. -/
def Obligations.BadDescriptorRefused : Prop :=
  (∀ (c : Instr) (h : CmdHdr) (op : Nat) (s : State), commandOf c = some (h, op) → clesinUp s = true → flagFault h op = true →
    Does c s (answered h op (badParam 3) s)) ∧
  (∀ (c : Instr) (h : CmdHdr) (op : Nat) (s : State), commandOf c = some (h, op) → clesinUp s = true → flagFault h op = false →
    h.gateway = none → completionRing s h.cplRing = false →
    (completionOf h op (badParam 8) 0xFFFFFFFF s).ring = 1 ∧ Does c s (answered h op (badParam 8) s))

/-- In the safe state every command that R470 does not except is refused with REFUSED_STATE, state 8, and apart from the answer
and messages the state is as before: no setting changes. -/
def Obligations.SafeStateRefusesCommands : Prop :=
  ∀ (c : Instr) (h : CmdHdr) (op : Nat) (s : State), commandOf c = some (h, op) → clesinUp s = true → flagFault h op = false →
    (h.gateway = none → completionRing s h.cplRing = true) → s.safety.safe = true → safeOp op = false →
    Does c s (answered h op (refusedState 8 0) s)

/-- A completion of a descriptor of this hub's host waits for its ring, whatever else waits; that of a command taken before a PCIe
reset, or answered by a new pair, is dropped; and that of a forwarded command goes onto the ring to its gateway, of class
CONTROL with its Jorva header, one frame where its 32 bytes and data fit one and more otherwise, and none waits for a host ring. -/
def Obligations.CompletionsReachTheirSender : Prop :=
  (∀ (h : CmdHdr) (c : Completion) (s : State), h.gateway = none → (orphanKey h) ∉ s.host.orphans →
    (deliverCompletion h c s).host.waiting = s.host.waiting ++ [c] ∧ (deliverCompletion h c s).ring = s.ring ∧
    (∀ e ∈ (deliverCompletion h c s).host.handed, ¬ (e.ring = h.cmdRing ∧ e.descIdx = h.descIdx ∧ e.gateway = none))) ∧
  (∀ (h : CmdHdr) (c : Completion) (s : State), (orphanKey h) ∈ s.host.orphans →
    (deliverCompletion h c s).host.waiting = s.host.waiting ∧ (deliverCompletion h c s).ring = s.ring ∧
    (orphanKey h) ∉ (deliverCompletion h c s).host.orphans) ∧
  (∀ (h : CmdHdr) (c : Completion) (s : State) (g : Nat), h.gateway = some g → (orphanKey h) ∉ s.host.orphans →
    (deliverCompletion h c s).host.waiting = s.host.waiting ∧
    (deliverCompletion h c s).ring.hsrSeq = (s.ring.hsrSeq + ceilDiv (32 + c.data.length) 1472) % 65536 ∧
    (s.ring.linkA = true → 32 + c.data.length ≤ 1472 → classWaiting s.time.cclk s.ring.egressA 2 + frameBytes (32 + c.data.length) ≤ 65536 →
      s.ring.controlAt ≤ s.time.cclk → (deliverCompletion h c s).ring.egressA = s.ring.egressA ++
        [{ cls := 2, bytes := frameBytes (32 + c.data.length), ready := s.time.cclk, hsrSeq := s.ring.hsrSeq, da := hubAddr g
           head := headOf s 2 (some g) 0 true (32 + c.data.length) (.completion g (remoteOf c)), msg := .completion g (remoteOf c) }]))

/-- On the time master TIME_SET and TIME_ADJUST wait for the next boundary with their values noted; TIME_ASYM and PTP_SET change
their settings and complete at once; nothing else changes. -/
def Obligations.TimeCommandsComplete : Prop :=
  (∀ (h : CmdHdr) (sec ns : Nat) (s : State), Accepts h 0x0101 s → s.time.master = true → ns < 1000000000 →
    exec (.timeSet h sec ns) s = .next (dueAtBoundary h 0x0101 { s with time.reload := some (2 * (sec * 1000000000 + ns)) })) ∧
  (∀ (h : CmdHdr) (step freq : Int) (s : State), Accepts h 0x0102 s → s.time.master = true → -40 ≤ step → step ≤ 40 →
    ∃ t, exec (.timeAdjust h step freq) s = .next t ∧ t.time.step = step ∧ t.time.freq = freq ∧
      t.time.incNext = some (adjustedInc (s.time.incNext.getD s.time.inc) s.time.freq freq) ∧
      { t with time.step := s.time.step, time.freq := s.time.freq, time.incNext := s.time.incNext, ptp.incHist := s.ptp.incHist } =
        dueAtBoundary h 0x0102 s) ∧
  (∀ (h : CmdHdr) (port : Nat) (asym : Int) (s : State), Accepts h 0x0103 s → port ≤ 1 →
    Does (.timeAsym h port asym) s (answered h 0x0103 okReply
      { s with time.asymA := if port = 0 then asym else s.time.asymA, time.asymB := if port = 1 then asym else s.time.asymB
               time.closureCal := s.time.closure })) ∧
  (∀ (h : CmdHdr) (p : PtpSetP) (s : State), Accepts h 0x0104 s → p.domain ≤ 127 → -7 ≤ p.logSync → p.logSync ≤ 0 →
    0 ≤ p.logAnnounce → p.logAnnounce ≤ 2 → -3 ≤ p.logPdelay → p.logPdelay ≤ 2 →
    Does (.ptpSet h p) s (answered h 0x0104 okReply
      { s with ptp.set := { domain := p.domain, logSync := p.logSync, logAnnounce := p.logAnnounce, logPdelay := p.logPdelay
                            priority1 := p.priority1, priority2 := p.priority2 } }))

/-- The read twins of the time settings, of the fret period, rails, excitation, spares, SYNC_IN and the memory partition answer OK
with the setting as accepted, in the layout of its command, and change nothing else. -/
def Obligations.PlainTwinsAnswer : Prop :=
  (∀ (h : CmdHdr) (port : Nat) (s : State), Accepts h 0x0183 s → port ≤ 1 → 4 ≤ h.dataLen →
    Does (.timeAsymTwin h port) s (answered h 0x0183 (okData (leSigned 4 (if port = 0 then s.time.asymA else s.time.asymB))) s)) ∧
  (∀ (h : CmdHdr) (s : State), Accepts h 0x0184 s → 6 ≤ h.dataLen →
    Does (.ptpSetTwin h) s (answered h 0x0184 (okData (leBytes 1 s.ptp.set.domain ++ leSigned 1 s.ptp.set.logSync ++
      leSigned 1 s.ptp.set.logAnnounce ++ leSigned 1 s.ptp.set.logPdelay ++ leBytes 1 s.ptp.set.priority1 ++
      leBytes 1 s.ptp.set.priority2)) s)) ∧
  (∀ (h : CmdHdr) (s : State), Accepts h 0x0281 s → 1 ≤ h.dataLen →
    Does (.fretSetTwin h) s (answered h 0x0281 (okData (leBytes 1 (fretPeriods.findIdx (· = s.cfg.period)))) s)) ∧
  (∀ (h : CmdHdr) (rail : Nat) (s : State), Accepts h 0x0283 s → rail ≤ 15 → 2 ≤ h.dataLen →
    Does (.railSetTwin h rail) s (answered h 0x0283 (okData (leBytes 1 (tget railSet0 s.cfg.rails rail).voltage ++
      leBytes 1 (tget railSet0 s.cfg.rails rail).iLim)) s)) ∧
  (∀ (h : CmdHdr) (die : Nat) (s : State), Accepts h 0x0284 s → die ≤ 3 → 1 ≤ h.dataLen →
    Does (.vexcSetTwin h die) s (answered h 0x0284 (okData (leBytes 1 (tget vexc0 s.cfg.vexc die))) s)) ∧
  (∀ (h : CmdHdr) (die : Nat) (s : State), Accepts h 0x028C s → die ≤ 3 → 2 ≤ h.dataLen →
    Does (.spareSetTwin h die) s (answered h 0x028C (okData (leBytes 1 (b2n (tget spareSet0 s.cfg.spare die).auto) ++
      leBytes 1 (b2n (tget spareSet0 s.cfg.spare die).rotation))) s)) ∧
  (∀ (h : CmdHdr) (s : State), Accepts h 0x0B83 s → 2 ≤ h.dataLen →
    Does (.syncInSetTwin h) s (answered h 0x0B83 (okData (leBytes 1 (b2n s.cfg.syncEnable) ++ leBytes 1 (b2n s.cfg.syncFalling))) s)) ∧
  (∀ (h : CmdHdr) (s : State), Accepts h 0x0781 s → 2 ≤ h.dataLen →
    Does (.memPartitionTwin h) s (answered h 0x0781 (okData (leBytes 1 (s.cfg.mem.h + 10) ++ leBytes 1 s.cfg.mem.c)) s))

/-- A valid Sync of the master followed, on the port followed: the offset becomes the reading of TIME_OFFSET; up to 1 us the servo
writes a new increment, within 2 ppm of its frequency estimate and steered against the offset by no less than removes 1 us in
0.5 s in proportion, and steps nothing (the estimate and the steering within these bounds are free, logs 2 and 81); beyond 1 us
it steps by the offset; while no controller pair is ACTIVE it writes neither, and LOCKED stays. -/
def Obligations.SyncSteersOrSteps : Prop :=
  ∀ (p : Port) (m : PtpSync) (s : State), m.domain = s.ptp.set.domain → m.twoStep = false → s.time.master = false →
    s.time.masterId = m.master → s.ptp.second = none → preferredPort s = p → followedPort s = p →
    let offset := m.ingress16 - rxDelay16 s p - (m.origin16 + m.correction16 + peerDelay (ptpPort s p) + asymOf s p)
    ∃ t, exec (.ptpSyncRx p m) s = .next t ∧ t.time.offset16 = offset ∧ (ptpPort t p).validSyncs = (ptpPort s p).validSyncs + 1 ∧
      (pairActive s = true → offset.natAbs ≤ 16000 → t.time.step = s.time.step ∧ ∃ inc, t.time.incNext = some inc ∧
        8795213412906 ≤ t.ptp.estimate ∧ t.ptp.estimate ≤ 8796972631510 ∧
        ((inc : Int) - t.ptp.estimate).natAbs ≤ 17592186 ∧ offset.natAbs * 17592186 ≤ 16000 * ((inc : Int) - t.ptp.estimate).natAbs ∧
        (offset = 0 → inc = t.ptp.estimate) ∧ (0 < offset → inc < t.ptp.estimate) ∧ (offset < 0 → t.ptp.estimate < inc)) ∧
      (pairActive s = true → 16000 < offset.natAbs → t.time.step = roundDiv (-offset) 40 ∧ t.time.incNext = s.time.incNext) ∧
      (pairActive s = false → t.time.incNext = s.time.incNext ∧ t.time.step = s.time.step ∧ t.time.locked = s.time.locked) ∧
      t.time.half = s.time.half ∧ t.cfg = s.cfg ∧ t.live = s.live ∧ t.boot = s.boot ∧ t.fret = s.fret

/-- An Announce of the hub's domain is heard and decides the master role by the best data set; the receipt timeout decides without
masters no longer heard; a Pdelay_Req is answered one-step on its port, from its corrected ingress stamp; a Pdelay_Resp to the
request out, which has left, adds half the round trip less the turnaround to the last 16 results; messages of another domain are
counted and ignored. -/
def Obligations.PtpMessagesReceived : Prop :=
  (∀ (p : Port) (m : PtpAnnounce) (s : State), m.domain = s.ptp.set.domain → s.safety.safe = false →
    ∃ t, exec (.ptpAnnounceRx p m) s = .next t ∧ t.ptp.announces = s.ptp.announces + 1 ∧
      t.ptp.heard = s.ptp.heard.filter (fun e => decide (e.1.master ≠ m.master)) ++ [(m, s.time.cclk)] ∧
      t.time.master = (heardNow t).all (fun e => betterSet (ownSet s) (announceSet e.1)) ∧ t.time.half = s.time.half ∧
      t.cfg = s.cfg ∧ t.live = s.live ∧ t.fret = s.fret ∧ t.fe = s.fe ∧ t.trig = s.trig ∧ t.streams = s.streams ∧ t.boot = s.boot) ∧
  (∀ (s : State), s.safety.safe = false → ∃ t, exec .announceReceiptTimeout s = .next t ∧
    t.time.cclk = max s.time.cclk ((s.ptp.heard.map (·.2)).foldl max 0 + 3 * logCclk s.ptp.set.logAnnounce) ∧
    t.time.master = (t.ptp.heard).all (fun e => decide (t.time.cclk < e.2 + 3 * logCclk s.ptp.set.logAnnounce) &&
      betterSet (ownSet s) (announceSet e.1)) ∧
    t.cfg = s.cfg ∧ t.live = s.live ∧ t.fret = s.fret ∧ t.fe = s.fe ∧ t.trig = s.trig ∧ t.streams = s.streams ∧ t.boot = s.boot) ∧
  (∀ (p : Port) (seqId requestor : Nat) (arrival : Int) (s : State),
    exec (.pdelayReqRx p s.ptp.set.domain seqId requestor arrival) s =
      .next (sendLocal p (.pdelayResp seqId requestor (arrival - rxDelay16 s p)) s)) ∧
  (∀ (p : Port) (seqId : Nat) (turn arrival left : Int) (s : State), (ptpPort s p).reqOut = some seqId → (ptpPort s p).reqTx = some left →
    exec (.pdelayRespRx p s.ptp.set.domain seqId turn arrival) s = .next (setPtpPort p (fun q =>
      { q with reqOut := none, reqTx := none, delays := (((arrival - rxDelay16 s p - left - turn) / 2) :: q.delays).take 16 }) s)) ∧
  (∀ (p : Port) (domain seqId requestor : Nat) (turn arrival : Int) (m : PtpAnnounce) (y : PtpSync) (s : State),
    domain ≠ s.ptp.set.domain → m.domain = domain → y.domain = domain →
    exec (.pdelayReqRx p domain seqId requestor arrival) s = .next { s with ptp.discards := s.ptp.discards + 1 } ∧
    exec (.pdelayRespRx p domain seqId turn arrival) s = .next { s with ptp.discards := s.ptp.discards + 1 } ∧
    exec (.ptpAnnounceRx p m) s = .next { s with ptp.discards := s.ptp.discards + 1 } ∧
    exec (.ptpSyncRx p y) s = .next { s with ptp.discards := s.ptp.discards + 1 })

/-- A time master out of its safe state sends Sync with its sequence number, whose time is written as it leaves, the eighth
setting LOCKED, and sends Announce; every hub sends Pdelay_Req on each port and remembers it; each waits until its interval
since the last has passed; settings, captures and streams stand. -/
def Obligations.PtpMessagesSent : Prop :=
  (∀ (s : State), s.time.master = true → s.safety.safe = false → ∃ t, exec .ptpSyncTx s = .next t ∧
    t.ring.hsrSeq = (s.ring.hsrSeq + 1) % 65536 ∧ t.ptp.syncSeq = (s.ptp.syncSeq + 1) % 65536 ∧
    t.ptp.sentSyncs = s.ptp.sentSyncs + 1 ∧ (7 ≤ s.ptp.sentSyncs → t.time.locked = true ∧ t.time.offset16 = 0) ∧
    t.time.cclk = max s.time.cclk s.ptp.syncDue ∧ t.ptp.syncDue = t.time.cclk + logCclk s.ptp.set.logSync ∧
    (s.ptp.sentSyncs < 7 → t.time = (toCclk s.ptp.syncDue s).time) ∧
    (s.ring.linkA = true → classWaiting s.time.cclk s.ring.egressA 0 + 78 ≤ 8192 → t.ring.egressA = s.ring.egressA ++
      [{ cls := 0, bytes := 78, ready := t.time.cclk, hsrSeq := s.ring.hsrSeq, da := ptpAddr, head := [], msg := .sync s.ptp.syncSeq 0 0 }]) ∧
    t.cfg = s.cfg ∧ t.live = s.live ∧ t.fret = s.fret ∧ t.fe = s.fe ∧ t.trig = s.trig ∧ t.streams = s.streams ∧ t.boot = s.boot) ∧
  (∀ (s : State), s.time.master = true → s.safety.safe = false →
    let u := toCclk s.ptp.annDue s
    exec .ptpAnnounceTx s = .next (sendFrame 0 98 0 ptpAddr [] (.announce s.ptp.annSeq ownClock s.ptp.set.priority1 s.ptp.set.priority2)
      { u with ptp.annSeq := (s.ptp.annSeq + 1) % 65536, ptp.annDue := u.time.cclk + logCclk s.ptp.set.logAnnounce })) ∧
  (∀ (p : Port) (s : State),
    let u := toCclk (ptpPort s p).reqDue s
    exec (.pdelayReqTx p) s = .next (sendLocal p (.pdelayReq (ptpPort s p).reqSeq) (setPtpPort p (fun q =>
      { q with reqOut := some q.reqSeq, reqSeq := (q.reqSeq + 1) % 65536, reqTx := none
               reqDue := u.time.cclk + logCclk s.ptp.set.logPdelay }) u)))

/-- Three Sync intervals of silence on the preferred port change the followed port; an overlap of two masters over 250 ms raises
its alarm; the closure reading, once a second, is the difference of the two ports' offsets, with an event as it moves beyond 1
ns of its calibrated value; one second without a Sync on a hub that is not the master clears LOCKED, sets HOLDOVER and SYNC_LOST
and raises the alarm. -/
def Obligations.PtpTimeouts : Prop :=
  (∀ (s : State), followedPort s = preferredPort s → ∃ t, exec .preferredPortTimeout s = .next t ∧
    followedPort t ≠ preferredPort s ∧ t.ptp.portChanges = s.ptp.portChanges + 1 ∧
    t.time.cclk = max s.time.cclk ((ptpPort s (preferredPort s)).lastSync.getD 0 + 3 * logCclk s.ptp.set.logSync) ∧
    t.cfg = s.cfg ∧ t.live = s.live ∧ t.fret = s.fret ∧ t.fe = s.fe ∧ t.trig = s.trig ∧ t.streams = s.streams ∧ t.boot = s.boot) ∧
  (∀ (other since last : Nat) (s : State), s.ptp.second = some (other, since, last) → ∃ t, exec .overlapTimeout s = .next t ∧
    (0x0111, 0) ∈ t.host.alarms ∧ t.time.cclk = max s.time.cclk (since + 100000000) ∧
    silent t = silent { toCclk (since + 100000000) s with ptp.overlapAlarm := true }) ∧
  (∀ (s : State), s.ptp.portA.lastSync.isSome = true → s.ptp.portB.lastSync.isSome = true →
    let u := toCclk s.ptp.closureDue s
    let c := s.ptp.portA.offset16 - s.ptp.portB.offset16
    Does .closureUpdate s { u with time.closure := c, ptp.closureDue := u.time.cclk + 400000000 } ∧
    (16 < (c - s.time.closureCal).natAbs → (s.time.closure - s.time.closureCal).natAbs ≤ 16 → ∃ t, exec .closureUpdate s = .next t ∧
      t.pairs.waitingEvents = s.pairs.waitingEvents ++ (eventStreams s).map (fun n => (n,
        { code := 0x0104, source := 0, stamp := nowStamp u, count := 1, args := leSigned 4 c ++ leSigned 4 s.time.closureCal }))) ) ∧
  (∀ (s : State), s.time.master = false → ∃ t, exec .syncLossTimeout s = .next t ∧ t.time.locked = false ∧
    t.time.holdover = true ∧ t.time.syncLost = true ∧ (0x0110, 0) ∈ t.host.alarms ∧
    t.time.cclk = max s.time.cclk (max (s.ptp.portA.lastSync.getD 0) (s.ptp.portB.lastSync.getD 0) + 400000000) ∧
    t.cfg = s.cfg ∧ t.live = s.live ∧ t.fret = s.fret ∧ t.fe = s.fe ∧ t.trig = s.trig ∧ t.streams = s.streams ∧ t.boot = s.boot)

/-- A decimator output of a running slice counts, brings time to its instant and sends its word to the trigger unit 64 CCLK later;
the overload detector notes its edge; a tone outside 0.8 to 1.25 of its expected value makes the slice due to be declared stuck;
an edge of SYNC_IN counts towards a reset at the first boundary at least 128 CCLK later, or is counted and ignored while
acquisition is stopped. -/
def Obligations.FrontEndSignals : Prop :=
  (∀ (n t0 : Nat) (levels : List Int) (s : State), n < 128 → nextOutput (sliceSet s n) (dynRun s n) = some t0 →
    s.fret.acquiring = true → sliceLive s n = true → servedBySpare s n = false →
    ∃ t, exec (.decimatorOutput n levels) s = .next t ∧ t.time = (toInstant t0 s).time ∧
      t.trig.flight.dropLast = s.trig.flight ∧ t.trig.flight.getLast?.map (fun w => (w.src, w.arrive)) = some (⟨.dynamic, n⟩, t0 + 5 * 64) ∧
      (dynRun t n).outs = (runNow (sliceSet s n) (dynRun s n)).outs + 1 ∧
      t.cfg = s.cfg ∧ t.live = s.live ∧ t.streams = s.streams ∧ t.boot = s.boot) ∧
  (∀ (n : Nat) (s : State), exec (.modulatorOverload n) s =
    .next (putDyn n { dynRun s n with overload := (dynRun s n).overload ++ [s.time.half] } s)) ∧
  (∀ (n ratio : Nat) (s : State), sliceLive s n = true → (sliceSet s n).tone = true →
    exec (.toneWindowEnd n ratio) s = .next (putDyn n { dynRun s n with
      tone := ratio, stuckDue := (dynRun s n).stuckDue || decide (10 * ratio < 8 * 65536 ∨ 125 * 65536 < 100 * ratio) }
      (toInstant (toneWindow s) s))) ∧
  (∀ (rising : Bool) (s : State), s.live.syncEnable = true → rising ≠ s.live.syncFalling → s.fret.acquiring = true →
    exec (.syncInEdge rising) s = .next { s with
      loc.syncIn := rising, fe.syncEdges := s.fe.syncEdges + 1
      fe.syncAt := some (s.fe.syncAt.getD (2 * s.live.period * ceilDiv (s.time.half + 5 * 128) (2 * s.live.period))) }) ∧
  (∀ (rising : Bool) (s : State), s.live.syncEnable = true → rising ≠ s.live.syncFalling → s.fret.acquiring = false →
    exec (.syncInEdge rising) s = .next { s with loc.syncIn := rising, fe.syncIgnored := s.fe.syncIgnored + 1 })

/-- A rail more than 2 % out of regulation or in current limit is out of regulation, and its time in limit counts; 10 ms in limit
switch it off and raise an alarm, and no other rail changes; VEXC more than 5 % above its nominal value is high; below 4.5 V
with a channel enabled it is low, until it has stayed above 4.6 V. -/
def Obligations.SupplyMeasurements : Prop :=
  (∀ (rail mv : Nat) (limiting : Bool) (s : State), 0 < railMv (railLive s rail).voltage →
    exec (.railRegulationChange rail mv limiting) s = .next (putRail rail { railAt s rail with
      outOfReg := limiting || decide (2 * railMv (railLive s rail).voltage < 100 * ((mv : Int) - railMv (railLive s rail).voltage).natAbs)
      limitSince := if limiting then some ((railAt s rail).limitSince.getD s.time.half) else none } s)) ∧
  (∀ (rail since : Nat) (s : State), (railAt s rail).limitSince = some since → ∃ t, exec (.railCurrentLimitTimeout rail) s = .next t ∧
    (railLive t rail).voltage = 0 ∧ (railAt t rail).tripped = true ∧ (0x0203, rail) ∈ t.host.alarms ∧
    t.time = (toInstant (since + 20000000) s).time ∧ (∀ e < 16, e ≠ rail → railLive t e = railLive s e ∧ railAt t e = railAt s e) ∧
    t.fret = s.fret ∧ t.trig = s.trig ∧ t.streams = s.streams ∧ t.boot = s.boot) ∧
  (∀ (die v : Nat) (s : State), Does (.vexcHigh die v) s (putDie die { dieAt s die with
    vexc := v, vexcHigh := decide (1050 * vexcNom s die < 100 * v) } s)) ∧
  (∀ (die v : Nat) (s : State), v < 450 → dieHasChannel s die = true → Does (.vexcLow die v) s (putDie die { dieAt s die with
    vexc := v, vexcHigh := decide (1050 * vexcNom s die < 100 * v), vexcLow := true } s)) ∧
  (∀ (die v : Nat) (s : State), 460 < v → Does (.vexcRecovered die v) s (putDie die { dieAt s die with
    vexc := v, vexcHigh := decide (1050 * vexcNom s die < 100 * v), vexcLow := false } s))

/-- A replacing spare is due to swap in when its learning run is over, matched or not; a test is judged by the factors its
readings make and R187's checks; a passed test clears a stuck slice and lets its channel come back, a failed one leaves the
spare in its place, declares the slice stuck, raises the alarm and stops a rotation; a rotation cycle starts at a multiple of 64
s with channel 0, and each out-period leads to the next channel. -/
def Obligations.SparesLearnAndTest : Prop :=
  (∀ (die : Nat) (s : State), (spareAt s die).phase = .learning → (spareAt s die).use = .replace → learningDone s (spareAt s die) = true →
    ∃ t, exec (.learningRunEnd die) s = .next t ∧ (spareAt t die).phase = .swapDue ∧ (spareAt t die).chan = (spareAt s die).chan ∧
      ((spareAt t die).matchFail = true → (spareAt t die).fitG = 16777216 ∧ (spareAt t die).fitO = 0) ∧
      { t with fe.spares := s.fe.spares, fresh := s.fresh } = s) ∧
  (∀ (die : Nat) (m : CalReading) (s : State), (spareAt s die).phase = .testing → (spareAt s die).keep = false →
    (testedSet s die m).result = 0 → ∃ t, exec (.sliceTestEnd die m) s = .next t ∧
      (spareAt t die).phase = .backWait ∧ (spareAt t die).tested = some (testedSet s die m) ∧ (dynRun t (spareAt s die).chan).stuck = false ∧
      t.time = (toInstant (spareAt s die).dueAt s).time ∧ t.cfg = s.cfg ∧ t.live = s.live ∧ t.streams = s.streams ∧ t.boot = s.boot) ∧
  (∀ (die : Nat) (m : CalReading) (s : State), (spareAt s die).phase = .testing →
    (testedSet s die m).result ≠ 0 → ∃ t, exec (.sliceTestEnd die m) s = .next t ∧
      (spareAt t die).phase = .serving ∧ (spareAt t die).use = .replace ∧ (dynRun t (spareAt s die).chan).stuck = true ∧
      (0x0205, dynCode (spareAt s die).chan) ∈ t.host.alarms ∧
      ((spareAt s die).use = .rotation → (tget rotationRun0 t.fe.rotation die).running = false) ∧ t.cfg = s.cfg ∧ t.live = s.live ∧ t.streams = s.streams ∧ t.boot = s.boot) ∧
  (∀ (die : Nat) (s : State), (tget spareSet0 s.live.spare die).rotation = true → (tget rotationRun0 s.fe.rotation die).running = false →
    dieOut s die = false → (spareAt s die).phase = .idle → ∃ t, exec (.rotationCycleStart die) s = .next t ∧
      tget rotationRun0 t.fe.rotation die =
        { running := true, start := 128000000000 * ceilDiv s.time.half 128000000000, j := 0, replaceNext := none } ∧
      t.time = (toInstant (128000000000 * ceilDiv s.time.half 128000000000) s).time ∧ t.cfg = s.cfg ∧ t.live = s.live ∧ t.streams = s.streams ∧ t.boot = s.boot) ∧
  (∀ (die : Nat) (s : State), (tget rotationRun0 s.fe.rotation die).running = true →
    (tget rotationRun0 s.fe.rotation die).replaceNext = none → (tget spareSet0 s.live.spare die).rotation = true →
    ∃ t, exec (.rotationOutPeriodEnd die) s = .next t ∧
      (tget rotationRun0 t.fe.rotation die).j = (if (tget rotationRun0 s.fe.rotation die).j = 31 then 0
        else (tget rotationRun0 s.fe.rotation die).j + 1) ∧
      t.time = (toInstant ((tget rotationRun0 s.fe.rotation die).start + 4000000000 * ((tget rotationRun0 s.fe.rotation die).j + 1)) s).time ∧
      t.cfg = s.cfg ∧ t.live = s.live ∧ t.streams = s.streams ∧ t.boot = s.boot)

/-- A slot's end brings time to it, sends its result's word to the trigger unit 80 CCLK later and keeps the settings; an entry
that a large step interrupts gives no result; an open wire is noted on its channel, or on its course until the monitor reports
it gone, and seen by the slot that runs from its settle phase on; a new temperature of a die is kept, with an event when it has
drifted from the sets'; the end of a self-calibration brings time to it and frees the die to return. -/
def Obligations.CoursesDiesAndWires : Prop :=
  (∀ (course : Nat) (m : SlotMeas) (sl : Slot) (s : State), (courseAt s course).slot = some sl → cutByStep sl s = false →
    ∃ t, exec (.slotEnd course m) s = .next t ∧ t.time = (toInstant (sl.start + sl.len) s).time ∧
      t.trig.flight.dropLast = s.trig.flight ∧
      t.trig.flight.getLast?.map (fun w => (w.src, w.arrive)) = some (⟨.scanned, 8 * course + sl.pos⟩, sl.start + sl.len + 5 * 80) ∧
      t.cfg = s.cfg ∧ t.streams = s.streams ∧ t.boot = s.boot) ∧
  (∀ (course : Nat) (m : SlotMeas) (sl : Slot) (s : State), (courseAt s course).slot = some sl → cutByStep sl s = true →
    exec (.slotEnd course m) s = .next (toInstant (sl.start + sl.len) s)) ∧
  (∀ (c : Nat) (s : State), (dynLive s c).enable = true → (dynLive s c).openWire = true → dieOut s (c / 32) = false →
    (spareAt s (c / 32)).phase ≠ .learning → exec (.openWireDetect .input (.channel ⟨.dynamic, c⟩)) s = .next (putDyn c { dynRun s c with
      openMon := if (dynRun s c).openMon.contains .input then (dynRun s c).openMon else (dynRun s c).openMon ++ [.input]
      owClear := (dynRun s c).owClear.filter (fun k => decide (k ≠ .input)) } s)) ∧
  (∀ (m : Monitor) (course : Nat) (sl : Slot) (s : State), (courseAt s course).slot = some sl →
    exec (.openWireDetect m (.course course)) s = .next (putCourse course { courseAt s course with
      breaks := if (courseAt s course).breaks.contains (m, none) then (courseAt s course).breaks else (courseAt s course).breaks ++ [(m, none)]
      seen := if slotWatches s course sl ∧ m ∉ (courseAt s course).seen then (courseAt s course).seen ++ [m] else (courseAt s course).seen } s)) ∧
  (∀ (m : Monitor) (course : Nat) (s : State), (courseAt s course).slot = none →
    exec (.openWireClearTimeout m (.course course)) s = .next (putCourse course { courseAt s course with
      breaks := (courseAt s course).breaks.filter (fun e => decide (e ≠ (m, none))) } s)) ∧
  (∀ (m : Monitor) (c : Nat) (s : State), m ∈ (dynRun s c).openMon → m ∉ (dynRun s c).owClear →
    exec (.openWireClearTimeout m (.channel ⟨.dynamic, c⟩)) s = .next (putDyn c { dynRun s c with owClear := (dynRun s c).owClear ++ [m] } s)) ∧
  (∀ (die : Nat) (temp : Int) (s : State), Does (.tempDrift die temp) s (putDie die { dieAt s die with temp := temp } s)) ∧
  (∀ (die t0 : Nat) (readings : List CalReading) (s : State), (dieAt s die).calEnd = some t0 → ∃ t, exec (.calSelfEnd die readings) s = .next t ∧
    (dieAt t die).calEnd = none ∧ (dieAt t die).returnWait = true ∧ t.time = (toInstant t0 s).time ∧ t.cfg = s.cfg ∧ t.live = s.live ∧ t.streams = s.streams ∧ t.boot = s.boot)

/-- FRET_SET while stopped, DYN_CHAN_SET, RAIL_SET, VEXC_SET and DYN_CHAIN_SET, when their checks pass (and, for a chain, its ring
streams need no grant), give exactly the named channels, rails or dies the settings of the command in the configuration
accepted, leave the settings in force and every other setting, and complete at the next boundary. -/
def Obligations.FrontEndSettings : Prop :=
  (∀ (h : CmdHdr) (period : Nat) (s : State), Accepts h 0x0201 s → fretSetCheck period s = none →
    exec (.fretSet h period) s = .next (dueAtBoundary h 0x0201 { s with cfg := { s.cfg with period := natAt fretPeriods period } })) ∧
  (∀ (h : CmdHdr) (p : DynChanP) (s : State), Accepts h 0x0202 s → dynChanCheck p s = none →
    ∃ t, exec (.dynChanSet h p) s = .next t ∧
      (∀ n ∈ p.chans, dynOf t.cfg n = { dynOf s.cfg n with
        enable := decide (p.enable = 1), se := decide (p.mode = 1), gain := p.gain, ratio := decide (p.ref = 1), tap := decide (p.tap = 1)
        iMin := p.iMin, openWire := decide (p.openWire = 1), tone := decide (p.tone = 1) }) ∧
      (∀ n < 128, n ∉ p.chans → dynOf t.cfg n = dynOf s.cfg n) ∧ { t.cfg with dyn := s.cfg.dyn } = s.cfg ∧
      { t with cfg := s.cfg } = dueAtBoundary h 0x0202 s) ∧
  (∀ (h : CmdHdr) (rail voltage iLim : Nat) (s : State), Accepts h 0x0203 s → railCheck rail voltage iLim s = none →
    ∃ t, exec (.railSet h rail voltage iLim) s = .next t ∧ tget railSet0 t.cfg.rails rail = { voltage := voltage, iLim := iLim } ∧
      (∀ e < 16, e ≠ rail → tget railSet0 t.cfg.rails e = tget railSet0 s.cfg.rails e) ∧ { t.cfg with rails := s.cfg.rails } = s.cfg ∧
      { t with cfg := s.cfg } = dueAtBoundary h 0x0203 s) ∧
  (∀ (h : CmdHdr) (die nom : Nat) (s : State), Accepts h 0x0204 s → vexcCheck die nom s = none →
    ∃ t, exec (.vexcSet h die nom) s = .next t ∧ tget vexc0 t.cfg.vexc die = nom ∧
      (∀ k < 4, k ≠ die → tget vexc0 t.cfg.vexc k = tget vexc0 s.cfg.vexc k) ∧ { t.cfg with vexc := s.cfg.vexc } = s.cfg ∧
      { t with cfg := s.cfg } = dueAtBoundary h 0x0204 s) ∧
  (∀ (h : CmdHdr) (p : DynChainP) (s : State), Accepts h 0x0205 s → chainCheck p s = none →
    needGrants (chainConfig p s.cfg) s.streams s = [] → s.ring.grants = [] → ∃ t, exec (.dynChainSet h p) s = .next t ∧
      (∀ n ∈ p.chans, dynOf t.cfg n = withChain p (dynOf s.cfg n)) ∧ (∀ n < 128, n ∉ p.chans → dynOf t.cfg n = dynOf s.cfg n) ∧
      { t.cfg with dyn := s.cfg.dyn } = s.cfg ∧ { t with cfg := s.cfg } = dueAtBoundary h 0x0205 s)

/-- COURSE_SET and SCAN_CHAN_SET give the course and its named positions the settings of the command, waiting for the boundary
while acquisition is stopped; COURSE_REALIGN notes the wait once; URGENT_READ queues for the first boundary after it; BANK_WRITE
fills the inactive bank at the boundary; BANK_SWAP to the other bank, with no swap under way, is noted for the boundary. -/
def Obligations.CourseSettings : Prop :=
  (∀ (h : CmdHdr) (p : CourseP) (s : State), Accepts h 0x0206 s → courseCheck p s = none → s.fret.acquiring = false →
    ∃ t, exec (.courseSet h p) s = .next t ∧ courseOf t.cfg p.course = courseNew p ∧
      (∀ c < 32, c ≠ p.course → courseOf t.cfg c = courseOf s.cfg c) ∧ { t.cfg with courses := s.cfg.courses } = s.cfg ∧
      { t with cfg := s.cfg, fe.courses := s.fe.courses } = dueAtBoundary h 0x0206 s) ∧
  (∀ (h : CmdHdr) (p : ScanChanP) (s : State), Accepts h 0x0207 s → scanCheck p s = none → s.fret.acquiring = false →
    ∃ t, exec (.scanChanSet h p) s = .next t ∧ (∀ n ∈ scanChans p, scanOf t.cfg n = scanNew p) ∧
      (∀ n < 256, n ∉ scanChans p → scanOf t.cfg n = scanOf s.cfg n) ∧ { t.cfg with scan := s.cfg.scan } = s.cfg ∧
      { t with cfg := s.cfg, fe.courses := s.fe.courses } = dueAtBoundary h 0x0207 s) ∧
  (∀ (h : CmdHdr) (course : Nat) (s : State), Accepts h 0x0208 s → course < 32 → Does (.courseRealign h course) s
    (answered h 0x0208 okReply (putCourse course { courseAt s course with realignOnce := true } s))) ∧
  (∀ (h : CmdHdr) (n : Nat) (s : State), Accepts h 0x0209 s → urgentCheck h ⟨.scanned, n⟩ s = none →
    exec (.urgentRead h ⟨.scanned, n⟩) s = .next (putCourse (n / 8) { courseAt s (n / 8) with
      urgents := (courseAt s (n / 8)).urgents ++ [{ pos := n % 8, due := boundaryAfter 1 s, redo := false, hdr := h }] } s)) ∧
  (∀ (h : CmdHdr) (c : Chan) (gain offset : Int) (label : Nat) (s : State), Accepts h 0x0210 s → bankChanOk c = true →
    swapRuns s (bankNo c) = false → (bankRunAt s (bankNo c)).activeB = false → ∃ t, exec (.bankWrite h c 1 gain offset label) s = .next t ∧
      banksAt t.cfg (bankNo c) = { banksAt s.cfg (bankNo c) with b := { gain := gain, offset := offset, label := label } } ∧
      { t.cfg with banks := s.cfg.banks } = s.cfg ∧ { t with cfg := s.cfg } = dueAtBoundary h 0x0210 s) ∧
  (∀ (h : CmdHdr) (c : Chan) (fade : Nat) (s : State), Accepts h 0x0211 s → bankChanOk c = true → fade ≤ 10000 →
    swapRuns s (bankNo c) = false → (bankRunAt s (bankNo c)).activeB = false → exec (.bankSwap h c 1 fade) s =
      .next (dueAtBoundary h 0x0211 (putBankRun (bankNo c) { bankRunAt s (bankNo c) with
        swap := some { toB := true, fade := fade, done := 0, started := false } } s)))

/-- SYNC_RESET notes its channels for its boundary; SYNC_IN_SET and SPARE_SET wait for the boundary; SPARE_SUBST asks for an idle
spare; SLICE_TEST uses the spare that serves its channel; CAL_SELF with PARALLEL makes each die wait for its turn; CAL_WRITE
makes the sets its blocks spell the targets of the factors; DIE_ISOLATE isolates a free die at the next boundary. -/
def Obligations.SpareAndDieCommands : Prop :=
  (∀ (h : CmdHdr) (p : SyncResetP) (s : State), Accepts h 0x020B s → p.scope ≤ 2 → p.die ≤ 3 → p.hasTarget = 0 →
    exec (.syncResetCmd h p) s = .next { s with fe.resets := s.fe.resets ++ [(0, resetScope p, h)] }) ∧
  (∀ (h : CmdHdr) (enable edge : Nat) (s : State), Accepts h 0x0B03 s → enable ≤ 1 → edge ≤ 1 →
    exec (.syncInSet h enable edge) s = .next (dueAtBoundary h 0x0B03 { s with
      cfg := { s.cfg with syncEnable := decide (enable = 1), syncFalling := decide (edge = 1) } })) ∧
  (∀ (h : CmdHdr) (die auto rot : Nat) (s : State), Accepts h 0x020C s → die ≤ 3 → auto ≤ 1 → rot ≤ 1 →
    (tget rotationRun0 s.fe.rotation die).running = false → ∃ t, exec (.spareSet h die auto rot) s = .next t ∧
      tget spareSet0 t.cfg.spare die = { auto := decide (auto = 1), rotation := decide (rot = 1) } ∧
      { t.cfg with spare := s.cfg.spare } = s.cfg ∧ { t with cfg := s.cfg } = dueAtBoundary h 0x020C s) ∧
  (∀ (h : CmdHdr) (n : Nat) (s : State), Accepts h 0x020D s → n < 128 → dieOut s (n / 32) = false →
    (tget rotationRun0 s.fe.rotation (n / 32)).running = false → (spareAt s (n / 32)).phase = .idle →
    exec (.spareSubst h ⟨.dynamic, n⟩ 0) s = .next (putSpare (n / 32)
      { spareRun0 with phase := .waiting, use := .command, chan := n, hdr := some h } s)) ∧
  (∀ (h : CmdHdr) (n keep : Nat) (s : State), Accepts h 0x020E s → n < 128 → keep ≤ 1 → (spareAt s (n / 32)).phase = .serving →
    (spareAt s (n / 32)).chan = n → (spareAt s (n / 32)).use = .command → exec (.sliceTest h ⟨.dynamic, n⟩ keep) s = .next
      (putSpare (n / 32) { spareAt s (n / 32) with use := .test, hdr := some h, keep := decide (keep = 1), update := h.update } s)) ∧
  (∀ (h : CmdHdr) (die : Nat) (s : State), Accepts h 0x0301 s → die ≤ 3 → dieTaken s die = none →
    exec (.calSelf h [die]) s = .next (putDie die { dieAt s die with calWait := true, calRestarts := 0 }
      { s with fe.calJobs := s.fe.calJobs ++ [{ hdr := h, dies := [die], left := [die], single := s.fret.acquiring && !h.parallel }] })) ∧
  (∀ (h : CmdHdr) (die i : Nat) (b : List Byte) (s : State), Accepts h 0x0303 s → calWriteCheck h die [i] [b] s = none →
    ∃ t, exec (.calWrite h die [i] [b]) s = .next t ∧ factorsAt t (dieSet die i) = { factorsAt s (dieSet die i) with target := some (forSet (dieSet die i) (readSet b).set) } ∧
      silent { t with fe.factors := s.fe.factors } = silent { s with fe.calWrites := s.fe.calWrites ++ [(h, [dieSet die i])] }) ∧
  (∀ (h : CmdHdr) (die : Nat) (s : State), Accepts h 0x020F s → die ≤ 3 → (dieAt s die).isolated = none → dieTaken s die = none →
    exec (.dieIsolate h die 0) s = .next (dueAtBoundary h 0x020F (putDie die { dieAt s die with isoWait := some .command } s)))

/-- The read twins of dynamic channels and chains, courses, scanned positions, banks, conditions, combinations, capture units and
sympathetic groups answer OK with the settings as accepted, in the layout of their commands, and change nothing else. -/
def Obligations.ChannelTwinsAnswer : Prop :=
  (∀ (h : CmdHdr) (n : Nat) (s : State), Accepts h 0x0282 s → 8 ≤ h.dataLen →
    Does (.dynChanSetTwin h [n]) s (answered h 0x0282 (okData ([b2n (dynOf s.cfg n).enable, b2n (dynOf s.cfg n).se, (dynOf s.cfg n).gain,
      b2n (dynOf s.cfg n).ratio, b2n (dynOf s.cfg n).tap, (dynOf s.cfg n).iMin, b2n (dynOf s.cfg n).openWire,
      b2n (dynOf s.cfg n).tone].map (BitVec.ofNat 8))) s)) ∧
  (∀ (h : CmdHdr) (n : Nat) (s : State), Accepts h 0x0285 s → 12 ≤ h.dataLen →
    Does (.dynChainSetTwin h [n]) s (answered h 0x0285 (okData (leBytes 1 (dynOf s.cfg n).chain ++ leBytes 1 (dynOf s.cfg n).osr ++
      leBytes 4 (dynOf s.cfg n).m ++ leBytes 4 (dynOf s.cfg n).r ++ leBytes 1 (dynOf s.cfg n).notch ++ leBytes 1 (dynOf s.cfg n).width)) s)) ∧
  (∀ (h : CmdHdr) (c : Nat) (s : State), Accepts h 0x0286 s → c ≤ 31 → 22 ≤ h.dataLen →
    Does (.courseSetTwin h c) s (answered h 0x0286 (okData ((courseOf s.cfg c).scan.map (BitVec.ofNat 8) ++
      List.replicate (16 - (courseOf s.cfg c).scan.length) 0xFF ++ [(courseOf s.cfg c).slot, (courseOf s.cfg c).vwSlot,
      (courseOf s.cfg c).iLim, (courseOf s.cfg c).rounding, (courseOf s.cfg c).realign, b2n (courseOf s.cfg c).driver].map (BitVec.ofNat 8))) s)) ∧
  (∀ (h : CmdHdr) (c p : Nat) (s : State), Accepts h 0x0287 s → c ≤ 31 → 15 ≤ h.dataLen →
    Does (.scanChanSetTwin h c [p]) s (answered h 0x0287 (okData ([b2n (scanOf s.cfg (8 * c + p)).enable, (scanOf s.cfg (8 * c + p)).kind,
      (scanOf s.cfg (8 * c + p)).gain, b2n (scanOf s.cfg (8 * c + p)).ratio, (scanOf s.cfg (8 * c + p)).exc, (scanOf s.cfg (8 * c + p)).iMin,
      (scanOf s.cfg (8 * c + p)).d].map (BitVec.ofNat 8) ++ leBytes 2 (scanOf s.cfg (8 * c + p)).s ++
      leBytes 1 (b2n (scanOf s.cfg (8 * c + p)).openWire) ++ leBytes 2 (scanOf s.cfg (8 * c + p)).sweepLo ++
      leBytes 2 (scanOf s.cfg (8 * c + p)).sweepHi ++ leBytes 1 (scanOf s.cfg (8 * c + p)).listen)) s)) ∧
  (∀ (h : CmdHdr) (c : Chan) (b : Nat) (k : Bank) (s : State), Accepts h 0x0290 s → bankChanOk c = true → b ≤ 1 → 12 ≤ h.dataLen →
    k = (if b = 1 then (banksAt s.cfg (bankNo c)).b else (banksAt s.cfg (bankNo c)).a) →
      Does (.bankWriteTwin h c b) s (answered h 0x0290 (okData (leSigned 4 k.gain ++ leSigned 4 k.offset ++ leBytes 4 k.label)) s)) ∧
  (∀ (h : CmdHdr) (first count : Nat) (s : State), Accepts h 0x0581 s → first ≤ 1023 → first + count ≤ 1024 → 16 * count ≤ h.dataLen →
    Does (.condWriteTwin h first count) s (answered h 0x0581
      (okData ((List.range count).map (fun i => condBytes (condSetAt s.cfg (first + i)))).flatten) s)) ∧
  (∀ (h : CmdHdr) (n : Nat) (s : State), Accepts h 0x0582 s → n ≤ 15 → 14 ≤ h.dataLen →
    Does (.combSetTwin h n) s (answered h 0x0582 (okData (leBytes 1 (combSetAt s.cfg n).mode ++ leBytes 2 (combSetAt s.cfg n).k ++
      leBytes 4 (combSetAt s.cfg n).w ++ leBytes 1 (combSetAt s.cfg n).anchor ++ leBytes 4 (combSetAt s.cfg n).holdoff ++
      leBytes 1 ((combSetAt s.cfg n).group.getD 0xFF) ++ leBytes 1 (b2n (combSetAt s.cfg n).event))) s)) ∧
  (∀ (h : CmdHdr) (u : Nat) (s : State), Accepts h 0x0583 s → u ≤ 7 → 24 ≤ h.dataLen →
    Does (.unitSetTwin h u) s (answered h 0x0583 (okData (leBytes 1 (unitOf s.cfg u).source ++ leBytes 2 (unitOf s.cfg u).select ++
      leBytes 4 (unitOf s.cfg u).pre ++ leBytes 4 (unitOf s.cfg u).post ++ leBytes 4 (unitOf s.cfg u).quota ++
      leBytes 1 (b2n (unitOf s.cfg u).repeating) ++ leBytes 4 (unitOf s.cfg u).auto ++ [BitVec.ofNat 8 (unitOf s.cfg u).policy,
      BitVec.ofNat 8 (unitOf s.cfg u).chainMask, BitVec.ofNat 8 (unitOf s.cfg u).stream,
      BitVec.ofNat 8 (b2n (unitOf s.cfg u).autoRelease)])) s)) ∧
  (∀ (h : CmdHdr) (g : Nat) (s : State), Accepts h 0x0588 s → g ≤ 15 → 3 ≤ h.dataLen →
    Does (.sympGroupSetTwin h g) s (answered h 0x0588 (okData (leBytes 1 (b2n (tget groupSet0 s.cfg.groups g).arbitrated) ++
      leBytes 2 (tget groupSet0 s.cfg.groups g).wG)) s))

/-- The read twins of the reduction sets, streams, host rings, ring port, roster, roles, lane transmitters, field ports and their
directory, value outputs, GPIO and the owner lock answer OK with the settings as accepted, in the layout of their commands, and
change nothing else. -/
def Obligations.DeliveryTwinsAnswer : Prop :=
  (∀ (h : CmdHdr) (n : Nat) (s : State), Accepts h 0x0681 s → n ≤ 7 → 5 + 2 * (tget statsSet0 s.cfg.stats n).entries.length ≤ h.dataLen →
    Does (.statsSetTwin h n) s (answered h 0x0681 (okData (leBytes 4 (tget statsSet0 s.cfg.stats n).interval ++
      leBytes 1 (tget statsSet0 s.cfg.stats n).stream ++ ((tget statsSet0 s.cfg.stats n).entries.map (fun x => leBytes 2 (chanCode x))).flatten)) s)) ∧
  (∀ (h : CmdHdr) (n : Nat) (s : State), Accepts h 0x0682 s → n ≤ 7 → 5 + 12 * (tget rainSet0 s.cfg.rain n).chans.length ≤ h.dataLen →
    Does (.rainflowSetTwin h n) s (answered h 0x0682 (okData (leBytes 4 (tget rainSet0 s.cfg.rain n).interval ++
      leBytes 1 (tget rainSet0 s.cfg.rain n).stream ++ ((tget rainSet0 s.cfg.rain n).chans.map (fun p =>
        leBytes 2 (chanCode p.chan) ++ leSigned 4 p.lo ++ leSigned 4 p.hi ++ leBytes 1 p.gate ++ leBytes 1 p.mode)).flatten)) s)) ∧
  (∀ (h : CmdHdr) (n : Nat) (s : State), Accepts h 0x0683 s → n ≤ 7 →
    9 + 2 * (tget specSet0 s.cfg.spec n).chans.length + 4 * (tget specSet0 s.cfg.spec n).pairs.length ≤ h.dataLen →
    Does (.spectralSetTwin h n) s (answered h 0x0683 (okData ([(tget specSet0 s.cfg.spec n).log2n, (tget specSet0 s.cfg.spec n).window,
      (tget specSet0 s.cfg.spec n).overlap].map (BitVec.ofNat 8) ++ leBytes 2 (tget specSet0 s.cfg.spec n).a ++
      leBytes 1 (tget specSet0 s.cfg.spec n).stream ++ leBytes 1 (tget specSet0 s.cfg.spec n).chans.length ++
      leBytes 2 (tget specSet0 s.cfg.spec n).pairs.length ++ ((tget specSet0 s.cfg.spec n).chans.map (fun n => leBytes 2 (dynCode n))).flatten ++
      ((tget specSet0 s.cfg.spec n).pairs.map (fun q => leBytes 2 (dynCode q.1) ++ leBytes 2 (dynCode q.2))).flatten)) s)) ∧
  (∀ (h : CmdHdr) (n : Nat) (s : State), Accepts h 0x0481 s → n ≤ 127 → (streamAt s n).isOpen = true →
    6 + (selectBytes (streamAt s n).type (streamAt s n).select).length ≤ h.dataLen →
    Does (.subscribeTwin h n) s (answered h 0x0481 (okData (leBytes 1 (streamTypes.findIdx (· = (streamAt s n).type)) ++
      leBytes 1 (b2n (streamAt s n).events) ++ leBytes 1 (b2n (streamAt s n).right) ++ leBytes 1 (streamAt s n).level ++
      leBytes 1 ((streamAt s n).hostRing.getD 0xFF) ++ leBytes 1 (b2n (streamAt s n).ring) ++
      selectBytes (streamAt s n).type (streamAt s n).select)) s)) ∧
  (∀ (h : CmdHdr) (r : Nat) (s : State), Accepts h 0x0486 s → r ≤ 127 → 16 ≤ h.dataLen →
    Does (.ringConfigTwin h r) s (answered h 0x0486 (okData (leBytes 1 (ringAt s r).type ++ leBytes 1 (b2n (ringAt s r).fifo) ++
      leBytes 1 (ringAt s r).groups ++ leBytes 1 (ringAt s r).log2Size ++ leBytes 8 (ringAt s r).base ++ leBytes 4 (ringAt s r).level)) s)) ∧
  (∀ (h : CmdHdr) (s : State), Accepts h 0x0881 s → 7 ≤ h.dataLen →
    Does (.ringPortSetTwin h) s (answered h 0x0881 (okData (leBytes 1 s.cfg.ring.hubId ++ leBytes 1 (b2n s.cfg.ring.rate10G) ++
      leBytes 1 (b2n s.cfg.ring.fecA) ++ leBytes 1 (b2n s.cfg.ring.fecB) ++ leBytes 2 s.cfg.ring.etherType ++
      leBytes 1 (s.cfg.ring.reserve / 64))) s)) ∧
  (∀ (h : CmdHdr) (s : State), Accepts h 0x0882 s → 8 ≤ h.dataLen →
    Does (.rosterSetTwin h) s (answered h 0x0882 (okData (leBytes 8 (maskOf s.cfg.roster))) s)) ∧
  (∀ (h : CmdHdr) (s : State), Accepts h 0x0883 s → 4 ≤ h.dataLen →
    Does (.roleSetTwin h) s (answered h 0x0883 (okData (leBytes 1 (b2n s.cfg.roles.gwElig) ++ leBytes 1 s.cfg.roles.gwPri ++
      leBytes 1 (b2n s.cfg.roles.arbElig) ++ leBytes 1 s.cfg.roles.arbPri)) s)) ∧
  (∀ (h : CmdHdr) (l : Nat) (s : State), Accepts h 0x0984 s → ringLane l = true → 4 ≤ h.dataLen →
    Does (.laneTxSetTwin h l) s (answered h 0x0984 (okData (leSigned 1 (tget laneTx0 s.cfg.laneTx l).pre ++
      leSigned 1 (tget laneTx0 s.cfg.laneTx l).main ++ leSigned 1 (tget laneTx0 s.cfg.laneTx l).post ++
      leBytes 1 (b2n (tget laneTx0 s.cfg.laneTx l).inv))) s)) ∧
  (∀ (h : CmdHdr) (p : Nat) (s : State), Accepts h 0x0A81 s → p ≤ 7 → 8 ≤ h.dataLen →
    Does (.fpPortSetTwin h p) s (answered h 0x0A81 (okData (leBytes 1 (b2n (fpOf s.cfg p).enable) ++ leBytes 1 (fpOf s.cfg p).baud ++
      leBytes 1 (fpOf s.cfg p).parity ++ leBytes 1 (fpOf s.cfg p).slot ++ leBytes 2 (fpOf s.cfg p).timeout ++
      leBytes 1 (fpOf s.cfg p).retries ++ leBytes 1 (fpOf s.cfg p).downAfter)) s)) ∧
  (∀ (h : CmdHdr) (first count : Nat) (s : State), Accepts h 0x0A82 s → first ≤ 2047 → first + count ≤ 2048 → 16 * count ≤ h.dataLen →
    Does (.fpDirWriteTwin h first count) s (answered h 0x0A82
      (okData ((List.range count).map (fun i => dirBytes (dirAt s.cfg (first + i)))).flatten) s)) ∧
  (∀ (h : CmdHdr) (n : Nat) (s : State), Accepts h 0x0B81 s → n ≤ 7 → 21 ≤ h.dataLen →
    Does (.valOutSetTwin h n) s (answered h 0x0B81 (okData (leBytes 1 (valSetAt s.cfg n).mode ++ leBytes 1 (b2n (valSetAt s.cfg n).safety) ++
      leBytes 2 (chanCode (valSetAt s.cfg n).src) ++ leBytes 1 ((valSetAt s.cfg n).comb.getD 0xFF) ++ leBytes 4 (valSetAt s.cfg n).hold ++
      leSigned 4 (valSetAt s.cfg n).lo ++ leSigned 4 (valSetAt s.cfg n).hi ++ leBytes 1 (valSetAt s.cfg n).pulse ++
      leBytes 1 (valSetAt s.cfg n).fail ++ leBytes 2 (valSetAt s.cfg n).stale)) s)) ∧
  (∀ (h : CmdHdr) (s : State), Accepts h 0x0B82 s → 6 ≤ h.dataLen →
    Does (.gpioSetTwin h) s (answered h 0x0B82 (okData (leBytes 2 s.cfg.gpio.dir ++ leBytes 2 s.cfg.gpio.out ++ leBytes 2 s.cfg.gpio.od)) s)) ∧
  (∀ (h : CmdHdr) (s : State), Accepts h 0x0C83 s → 6 ≤ h.dataLen →
    Does (.ownerLockTwin h) s (answered h 0x0C83
      (okData [BitVec.ofNat 8 (b2n s.boot.bcb.lock), BitVec.ofNat 8 (b2n s.boot.bcb.capoGuard), 0, 0, 0, 0]) s))

/-- NOP answers OK with no data; HUB_INFO, COUNTER_READ, MEM_STATUS, CAL_READ, COURSE_RESULT_READ, STREAM_STATE_READ and
TOPOLOGY_READ answer with what they read, given room for it, and change nothing else. -/
def Obligations.ReadsAnswer : Prop :=
  (∀ (h : CmdHdr) (s : State), Accepts h 0x0001 s → Does (.nop h) s (answered h 0x0001 okReply s)) ∧
  (∀ (h : CmdHdr) (s : State), Accepts h 0x0002 s → 64 ≤ h.dataLen → Does (.hubInfo h) s (answered h 0x0002
    (okData ((List.range 16).map (fun j => leBytes 4 (regValue .controller (4 * j) s))).flatten) s)) ∧
  (∀ (h : CmdHdr) (s : State), Accepts h 0x0006 s → 32 ≤ h.dataLen → Does (.counterRead h 0) s (answered h 0x0006
    (okData (([s.ptp.discards, s.ptp.portA.validSyncs, s.ptp.portB.validSyncs, s.ptp.announces, s.ptp.portChanges, s.trig.stale,
      s.trig.badCheck, s.ptp.largeSteps].map (leBytes 4)).flatten)) s)) ∧
  (∀ (h : CmdHdr) (s : State), Accepts h 0x0006 s → 64 ≤ h.dataLen → Does (.counterRead h 1) s (answered h 0x0006
    (okData (((portCounters s.ring.countA ++ portCounters s.ring.countB).map (leBytes 4)).flatten)) s)) ∧
  (∀ (h : CmdHdr) (s : State), Accepts h 0x0006 s → 64 ≤ h.dataLen → Does (.counterRead h 2) s (answered h 0x0006
    (okData ((((List.range 16).map (fun n => (tget combRun0 s.trig.combs n).held)).map (leBytes 4)).flatten)) s)) ∧
  (∀ (h : CmdHdr) (s : State), Accepts h 0x0702 s → 32 ≤ h.dataLen → Does (.memStatus h) s (answered h 0x0702 (okData (memStatusBytes s)) s)) ∧
  (∀ (h : CmdHdr) (die i : Nat) (s : State), Accepts h 0x0302 s → die ≤ 3 → i ≤ 40 → 132 ≤ h.dataLen →
    Does (.calRead h die [i]) s (answered h 0x0302 (okData (setBlock (setKind (dieSet die i)) die (setIndex (dieSet die i))
      (factorsAt s (dieSet die i)).set)) s)) ∧
  (∀ (h : CmdHdr) (c : Nat) (s : State), Accepts h 0x020A s → c ≤ 31 → 8 ≤ h.dataLen →
    Does (.courseResultRead h c) s (answered h 0x020A (okData (leBytes 4 (courseAt s c).overwrites ++
      leBytes 4 (courseAt s c).buffer.length ++ ((courseAt s c).buffer.map entryBytes).flatten)) s)) ∧
  (∀ (h : CmdHdr) (n seq : Nat) (x : Stored) (rest : List Stored) (k : Coder) (s : State), Accepts h 0x0405 s → n ≤ 127 →
    heldFrom (streamAt s n) seq = x :: rest → x.coder = some k → storedBad s x = false → 32 ≤ h.dataLen →
    Does (.streamStateRead h n seq) s (answered h 0x0405 (okData (coderBytes k)) s)) ∧
  (∀ (h : CmdHdr) (s : State), Accepts h 0x0806 s → 512 ≤ h.dataLen →
    Does (.topologyRead h) s (answered h 0x0806 (okData (((List.range 64).map (topoBytes s)).flatten)) s))

/-- A capture that is due closes: the unit goes to REARM or IDLE, its counts of missed and ignored triggers and of extensions
start again where its header has a stream, and its capo no longer fills, other units stay as they are; REARM ends in ARMED where
there is room and in FULL where there is none, FULL ends in ARMED at the boundary; an AUTO timeout starts a capture forced from
SOURCE 0x21; and the record at the delivery point of a capture stream is read, within the share that no replay wants, and goes
to its host ring where the ring takes it, or is lost where the read cannot be made. -/
def Obligations.CaptureUnitsRun : Prop :=
  (∀ (u : Nat) (k : Capture) (o : Capo) (s : State), (unitAt s u).cap = some k → (unitAt s u).capos.find? (·.filling) = some o →
    captureDue s k = true → ∃ t, exec (.captureClose u) s = .next t ∧
      (unitAt t u).state = (if (unitOf s.live u).repeating && !(unitAt s u).toIdle then .rearm else .idle) ∧ (unitAt t u).cap = none ∧
      (unitAt t u).missed = (if (captureStream s u).isSome then 0 else (unitAt s u).missed) ∧
      (unitAt t u).ignored = (if (captureStream s u).isSome then 0 else (unitAt s u).ignored) ∧
      (unitAt t u).extends_ = (if (captureStream s u).isSome then 0 else (unitAt s u).extends_) ∧ (unitAt t u).capos.all (fun c => !c.filling) = true ∧
      (∀ v < 8, v ≠ u → unitAt t v = unitAt s v) ∧ t.cfg = s.cfg ∧ t.live = s.live ∧ t.fret = s.fret ∧ t.boot = s.boot) ∧
  (∀ (u : Nat) (s : State), (unitAt s u).state = .rearm → ∃ t, exec (.rearmEnd u) s = .next t ∧
      (unitAt t u).state = (if unitRoom s u then .armed else .full) ∧
      t.time = (toCclk ((unitAt s u).closedAt + 2 * fretCclk s.live) s).time ∧ (unitAt t u).capos = (unitAt s u).capos ∧
      (∀ v < 8, v ≠ u → unitAt t v = unitAt s v) ∧ t.cfg = s.cfg ∧ t.live = s.live ∧ t.streams = s.streams ∧ t.boot = s.boot) ∧
  (∀ (u : Nat) (s : State), (unitAt s u).state = .full → unitRoom s u = true → ∃ t, exec (.fullToArmed u) s = .next t ∧
      (unitAt t u).state = .armed ∧ t.time = (toInstant (boundaryNow s) s).time ∧ (unitAt t u).armedAt = t.time.cclk ∧
      (∀ v < 8, v ≠ u → unitAt t v = unitAt s v) ∧ t.cfg = s.cfg ∧ t.live = s.live ∧ t.streams = s.streams ∧ t.boot = s.boot) ∧
  (∀ (u : Nat) (s : State), (unitAt s u).state = .armed → 0 < (unitOf s.live u).auto → s.fret.acquiring = true →
    ∃ t, exec (.autoTrigger u) s = .next t ∧ (unitAt t u).state = .capturing ∧ (unitAt t u).nextNo = (unitAt s u).nextNo + 1 ∧
      (unitAt t u).cap.map (fun k => (k.trig.src, k.trig.origin, bitOf k.status stForced)) = some (0x21, s.live.ring.hubId, true) ∧
      (unitAt t u).capos.dropLast = (unitAt s u).capos ∧ (∀ v < 8, v ≠ u → unitAt t v = unitAt s v) ∧ t.cfg = s.cfg ∧ t.live = s.live ∧ t.streams = s.streams ∧ t.boot = s.boot) ∧
  (∀ (n ring : Nat) (x : Stored) (found : List ReadError) (s : State), (streamAt s n).isOpen = true → (streamAt s n).type = tyCapHeader →
    replayReady s = false → (streamAt s n).hostRing = some ring → (streamAt s n).ranges = [] → (streamAt s n).safeDue = [] →
    (streamAt s n).gone = [] → (streamAt s n).stored.find? (fun y => decide (y.rcd.seq = (streamAt s n).point)) = some x →
    x.failover = false → storedBad s x = false → ringTakes s ring (recordLen x.rcd) = true →
    sliceBytes x ≤ tget 0 s.hist.readSoFar n + readShare s →
    ((readErrors 2 x found (readStep n (sliceBytes x) (afterPause s)).1).2 = false →
      ringTakes (readErrors 2 x found (readStep n (sliceBytes x) (afterPause s)).1).1 ring (recordLen x.rcd) = true) →
    ∃ t, exec (.captureDataDeliver n found) s = .next t ∧ (streamAt t n).point = (streamAt s n).point + 1 ∧
      (streamAt t n).stored = (streamAt s n).stored ∧ (∀ m < 128, m ≠ n → streamAt t m = streamAt s m) ∧
      t.cfg = s.cfg ∧ t.live = s.live ∧ t.fret = s.fret ∧ t.boot = s.boot)

/-- UNIT_SET gives the unit its settings for the next boundary; ARM of an IDLE unit with quota waits for the boundary, and of
another does nothing; DISARM waits for the boundary, ends a running capture at the fret in progress at the latest with CUT_SHORT
set, and of an IDLE unit does nothing; CAPTURE_RELEASE frees the oldest delivered capo of its number and no other;
CAPTURE_TRIGGER triggers its unit, or its group, at the time given. -/
def Obligations.CaptureCommands : Prop :=
  (∀ (h : CmdHdr) (p : UnitP) (s : State), Accepts h 0x0503 s → unitCheck p s = none → ∃ t, exec (.unitSet h p) s = .next t ∧
    unitOf t.cfg p.unit = { source := p.source, select := p.select, pre := p.pre, post := p.post, quota := p.quota, repeating := decide (p.repeating = 1), auto := p.auto, policy := p.policy, chainMask := p.chainMask, stream := p.stream, autoRelease := decide (p.autoRelease = 1) } ∧
    (∀ u < 8, u ≠ p.unit → unitOf t.cfg u = unitOf s.cfg u) ∧ { t.cfg with units := s.cfg.units } = s.cfg ∧
    { t with cfg := s.cfg } = dueAtBoundary h 0x0503 s) ∧
  (∀ (h : CmdHdr) (u : Nat) (s : State), Accepts h 0x0504 s → u ≤ 7 → (unitAt s u).state = .idle → quotaCheck s.cfg u = none →
    exec (.arm h u) s = .next (dueAtBoundary h 0x0504 (putUnit u { unitAt s u with wait := some true } s))) ∧
  (∀ (h : CmdHdr) (u : Nat) (s : State), Accepts h 0x0504 s → u ≤ 7 → (unitAt s u).state ≠ .idle →
    Does (.arm h u) s (answered h 0x0504 okReply s)) ∧
  (∀ (h : CmdHdr) (u : Nat) (s : State), Accepts h 0x0505 s → u ≤ 7 → (unitAt s u).state = .idle → (unitAt s u).wait = none →
    Does (.disarm h u) s (answered h 0x0505 okReply s)) ∧
  (∀ (h : CmdHdr) (u : Nat) (s : State), Accepts h 0x0505 s → u ≤ 7 → (unitAt s u).state ≠ .capturing →
    ¬ ((unitAt s u).state = .idle ∧ (unitAt s u).wait = none) →
    exec (.disarm h u) s = .next (dueAtBoundary h 0x0505 (putUnit u { unitAt s u with wait := some false } s))) ∧
  (∀ (h : CmdHdr) (u : Nat) (k : Capture) (s : State), Accepts h 0x0505 s → u ≤ 7 → (unitAt s u).state = .capturing →
    (unitAt s u).cap = some k → ∃ t, exec (.disarm h u) s = .next t ∧ (unitAt t u).toIdle = true ∧
      (unitAt t u).cap = some { k with last := min s.fret.idx k.last, cut := some (min s.fret.idx k.last), status := setBit k.status stCutShort } ∧
      (∀ v < 8, v ≠ u → unitAt t v = unitAt s v) ∧ { t with trig := s.trig } = dueAtBoundary h 0x0505 s) ∧
  (∀ (h : CmdHdr) (u : Nat) (before after : List Capo) (k : Capo) (s : State), Accepts h 0x0507 s → u ≤ 7 →
    (unitAt s u).capos = before ++ k :: after → (∀ x ∈ before, x.no ≠ k.no) → k.filling = false → capoDelivered s k = true →
    Does (.captureRelease h u k.no) s (answered h 0x0507 okReply (putUnit u { unitAt s u with capos := before ++ after } s))) ∧
  (∀ (h : CmdHdr) (u sec ns : Nat) (s : State), Accepts h 0x0506 s → u ≤ 7 → ns < 1000000000 → (unitAt s u).state = .armed →
    s.fret.acquiring = true → ∃ t, exec (.captureTrigger h { target := 0, index := u, hasTime := 1, sec := sec, ns := ns }) s = .next t ∧
      (unitAt t u).state = .capturing ∧ (unitAt t u).cap.map (·.trig) = some { time := sec * 1000000000 + ns, sub := 0, src := 0x20, status := setBit 0 stCommand, origin := s.live.ring.hubId, cond := 0xFFFF, comb := 0xFF, merged := 1, reach := s.time.cclk } ∧
      (∀ v < 8, v ≠ u → unitAt t v = unitAt s v) ∧ silent { t with trig := s.trig } = silent (answered h 0x0506 okReply s)) ∧
  (∀ (h : CmdHdr) (g sec ns : Nat) (s : State), Accepts h 0x0506 s → g ≤ 15 → ns < 1000000000 →
    Does (.captureTrigger h { target := 1, index := g, hasTime := 1, sec := sec, ns := ns }) s
      (answered h 0x0506 okReply (sendGroup g (sec * 1000000000 + ns) 0 0xFFFF 0xFF 0 true s)))

/-- COND_WRITE gives exactly its entries their settings and marks them as written; COMB_SET and SYMP_GROUP_SET give the
combination or the group its settings; each leaves the settings in force and completes at the next boundary. -/
def Obligations.TriggerSettings : Prop :=
  (∀ (h : CmdHdr) (first : Nat) (es : List CondP) (s : State), Accepts h 0x0501 s → condCheck first es s = none →
    ∃ t, exec (.condWrite h first es) s = .next t ∧
      (∀ i < es.length, (es[i]?).map condNew = some (condSetAt t.cfg (first + i))) ∧
      (∀ i < 1024, (i < first ∨ first + es.length ≤ i) → condSetAt t.cfg i = condSetAt s.cfg i) ∧
      { t.cfg with conds := s.cfg.conds } = s.cfg ∧ (∀ i < es.length, first + i ∈ t.trig.written) ∧
      { t with cfg := s.cfg, trig.written := s.trig.written } = dueAtBoundary h 0x0501 s) ∧
  (∀ (h : CmdHdr) (p : CombP) (s : State), Accepts h 0x0502 s → combCheck p = none → ∃ t, exec (.combSet h p) s = .next t ∧
    combSetAt t.cfg p.comb = { mode := p.mode, k := p.k, w := p.w, anchor := p.anchor, holdoff := p.holdoff, group := if p.sympGroup = 0xFF then none else some p.sympGroup, event := decide (p.event = 1) } ∧
    (∀ c < 16, c ≠ p.comb → combSetAt t.cfg c = combSetAt s.cfg c) ∧ { t.cfg with combs := s.cfg.combs } = s.cfg ∧
    { t with cfg := s.cfg } = dueAtBoundary h 0x0502 s) ∧
  (∀ (h : CmdHdr) (g mode wG : Nat) (s : State), Accepts h 0x0508 s → g ≤ 15 → mode ≤ 1 → wG ≤ 10000 →
    ∃ t, exec (.sympGroupSet h g mode wG) s = .next t ∧ tget groupSet0 t.cfg.groups g = { arbitrated := decide (mode = 1), wG := wG } ∧
      (∀ k < 16, k ≠ g → tget groupSet0 t.cfg.groups k = tget groupSet0 s.cfg.groups k) ∧ { t.cfg with groups := s.cfg.groups } = s.cfg ∧
      { t with cfg := s.cfg } = dueAtBoundary h 0x0508 s)

/-- A word that no entry watches only leaves its way; a valid word that takes an armed RISE entry across its bound fires the
entry's combination, where that is ANY without holdoff and has nothing stored, at the crossing's time, and disarms the entry; an
input's edge that an armed EDGE entry selects does so at the instant of the edge; a term 2 s old leaves its combination. -/
def Obligations.TriggerUnitFires : Prop :=
  (∀ (w : TrigWord) (s : State), firstWord s.trig.flight = some w → watching s w.src = [] →
    exec .triggerWordArrival s = .next (toInstant w.arrive { s with trig.flight := dropWord w s.trig.flight })) ∧
  (∀ (w : TrigWord) (i ta : Nat) (xa : Int) (e : CondSet) (s : State), firstWord s.trig.flight = some w →
    watching s w.src = [(i, e)] → condSetAt s.live i = e → e.kind = 1 → (condAt s i).riseArmed = true → (condAt s i).prev = some (xa, ta) →
    bitOf w.tags tagValid = true → bitOf w.tags tagSettling = false → xa < e.a → e.a ≤ w.x → (combSetAt s.live e.comb).mode = 0 →
    (combSetAt s.live e.comb).holdoff = 0 → (combAt s e.comb).terms = [] → ∃ t, exec .triggerWordArrival s = .next t ∧
      (combAt t e.comb).lastFire = some (crossing e.a xa w.x ta w.inst).1 ∧ (combAt t e.comb).terms = [] ∧
      condAt t i = { condAt s i with riseArmed := false, prev := some (w.x, w.inst) } ∧ t.time = (toInstant w.arrive s).time ∧
      t.trig.flight = dropWord w s.trig.flight ∧ t.cfg = s.cfg ∧ t.live = s.live ∧ t.streams = s.streams ∧ t.boot = s.boot) ∧
  (∀ (pin : Nat) (level : Bool) (s : State), bitOf s.loc.gpio pin = level ∨ bitOf s.live.gpio.dir pin = true →
    exec (.gpioEdge pin level) s = .next { s with loc.gpio := putBit s.loc.gpio pin level }) ∧
  (∀ (pin i : Nat) (level : Bool) (e : CondSet) (s : State), bitOf s.loc.gpio pin = !level → bitOf s.live.gpio.dir pin = false →
    watching s ⟨.gpio, pin⟩ = [(i, e)] → condSetAt s.live i = e → e.kind = 8 → e.a % 2 = (b2n (!level) : Int) → (condAt s i).riseArmed = true →
    (combSetAt s.live e.comb).mode = 0 → (combSetAt s.live e.comb).holdoff = 0 → (combAt s e.comb).terms = [] →
    ∃ t, exec (.gpioEdge pin level) s = .next t ∧ (combAt t e.comb).lastFire = some (nowNs s) ∧ (condAt t i).riseArmed = false ∧
      t.loc.gpio = putBit s.loc.gpio pin level ∧ t.time = s.time ∧ t.cfg = s.cfg ∧ t.live = s.live ∧ t.streams = s.streams ∧ t.boot = s.boot) ∧
  (∀ (c : Nat) (x : Term) (xs : List Term) (s : State), (combAt s c).terms = x :: xs → ∃ t, exec (.termExpiry c) s = .next t ∧
    (combAt t c).terms = (x :: xs).filter (fun y => decide (nowNs t < y.time + 2000000000)) ∧
    (∀ y ∈ x :: xs, t.time = (toInstant (2 * (y.time + 2000000000)) s).time ∨ ∃ z ∈ x :: xs, z.time < y.time) ∧
    (∀ d < 16, d ≠ c → combAt t d = combAt s d) ∧ t.cfg = s.cfg ∧ t.live = s.live ∧ t.streams = s.streams ∧ t.boot = s.boot)

/-- A repeated message is forgotten, and one that fails its CHECK is only counted; a good TRIGGER of another hub starts a capture
of each armed unit of its group; at a merge window's end the arbiter's window closes 56 CCLK later and its own armed units of
the group start a capture at the leading request's time; 150 ms after a request without a TRIGGER, the request is gone and armed
units of the group that have not taken it start a capture marked FALLBACK. -/
def Obligations.SympatheticTriggers : Prop :=
  (∀ (port : Port) (p : List Byte) (s : State),
    (s.trig.seenSymp.filter (fun e => decide (s.time.cclk < e.2 + 4000000))).any (fun e => decide (e.1 = ofLe p)) = true →
    exec (.sympatheticRx port p) s =
      .next { s with trig.seenSymp := s.trig.seenSymp.filter (fun e => decide (s.time.cclk < e.2 + 4000000)) }) ∧
  (∀ (port : Port) (p : List Byte) (s : State),
    (s.trig.seenSymp.filter (fun e => decide (s.time.cclk < e.2 + 4000000))).any (fun e => decide (e.1 = ofLe p)) = false →
    (p.length ≠ 32 ∨ (crc32c (p.take 28)).toNat ≠ fieldAt p 28 4) → exec (.sympatheticRx port p) s = .next { s with
      trig.seenSymp := s.trig.seenSymp.filter (fun e => decide (s.time.cclk < e.2 + 4000000)) ++ [(ofLe p, s.time.cclk)], trig.badCheck := (s.trig.badCheck + 1) % 4294967296 }) ∧
  (∀ (port : Port) (g origin comb seq sub merged time : Nat) (s : State), g < 16 → origin < 64 → comb < 16 → seq < 65536 → sub < 256 →
    merged < 256 → origin ≠ s.live.ring.hubId → s.trig.seenSymp = [] → time ≤ s.time.half / 2 → s.time.half / 2 < time + 2000000000 →
    s.time.half < 2 ^ 60 →
    ∃ t, exec (.sympatheticRx port (sympPayload 1 g origin comb seq sub merged time false false false)) s = .next t ∧
      (∀ u < 8, (unitOf s.live u).source = 0x10 + g ∧ (unitAt s u).state = .armed ∧ s.fret.acquiring = true →
        (unitAt t u).state = .capturing ∧ (unitAt t u).cap.map (fun k => (k.trig.time, k.trig.src, k.trig.origin)) = some (time, 0x10 + g, origin)) ∧
      t.time = s.time ∧ t.cfg = s.cfg ∧ t.live = s.live ∧ t.streams = s.streams ∧ t.boot = s.boot) ∧
  (∀ (g : Nat) (m : Merge) (s : State), tget none s.trig.merges g = some m → s.ring.arbiter.held = true →
    ∃ t, exec (.mergeWindowEnd g) s = .next t ∧ tget none t.trig.merges g = none ∧ t.time = (toCclk (m.endAt + 56) s).time ∧
      (∀ u < 8, (unitOf s.live u).source = 0x10 + g ∧ (unitAt s u).state = .armed ∧ s.fret.acquiring = true →
        (unitAt t u).state = .capturing ∧ (unitAt t u).cap.map (fun k => (k.trig.time, k.trig.merged)) = some (m.time, min m.count 255)) ∧ t.cfg = s.cfg ∧ t.live = s.live ∧ t.streams = s.streams ∧ t.boot = s.boot) ∧
  (∀ (g : Nat) (q : SentRequest) (qs : List SentRequest) (s : State), tget [] s.trig.requests g = q :: qs →
    ∃ t, exec (.sympatheticFallback g) s = .next t ∧ tget [] t.trig.requests g = qs ∧ t.time = (toCclk (q.sentAt + 60000000) s).time ∧
      (∀ u < 8, q.taken = false ∧ (unitOf s.live u).source = 0x10 + g ∧ (unitAt s u).state = .armed ∧ s.fret.acquiring = true →
        (unitAt t u).state = .capturing ∧
          (unitAt t u).cap.map (fun k => (k.trig.time, bitOf k.trig.status stFallback)) = some (q.time, true)) ∧ t.cfg = s.cfg ∧ t.live = s.live ∧ t.streams = s.streams ∧ t.boot = s.boot)

/-- A set's oldest interval that is due leaves the set at its due instant, its record takes the next number of its stream where
that stream carries the set, and no other set changes; the self-test ends at its instant, judges the engine, answers the
commands that asked for it, and raises or ends its alarm. -/
def Obligations.ReductionRecordsClose : Prop :=
  (∀ (n : Nat) (ue : Option Nat) (o : StatsOpen) (rest : List StatsOpen) (s v : State), (statsAt s n).opened = o :: rest → derivedDue 1 o.ending s = some v →
    ∃ t, exec (.statsRecordClose n ue) s = .next t ∧ statsAt t n = { statsAt s n with opened := rest } ∧ t.time = v.time ∧
      (∀ k < 8, k ≠ n → statsAt t k = statsAt s k) ∧ (redStream s tyStats n o.set.stream = true → (streamAt s o.set.stream).started = true →
        (streamAt t o.set.stream).nextSeq = (streamAt s o.set.stream).nextSeq + 1) ∧
      t.cfg = s.cfg ∧ t.live = s.live ∧ t.fret = s.fret ∧ t.trig = s.trig ∧ t.boot = s.boot) ∧
  (∀ (n : Nat) (ue : Option Nat) (o : RainOpen) (rest : List RainOpen) (s v : State), (rainAt s n).opened = o :: rest →
    derivedDue (rainDelay s.live o.set) o.ending s = some v → ∃ t, exec (.rainflowRecordClose n ue) s = .next t ∧
      (rainAt t n).opened = rest ∧ (rainAt t n).set = (rainAt s n).set ∧ t.time = v.time ∧ (∀ k < 8, k ≠ n → rainAt t k = rainAt s k) ∧
      (redStream s tyRain n o.set.stream = true → (streamAt s o.set.stream).started = true → (streamAt t o.set.stream).nextSeq = (streamAt s o.set.stream).nextSeq + 1) ∧
      t.cfg = s.cfg ∧ t.live = s.live ∧ t.fret = s.fret ∧ t.trig = s.trig ∧ t.boot = s.boot) ∧
  (∀ (n : Nat) (ue : Option Nat) (o : SpecOpen) (rest : List SpecOpen) (s v : State), (specAt s n).opened = o :: rest →
    derivedDue (specDelay s.live) o.ending s = some v → ∃ t, exec (.spectrumRecordClose n ue) s = .next t ∧
      specAt t n = { specAt s n with opened := rest } ∧ t.time = v.time ∧ (∀ k < 8, k ≠ n → specAt t k = specAt s k) ∧
      (redStream s tySpec n o.set.stream = true → (streamAt s o.set.stream).started = true → (streamAt t o.set.stream).nextSeq = (streamAt s o.set.stream).nextSeq + 1) ∧
      t.cfg = s.cfg ∧ t.live = s.live ∧ t.fret = s.fret ∧ t.trig = s.trig ∧ t.boot = s.boot) ∧
  (∀ (e : Nat) (pass : Bool) (s : State), s.red.testEnd = some e → ∃ t, exec (.redSelftestEnd pass) s = .next t ∧
    t.red.testEnd = none ∧ t.red.testHdrs = [] ∧ t.red.failed = !pass ∧ t.time = (toInstant (2 * e) s).time ∧
    (pass = false → (0x0701, 0) ∈ t.host.alarms) ∧ (pass = true → (0x0701, 0) ∉ t.host.alarms) ∧ t.cfg = s.cfg ∧ t.live = s.live ∧ t.streams = s.streams ∧ t.boot = s.boot) ∧
  (∀ (e : Nat) (pass : Bool) (h : CmdHdr) (s : State), s.red.testEnd = some e → s.red.testHdrs = [h] → h.gateway = none →
    orphanKey h ∉ s.host.orphans → ∃ t, exec (.redSelftestEnd pass) s = .next t ∧
    t.host.waiting.map (fun c => (c.tag, c.opcode, c.status)) = s.host.waiting.map (fun c => (c.tag, c.opcode, c.status)) ++ [(h.tag, 0x0604, 0)])

/-- STATS_SET, RAINFLOW_SET and SPECTRAL_SET, when their checks pass and their streams need no grant, give the set its settings in
the configuration and answer OK; RED_SELFTEST of a working engine tests it for 10 ms from the next boundary, and pauses it for
that time. -/
def Obligations.ReductionSettings : Prop :=
  (∀ (h : CmdHdr) (n interval stream : Nat) (es : List Chan) (s : State), Accepts h 0x0601 s → statsCheck n interval stream es s = none →
    needGrants (statsConfig n interval stream es s.cfg) s.streams s = [] → s.ring.grants = [] →
    Does (.statsSet h n interval stream es) s (answered h 0x0601 okReply { s with
      cfg := { s.cfg with stats := tput statsSet0 s.cfg.stats n { interval := interval, stream := stream, entries := es } } })) ∧
  (∀ (h : CmdHdr) (n interval stream : Nat) (cs : List RainChanP) (s : State), Accepts h 0x0602 s → rainCheck n interval stream cs s = none →
    needGrants (rainConfig n interval stream cs s.cfg) s.streams s = [] → s.ring.grants = [] →
    Does (.rainflowSet h n interval stream cs) s (answered h 0x0602 okReply { s with
      cfg := { s.cfg with rain := tput rainSet0 s.cfg.rain n { interval := interval, stream := stream, chans := cs } } })) ∧
  (∀ (h : CmdHdr) (p : SpectralP) (s : State), Accepts h 0x0603 s → specCheck p s = none →
    needGrants (specConfig p s.cfg) s.streams s = [] → s.ring.grants = [] →
    Does (.spectralSet h p) s (answered h 0x0603 okReply { s with
      cfg := { s.cfg with spec := tput specSet0 s.cfg.spec p.set { log2n := p.log2n, window := p.window, overlap := p.overlap, a := p.a, stream := p.stream, chans := p.chans, pairs := p.pairs } } })) ∧
  (∀ (h : CmdHdr) (s : State), Accepts h 0x0604 s → s.red.testEnd = none → s.red.failed = false →
    exec (.redSelftest h) s = .next { s with red.testHdrs := s.red.testHdrs ++ [h], red.testEnd := some (boundaryAfter 0 s / 2 + 10000000), red.pauses := s.red.pauses ++ [{ start := boundaryAfter 0 s / 2, stop := some (boundaryAfter 0 s / 2 + 10000000), era := eraNow s }] }) ∧
  (∀ (h : CmdHdr) (s : State), Accepts h 0x0604 s → s.red.testEnd ≠ none →
    exec (.redSelftest h) s = .next { s with red.testHdrs := s.red.testHdrs ++ [h] }) ∧
  (∀ (h : CmdHdr) (s : State), Accepts h 0x0604 s → s.red.testEnd = none → s.red.failed = true →
    exec (.redSelftest h) s = .next { s with red.testHdrs := s.red.testHdrs ++ [h], red.testEnd := some (boundaryAfter 0 s / 2 + 10000000) })

/-- SUBSCRIBE opens a stream with an empty instance, due at the next boundary, when its checks pass and it needs no grant or the
gateway is this hub and grants it; it asks the gateway's hub for a grant and waits, or is refused off the ring and while no
gateway is known; of an open stream with the same settings answers OK; UNSUBSCRIBE of an open stream is due at the next
boundary, and of a closed one answers OK; RECV_SUBSCRIBE adds or removes the subscription; RETRIEVE reads its records, when no
higher requester, pause or share holds it back, and answers with those that fit whole into the data buffer, writes those that
fit to its ring (none to one that is not active), or queues them for the gateway's hub; one that must wait is kept. -/
def Obligations.StreamCommands : Prop :=
  (∀ (h : CmdHdr) (p : SubscribeP) (s : State), Accepts h 0x0401 s → (streamAt s p.stream).isOpen = false → subscribeCheck p s = none →
    needGrants s.cfg (tput streamCtx0 s.streams p.stream (newStream p)) s = [] →
    ∃ t, exec (.subscribe h p) s = .next t ∧ streamAt t p.stream = { streamCtx0 with
        isOpen := true, type := natAt [0x01, 0x02, 0x03, 0x10, 0x11, 0x12, 0x20] p.type, events := decide (p.events = 1)
        right := decide (p.align = 1), level := p.level, hostRing := if p.hostRing = 0xFF then none else some p.hostRing
        ring := decide (p.ring = 1), select := p.select, coder := clearedCoder p.level } ∧
      (∀ n < 128, n ≠ p.stream → streamAt t n = streamAt s n) ∧ (s.ring.grants = [] → t.ring = s.ring) ∧
      silent { t with streams := s.streams, ring := s.ring } = silent (dueAtBoundary h 0x0401 s)) ∧
  (∀ (h : CmdHdr) (p : SubscribeP) (n rho sigma : Nat) (ns : List (Nat × Nat × Nat)) (s : State), Accepts h 0x0401 s → (streamAt s p.stream).isOpen = false → subscribeCheck p s = none →
    needGrants s.cfg (tput streamCtx0 s.streams p.stream (newStream p)) s = (n, rho, sigma) :: ns → s.ring.state = .joined →
    s.ring.gateway.held = false → leaseKnown s.ring.gateway (nowNs s) = true → exec (.subscribe h p) s =
      .next (sendControl 24 s.ring.gateway.holder (.budget (.request s.live.ring.hubId n rho sigma)) { s with
        ring.asks := s.ring.asks ++ [{ stream := n, rho := rho, sigma := sigma, hdr := h, opcode := 0x0401, cmd := .subscribe h p }] })) ∧
  (∀ (h : CmdHdr) (p : SubscribeP) (s : State), Accepts h 0x0401 s → (streamAt s p.stream).isOpen = false → subscribeCheck p s = none → needGrants s.cfg (tput streamCtx0 s.streams p.stream (newStream p)) s ≠ [] →
    (s.ring.state ≠ .joined → Does (.subscribe h p) s (answered h 0x0401 (refusedState 4 0) s)) ∧
    (s.ring.state = .joined → s.ring.gateway.held = false → leaseKnown s.ring.gateway (nowNs s) = false →
      Does (.subscribe h p) s (answered h 0x0401 (refusedState 7 0) s))) ∧
  (∀ (h : CmdHdr) (p : SubscribeP) (ns : List (Nat × Nat × Nat)) (s : State), Accepts h 0x0401 s → (streamAt s p.stream).isOpen = false → subscribeCheck p s = none → needGrants s.cfg (tput streamCtx0 s.streams p.stream (newStream p)) s = ns →
    ns ≠ [] → s.ring.state = .joined → s.ring.gateway.held = true → (∀ r, (grantLocally ns s).1 = some r →
      Does (.subscribe h p) s (answered h 0x0401 r s)) ∧
    ((grantLocally ns s).1 = none → ∃ t, exec (.subscribe h p) s = .next t ∧ (streamAt t p.stream).isOpen = true ∧
      (∀ n < 128, n ≠ p.stream → streamAt t n = streamAt s n) ∧ t.fret.atBoundary = s.fret.atBoundary ++ [(h, 0x0401)])) ∧
  (∀ (h : CmdHdr) (p : SubscribeP) (s : State), Accepts h 0x0401 s → (streamAt s p.stream).isOpen = true → subscribeCheck p s = none →
    Does (.subscribe h p) s (answered h 0x0401 okReply s)) ∧
  (∀ (h : CmdHdr) (n : Nat) (s : State), Accepts h 0x0402 s → n ≤ 127 → (streamAt s n).isOpen = true →
    exec (.unsubscribe h n) s = .next (dueAtBoundary h 0x0402 { s with fret.closeStreams := s.fret.closeStreams ++ [n] })) ∧
  (∀ (h : CmdHdr) (n : Nat) (s : State), Accepts h 0x0402 s → n ≤ 127 → (streamAt s n).isOpen = false →
    Does (.unsubscribe h n) s (answered h 0x0402 okReply s)) ∧
  (∀ (h : CmdHdr) (hub n ring : Nat) (s : State), Accepts h 0x0403 s → hub ≤ 63 → n ≤ 127 → Does (.recvSubscribe h hub n ring 1) s
    (answered h 0x0403 okReply { s with ring.recv := s.ring.recv.filter (fun e => !(decide (e.1 = hub) && decide (e.2.1 = n))) })) ∧
  (∀ (h : CmdHdr) (hub n ring : Nat) (s : State), Accepts h 0x0403 s → hub ≤ 63 → n ≤ 127 → recordRing s ring = true →
    ∃ t, exec (.recvSubscribe h hub n ring 0) s = .next t ∧
      t.ring.recv = s.ring.recv.filter (fun e => !(decide (e.1 = hub) && decide (e.2.1 = n))) ++ [(hub, n, ring)] ∧
      silent { t with ring := s.ring, fresh := s.fresh } = silent { answered h 0x0403 okReply s with ring := s.ring, fresh := s.fresh }) ∧
  (∀ (h : CmdHdr) (p : RetrieveP) (s : State) (e : State × List Nat) (fit : List (Record × Nat)),
    Accepts h 0x0404 s → retrieveCheck p h.gateway.isSome s = none → p.dest = 0 → canRetrieve p s = true →
    e = readAll 3 (retrieveReads p s) p.found { s with hist.fretRead := s.hist.fretRead + sumOf sliceBytes (retrieveReads p s) } →
    fit = fitting h.dataLen ((retrievedWith e.2 (streamAt e.1 p.stream) p.firstSeq e.1).take p.count) → Does (.retrieve h p) s
      (answered h 0x0404 { status := 0, result := retrieveResult p fit, data := (fit.map (fun r => recordBytes r.1)).flatten } e.1)) ∧
  (∀ (h : CmdHdr) (p : RetrieveP) (g : Nat) (s : State) (e : State × List Nat) (got : List (Record × Nat)),
    Accepts h 0x0404 s → retrieveCheck p true s = none → p.dest = 1 → h.gateway = some g → canRetrieve p s = true →
    e = readAll 3 (retrieveReads p s) p.found { s with hist.fretRead := s.hist.fretRead + sumOf sliceBytes (retrieveReads p s) } →
    got = (retrievedWith e.2 (streamAt e.1 p.stream) p.firstSeq e.1).take p.count → Does (.retrieve h p) s (answered h 0x0404 (okResult (retrieveResult p got))
      { e.1 with ring.retrieval := e.1.ring.retrieval ++ got.map (fun r => (g, false, r.1)) })) ∧
  (∀ (h : CmdHdr) (p : RetrieveP) (s : State) (e : State × List Nat) (fit : List (Record × Nat)),
    Accepts h 0x0404 s → retrieveCheck p false s = none → p.dest = 1 → h.gateway = none → canRetrieve p s = true →
    e = readAll 3 (retrieveReads p s) p.found { s with hist.fretRead := s.hist.fretRead + sumOf sliceBytes (retrieveReads p s) } →
    (ringAt s p.hostRing).active = true → fit = fitting (ringFree (ringAt e.1 p.hostRing)) ((retrievedWith e.2 (streamAt e.1 p.stream) p.firstSeq e.1).take p.count) →
    ∃ t, exec (.retrieve h p) s = .next t ∧ (ringAt t p.hostRing).items = (ringAt e.1 p.hostRing).items ++
        fit.map (fun r => (recordLen r.1, .record (recordBytes r.1))) ∧
      silent { t with host.slots := [] } = silent { answered h 0x0404 (okResult (retrieveResult p fit)) e.1 with host.slots := [] }) ∧
  (∀ (h : CmdHdr) (p : RetrieveP) (s : State) (e : State × List Nat), Accepts h 0x0404 s →
    retrieveCheck p false s = none → p.dest = 1 → h.gateway = none → canRetrieve p s = true → (ringAt s p.hostRing).active = false →
    e = readAll 3 (retrieveReads p s) p.found { s with hist.fretRead := s.hist.fretRead + sumOf sliceBytes (retrieveReads p s) } →
    fitting 0 ((retrievedWith e.2 (streamAt e.1 p.stream) p.firstSeq e.1).take p.count) = [] →
    Does (.retrieve h p) s (answered h 0x0404 (okResult (leBytes 4 0 ++ leBytes 4 (p.firstSeq % 4294967296))) e.1)) ∧
  (∀ (h : CmdHdr) (p : RetrieveP) (s : State), Accepts h 0x0404 s →
    retrieveCheck p h.gateway.isSome s = none → canRetrieve p s = false → exec (.retrieve h p) s = .next { s with
      hist.retrieving := s.hist.retrieving ++ [{ hdr := h, p := p, need := sumOf sliceBytes (retrieveReads p s) }] })

/-- A stream in replay, its record read whole within the fret's share and no error met, writes it at the delivery point, marked {
streaming with streams := [(127, { streamCtx0 with isOpen := true, type := tyScan, hostRing := some 2, replay := true, point :=
4, nextSeq := 5, stored := [storedRec] })], host.rings := [(1, cplRing1), (2, recordRing2)] }LAYED, and moves on, or first the
LOST_RANGE whose place has come; a held stream with a subscriber or the ring back queues its next record for the ring, or leaves
the hold when none is left; a RETRIEVAL record goes out against the credit of its hub, or of every creditor for all hubs, and
spends it; a grant adds to a hub's credit and makes it a creditor; credit given back leaves the other sources' grants as they
are; unused credit returns after 100 ms; a record of another hub, once reassembled, is written whole to its ring, counted lost
at a full one, or parked where it came against credit, and one that is not reassembled changes nothing. -/
def Obligations.DeliveryEvents : Prop :=
  (∀ (n r : Nat) (x : Stored) (found : List ReadError) (e : State × Bool) (s : State), (streamAt s n).isOpen = true →
    (streamAt s n).replay = true → (streamAt s n).ranges = [] → (streamAt s n).safeDue = [] → (streamAt s n).gone = [] →
    (streamAt s n).type ≠ tyCapHeader → (streamAt s n).hostRing = some r →
    (streamAt s n).stored.find? (fun y => decide (y.rcd.seq = (streamAt s n).point)) = some x → x.failover = false → storedBad s x = false →
    s.dram.pauseEnd ≤ s.time.cclk → sliceBytes x ≤ tget 0 s.hist.readSoFar n + readShare s →
    e = readErrors 1 x found { s with
      hist.fretRead := s.hist.fretRead + (sliceBytes x - tget 0 s.hist.readSoFar n), hist.readSoFar := tdrop s.hist.readSoFar n } →
    e.2 = false → ringTakes s r (recordLen (asReplayed x.rcd)) = true → ringTakes e.1 r (recordLen (asReplayed x.rcd)) = true →
    ∃ t, exec (.replayDeliver n found) s = .next t ∧
      (streamAt t n).point = (streamAt s n).point + 1 ∧ (streamAt t n).replay = decide ((streamAt s n).point + 1 < (streamAt s n).nextSeq) ∧
      (ringAt t r).items = (ringAt e.1 r).items ++ [(recordLen (asReplayed x.rcd), .record (recordBytes (asReplayed x.rcd)))] ∧
      (∀ m < 128, m ≠ n → streamAt t m = streamAt s m) ∧ t.cfg = s.cfg ∧ t.live = s.live ∧ (silent t).fret = (silent s).fret ∧ t.boot = s.boot) ∧
  (∀ (n r : Nat) (found : List ReadError) (l : LostRange) (ls : List LostRange) (s : State), (streamAt s n).isOpen = true →
    (streamAt s n).replay = true → (streamAt s n).ranges = l :: ls → (streamAt s n).safeDue = [] → (streamAt s n).gone = [] →
    (streamAt s n).type ≠ tyCapHeader → (streamAt s n).hostRing = some r → recordAt (streamAt s n) (streamAt s n).point = none →
    (streamAt s n).stored.find? (fun y => decide (y.rcd.seq = (streamAt s n).point)) = none → ringTakes s r (recordLen (lostRecord n l s)) = true →
    ∃ t, exec (.replayDeliver n found) s = .next t ∧ (streamAt t n).ranges = ls ∧ (streamAt t n).point = (streamAt s n).point ∧
      (ringAt t r).items = (ringAt s r).items ++ [(recordLen (lostRecord n l s), .record (recordBytes (lostRecord n l s)))] ∧
      (∀ m < 128, m ≠ n → streamAt t m = streamAt s m) ∧ t.cfg = s.cfg ∧ t.live = s.live ∧ t.fret = s.fret ∧ t.boot = s.boot) ∧
  (∀ (n : Nat) (x : Stored) (xs : List Stored) (s : State), (streamAt s n).hold = true →
    ((streamAt s n).holders = [] ∨ (streamAt s n).holders.any (hubPresent s) = true) → (streamAt s n).ring = true →
    s.ring.state = .joined → (streamAt s n).ringRanges = [] → (streamAt s n).ringSafe = [] → (streamAt s n).gone = [] →
    storedFrom (streamAt s n) (streamAt s n).ringNext = x :: xs →
    ∃ t, exec (.ringHoldResend n) s = .next t ∧ (streamAt t n).ringNext = x.rcd.seq + 1 ∧ (streamAt t n).hold = !xs.isEmpty ∧
      t.ring.retrieval = s.ring.retrieval ++ [(64, true, replayOf s x)] ∧ (∀ m < 128, m ≠ n → streamAt t m = streamAt s m) ∧
      t.cfg = s.cfg ∧ t.live = s.live ∧ t.fret = s.fret ∧ t.boot = s.boot) ∧
  (∀ (dst w : Nat) (held : Bool) (r : Record) (rest : List (Nat × Bool × Record)) (s : State), s.ring.state = .joined →
    s.ring.retrieval = (dst, held, r) :: rest → dst < 64 → w = wireBytes (recordLen r) → w ≤ (tget (0, 0) s.ring.credit dst).1 →
    ∃ t, exec .retrievalRecordTx s = .next t ∧ t.ring.retrieval = rest ∧
      (tget (0, 0) t.ring.credit dst).1 = (tget (0, 0) s.ring.credit dst).1 - w ∧
      (∀ k < 64, k ≠ dst → tget (0, 0) t.ring.credit k = tget (0, 0) s.ring.credit k) ∧ t.time = s.time ∧ t.cfg = s.cfg ∧ t.live = s.live ∧ t.streams = s.streams ∧ t.boot = s.boot) ∧
  (∀ (w : Nat) (held : Bool) (r : Record) (rest : List (Nat × Bool × Record)) (s : State), s.ring.state = .joined →
    s.ring.retrieval = (64, held, r) :: rest → w = wireBytes (recordLen r) → s.ring.creditors ≠ [] → s.ring.creditors.Nodup →
    (∀ h ∈ s.ring.creditors, w ≤ (tget (0, 0) s.ring.credit h).1) →
    ∃ t, exec .retrievalRecordTx s = .next t ∧ t.ring.retrieval = rest ∧
      (∀ k < 64, (tget (0, 0) t.ring.credit k).1 = (tget (0, 0) s.ring.credit k).1 - (if k ∈ s.ring.creditors then w else 0)) ∧
      t.time = s.time ∧ t.cfg = s.cfg ∧ t.live = s.live ∧ t.streams = s.streams ∧ t.boot = s.boot) ∧
  (∀ (hub bytes : Nat) (s : State), exec (.creditRx (.grant hub bytes)) s = .next { s with
    ring.credit := tput (0, 0) s.ring.credit hub ((tget (0, 0) s.ring.credit hub).1 + bytes, s.time.cclk)
    ring.creditors := if s.ring.creditors.contains hub then s.ring.creditors else s.ring.creditors ++ [hub] }) ∧
  (∀ (hub bytes : Nat) (s : State), ∃ t, exec (.creditRx (.giveBack hub bytes)) s = .next t ∧
    (∀ k < 64, k ≠ hub → tget 0 t.ring.granted k = tget 0 s.ring.granted k) ∧
    tget 0 s.ring.granted hub - bytes ≤ tget 0 t.ring.granted hub ∧ t.ring.credit = s.ring.credit ∧ t.time = s.time ∧ t.cfg = s.cfg ∧ t.live = s.live ∧ t.streams = s.streams ∧ t.boot = s.boot) ∧
  (∀ (hub : Nat) (s : State), (tget (0, 0) s.ring.credit hub).1 ≠ 0 → pairActive s = true → ∃ t, exec (.creditReturnTimeout hub) s = .next t ∧
    tget (0, 0) t.ring.credit hub = (0, 0) ∧ t.time = (toCclk ((tget (0, 0) s.ring.credit hub).2 + 40000000) s).time ∧
    t.ring.hsrSeq = (s.ring.hsrSeq + 1) % 65536 ∧ (∀ k < 64, k ≠ hub → tget (0, 0) t.ring.credit k = tget (0, 0) s.ring.credit k) ∧ t.cfg = s.cfg ∧ t.live = s.live ∧ t.streams = s.streams ∧ t.boot = s.boot) ∧
  (∀ (hub n r : Nat) (bytes : List Byte) (rest : List (Nat × Nat × List Byte × Bool)) (s : State),
    s.ring.arrived = (hub, n, bytes, false) :: rest → remoteRing s hub n false = some r → ringTakes s r bytes.length = true →
    ∃ t, exec (.jorvaRecordRx hub n bytes false) s = .next t ∧ (ringAt t r).items = (ringAt s r).items ++ [(bytes.length, .record bytes)] ∧
      t.ring = { s.ring with arrived := rest } ∧ t.cfg = s.cfg ∧ t.live = s.live ∧ t.streams = s.streams ∧ t.boot = s.boot) ∧
  (∀ (hub n r : Nat) (bytes : List Byte) (rest : List (Nat × Nat × List Byte × Bool)) (s : State),
    s.ring.arrived = (hub, n, bytes, false) :: rest → remoteRing s hub n false = some r → ringTakes s r bytes.length = false →
    exec (.jorvaRecordRx hub n bytes false) s = .next (putRing r { ringAt s r with loss := satAdd 65535 (ringAt s r).loss 1 }
      { s with ring.arrived := rest })) ∧
  (∀ (hub n r : Nat) (bytes : List Byte) (rest : List (Nat × Nat × List Byte × Bool)) (s : State),
    s.ring.arrived = (hub, n, bytes, true) :: rest → remoteRing s hub n true = some r → ringTakes s r bytes.length = false →
    exec (.jorvaRecordRx hub n bytes true) s = .next { s with ring.arrived := rest, ring.parked := s.ring.parked ++ [(hub, r, bytes)], ring.granted := tmod 0 s.ring.granted hub (fun g => g - wireBytes bytes.length) }) ∧
  (∀ (hub n : Nat) (bytes : List Byte) (retrieval : Bool) (s : State), (hub, n, bytes, retrieval) ∉ s.ring.arrived →
    exec (.jorvaRecordRx hub n bytes retrieval) s = .next s)

/-- A scrub read is made at its due time, and not in a pause; a clean one advances the scrub and ends the burst's run of corrected
passes, an uncorrectable one marks the burst; a parity error that a retry clears changes nothing but the log, one that stays
marks the burst; a refresh is made at its due time with all that would otherwise be postponed by more than 8 intervals; a pause
keeps the temperature, takes 800 CCLK and moves one tap by at most one; MEM_PARTITION discards the history at once and sets the
division from the next boundary; a waiting event of an open, started stream takes the stream's next number within the allowance
and is held beyond it, and one of another stream is dropped. -/
def Obligations.MemoryEventsAndPartition : Prop :=
  (∀ (s u : State), s.dram.trained = true → s.dram.poisoned.length < 256 → s.dram.scrub ∉ s.dram.poisoned → s.dram.scrub + 64 < dramBytes s →
    u = toCclk (max s.dram.scrubDue s.dram.pauseEnd) s → exec (.scrubRead .clean) s = .next { u with
      dram.scrubDue := s.dram.scrubDue + scrubCclk s, hist.fretRead := u.hist.fretRead + 64
      dram.scrub := s.dram.scrub + 64, dram.ceRuns := s.dram.ceRuns.filter (fun e => decide (e.1 ≠ s.dram.scrub)) }) ∧
  (∀ (syn : Nat) (s : State), s.dram.trained = true → s.dram.poisoned.length < 256 → s.dram.scrub ∉ s.dram.poisoned → s.dram.scrub % 64 = 0 →
    ∃ t, exec (.scrubRead (.uncorrectable syn)) s = .next t ∧ s.dram.scrub ∈ t.dram.poisoned ∧ (∀ a ∈ s.dram.poisoned, a ∈ t.dram.poisoned) ∧
      t.time = (toCclk (max s.dram.scrubDue s.dram.pauseEnd) s).time ∧ t.dram.scrubDue = s.dram.scrubDue + scrubCclk s ∧
      t.dram.scrub = (if dramBytes s ≤ s.dram.scrub + 64 then 0 else s.dram.scrub + 64) ∧ t.fret = s.fret ∧ t.trig = s.trig ∧ t.cfg = s.cfg ∧ t.live = s.live ∧ t.streams = s.streams ∧ t.boot = s.boot) ∧
  (∀ (syn : Nat) (s : State), s.dram.trained = true → s.dram.poisoned.length < 256 → s.dram.scrub ∉ s.dram.poisoned →
    ∃ t, exec (.scrubRead (.corrected syn)) s = .next t ∧ t.dram.poisoned = s.dram.poisoned ∧ t.time.cclk ∈ t.dram.ceLog ∧
      t.time = (toCclk (max s.dram.scrubDue s.dram.pauseEnd) s).time ∧ t.dram.scrubDue = s.dram.scrubDue + scrubCclk s ∧
      t.dram.scrub = (if dramBytes s ≤ s.dram.scrub + 64 then 0 else s.dram.scrub + 64) ∧ (silent t).fret = (silent s).fret ∧
      t.trig = s.trig ∧ t.cfg = s.cfg ∧ t.live = s.live ∧ t.streams = s.streams ∧ t.boot = s.boot) ∧
  (∀ (addr req failures : Nat) (s : State), failures < 3 → Does (.dramParityError addr req failures) s s) ∧
  (∀ (addr req failures : Nat) (s : State), 3 ≤ failures → s.dram.poisoned.length < 256 →
    ∃ t, exec (.dramParityError addr req failures) s = .next t ∧ addr / 64 * 64 ∈ t.dram.poisoned ∧ { t.dram with poisoned := [] } = { s.dram with poisoned := [] } ∧
      t.fret = s.fret ∧ t.trig = s.trig ∧ t.cfg = s.cfg ∧ t.live = s.live ∧ t.streams = s.streams ∧ t.boot = s.boot) ∧
  (∀ (c : Nat) (s : State), s.dram.trained = true → c = (if s.dram.hot then 1560 else 3120) / max 1 s.dram.ranks → s.dram.ranks ≤ 2 →
    ∃ t k, exec .refreshDue s = .next t ∧ 1 ≤ k ∧ t.dram.refreshes = s.dram.refreshes + k ∧ t.dram.lastRefresh = s.dram.lastRefresh + k * c ∧
      t.time = (toCclk (s.dram.lastRefresh + c) s).time ∧ t.time.cclk < t.dram.lastRefresh + 9 * c ∧
      (t.time.cclk ≤ s.dram.lastRefresh + 9 * c → k = 1) ∧ t.fret = s.fret ∧ t.trig = s.trig ∧ t.host = s.host ∧ t.cfg = s.cfg ∧ t.live = s.live ∧ t.streams = s.streams ∧ t.boot = s.boot) ∧
  (∀ (above near : Bool) (move : Int) (s : State), s.dram.trained = true → ∃ t, exec (.retrainPause above move near) s = .next t ∧
    t.dram.hot = above ∧ t.dram.retrainNext = s.dram.retrainNext + 1 ∧ t.time = (toInstant (nextPause s) s).time ∧
    t.dram.pauseEnd = t.time.cclk + 800 ∧
    (∀ i < 36, tget 0 t.dram.taps i = (if i = s.dram.retrainNext % (18 * max 1 s.dram.ranks)
      then tget 0 s.dram.taps i + (if move < 0 then -1 else if 0 < move then 1 else 0) else tget 0 s.dram.taps i)) ∧
    (silent t).fret = (silent s).fret ∧ t.trig = s.trig ∧ t.cfg = s.cfg ∧ t.live = s.live ∧ t.streams = s.streams ∧ t.boot = s.boot) ∧
  (∀ (h : CmdHdr) (hist capo : Nat) (s : State), Accepts h 0x0701 s → memCheck hist capo s = none →
    ∃ t, exec (.memPartition h hist capo) s = .next t ∧ t.cfg = { s.cfg with mem := { h := hist - 10, c := capo } } ∧
      t.live = s.live ∧ t.hist.blocks = [] ∧ t.hist.pages = [] ∧
      (∀ n < 128, streamAt t n = { streamAt s n with stored := [], notices := [], gone := [] }) ∧ t.fret = (dueAtBoundary h 0x0701 s).fret ∧
      t.trig = s.trig ∧ t.boot = s.boot) ∧
  (∀ (n : Nat) (e m : Event) (rest : List (Nat × Event)) (s : State), s.pairs.waitingEvents = (n, e) :: rest → pairActive s = true →
    s.pairs.staging.length < 64 → (streamAt s n).isOpen = true → (streamAt s n).started = true →
    m = mergedEvent e (streamAt s n).heldEvents → inAllowance (eventWire m) (streamAt s n) s = true →
    ∃ t, exec .stagingEventPost s = .next t ∧ t.pairs.waitingEvents = rest ∧ t.pairs.staging = s.pairs.staging ++ [(n, (streamAt s n).nextSeq)] ∧
      (streamAt t n).nextSeq = (streamAt s n).nextSeq + 1 ∧ (streamAt t n).heldEvents = (streamAt s n).heldEvents.filter (fun h => !sameEvent e h) ∧
      (streamAt t n).stored.map (·.rcd.seq) = (streamAt s n).stored.map (·.rcd.seq) ++ [(streamAt s n).nextSeq] ∧
      { t with streams := s.streams, pairs := s.pairs } = s) ∧
  (∀ (n : Nat) (e m : Event) (rest : List (Nat × Event)) (s : State), s.pairs.waitingEvents = (n, e) :: rest → pairActive s = true →
    s.pairs.staging.length < 64 → (streamAt s n).isOpen = true → (streamAt s n).started = true →
    m = mergedEvent e (streamAt s n).heldEvents → inAllowance (eventWire m) (streamAt s n) s = false →
    ∃ t, exec .stagingEventPost s = .next t ∧ t.pairs = { s.pairs with waitingEvents := rest } ∧
      (streamAt t n) = { streamAt s n with heldEvents := (streamAt s n).heldEvents.filter (fun h => !sameEvent e h) ++ [m] } ∧
      { t with streams := s.streams, pairs := s.pairs } = s) ∧
  (∀ (n : Nat) (e : Event) (rest : List (Nat × Event)) (s : State), s.pairs.waitingEvents = (n, e) :: rest → pairActive s = true →
    s.pairs.staging.length < 64 → ((streamAt s n).isOpen && (streamAt s n).started) = false →
    exec .stagingEventPost s = .next { s with pairs.waitingEvents := rest })

/-- At a port without a link a frame has no effect; one that breaks R312 or whose LSDU size is wrong is counted and discarded, and
so is a second copy within 10 ms; the hub's own frame is not forwarded; a good frame for another hub is noted against duplicates
and goes out at the other port; one with a wrong FCS goes out inverted and is counted; a fragment for this hub joins its record,
and a record of one frame arrives whole; a record not whole after 1 ms is discarded and counted once; of the frames that can
leave, the one of the highest class whose first byte came first does, a transit frame before a local one, with its addresses and
tag; a forwarded Sync takes its residence, the peer delay and the asymmetry of its ingress port with it; supervision frames are
sent every 2 s and heard; entries age out. -/
def Obligations.RingFrames : Prop :=
  (∀ (p : Port) (f : RingFrame) (s : State), linkOf s p = false → exec (.ringFrameRx p f) s = .next s) ∧
  (∀ (p : Port) (f : RingFrame) (s : State), linkOf s p = true → frameRefused s f = true →
    Does (.ringFrameRx p f) s (bump p (fun c => { c with frames := c.frames + 1, r312 := c.r312 + 1 }) s)) ∧
  (∀ (p : Port) (f : RingFrame) (s : State), linkOf s p = true → frameRefused s f = false → lsduOk f = false →
    Does (.ringFrameRx p f) s (bump p (fun c => { c with frames := c.frames + 1, lsdu := c.lsdu + 1 }) s)) ∧
  (∀ (p : Port) (f : RingFrame) (s : State), linkOf s p = true → frameRefused s f = false → lsduOk f = true →
    f.srcAddr = hubAddr s.live.ring.hubId → exec (.ringFrameRx p f) s = .next (bump p (fun c => { c with frames := c.frames + 1 }) s)) ∧
  (∀ (p : Port) (f : RingFrame) (s : State), linkOf s p = true → frameRefused s f = false → lsduOk f = true →
    f.srcAddr ≠ hubAddr s.live.ring.hubId → duplicate s f = true →
    Does (.ringFrameRx p f) s (bump p (fun c => { c with frames := c.frames + 1, dups := c.dups + 1 }) (seenByEngine f s))) ∧
  (∀ (p : Port) (f : RingFrame) (s : State), linkOf s p = true → frameRefused s f = false → lsduOk f = true →
    f.srcAddr ≠ hubAddr s.live.ring.hubId → duplicate s f = false → f.fcsOk = true → f.dstAddr ≠ hubAddr s.live.ring.hubId → f.dstAddr ≠ allAddr →
    f.etherType = s.live.ring.etherType → f.etherType ≠ 0x88F7 →
    exec (.ringFrameRx p f) s = .next (egressPut (otherPort p) { cls := min 4 (fCls f), bytes := f.length, ready := s.time.cclk + hopCclk s, hsrSeq := f.hsrSeq, da := f.dstAddr, head := f.head, msg := .transit (hopped s f) false (now16 s - rxDelay16 s p) }
      (bump p (fun c => { c with frames := c.frames + 1 }) { s with ring.dups := s.ring.dups ++ [(f.srcAddr, f.hsrSeq, s.time.cclk)] }))) ∧
  (∀ (p : Port) (f : RingFrame) (s : State), linkOf s p = true → frameRefused s f = false → lsduOk f = true →
    f.srcAddr ≠ hubAddr s.live.ring.hubId → duplicate s f = false → f.fcsOk = false → f.dstAddr ≠ hubAddr s.live.ring.hubId →
    f.etherType = s.live.ring.etherType → f.etherType ≠ 0x88F7 →
    Does (.ringFrameRx p f) s (egressPut (otherPort p) { cls := min 4 (fCls f), bytes := f.length, ready := s.time.cclk + hopCclk s, hsrSeq := f.hsrSeq, da := f.dstAddr, head := f.head, msg := .transit (hopped s f) true (now16 s - rxDelay16 s p) }
      (bump p (fun c => { c with frames := c.frames + 1, fcs := c.fcs + 1 }) s))) ∧
  (∀ (p : Port) (f : RingFrame) (s : State), linkOf s p = true → frameRefused s f = false → lsduOk f = true →
    f.srcAddr ≠ hubAddr s.live.ring.hubId → duplicate s f = false → f.fcsOk = true → f.dstAddr = hubAddr s.live.ring.hubId →
    f.etherType = s.live.ring.etherType → f.etherType ≠ 0x88F7 → s.ring.state = .joined → jcrcOk f = true → versionRead s (fVersion f) = true →
    fKind f = 1 → exec (.ringFrameRx p f) s = .next (reassemble f (bump p (fun c => { c with frames := c.frames + 1 }) { s with ring.dups := s.ring.dups ++ [(f.srcAddr, f.hsrSeq, s.time.cclk)] }))) ∧
  (∀ (f : RingFrame) (s : State), s.ring.reasm.all (fun r => !sameRecord r (fSrc f) (fStream f) (fTag f)) = true → fFrag f = 0 → fLast f = true →
    (reassemble f s).ring.arrived = s.ring.arrived ++ [(fSrc f, fStream f, f.payload.take (fLen f), decide (fCls f = 4))]) ∧
  (∀ (e : Nat × Nat × Nat) (es : List (Nat × Nat × Nat)) (s : State), s.ring.dups = e :: es →
    exec .duplicateEntryExpiry s = .next (toCclk (e.2.2 + 4000000) { s with ring.dups := es })) ∧
  (∀ (p : Port) (hub stream tag : Nat) (r : Reassembly) (s : State), s.ring.reasm.find? (fun r => sameRecord r hub stream tag) = some r →
    exec (.reassemblyTimeout p hub stream tag) s = .next (bump p (fun c => { c with reasm := c.reasm + (if r.dead then 0 else 1) })
      { toCclk (r.started + 400000) s with ring.reasm := s.ring.reasm.filter (fun r => !sameRecord r hub stream tag) })) ∧
  (∀ (p : Port) (pre ws : List Waiting) (w : Waiting) (c : Nat) (s u : State), firstReady (egressOf s p) = some c → u = toCclk c s →
    egressOf s p = pre ++ w :: ws → w.ready ≤ u.time.cclk →
    (∀ v ∈ pre, v.ready ≤ u.time.cclk → w.cls < v.cls ∨ (w.cls = v.cls ∧
      (w.ready < v.ready ∨ (w.ready = v.ready ∧ isTransit w = true ∧ isTransit v = false)))) →
    (∀ v ∈ ws, v.ready ≤ u.time.cclk → w.cls < v.cls ∨ (w.cls = v.cls ∧
      (w.ready < v.ready ∨ (w.ready = v.ready ∧ (isTransit w = true ∨ isTransit v = false))))) →
    exec (.egressFrameTx p) s = .next (afterEgress p w.msg { putEgress p (pre ++ ws) u with sent := u.sent ++ [(p, wireOf p w u)] })) ∧
  (∀ (f : RingFrame) (inv : Bool) (t : Int) (s : State), f.etherType = 0x88F7 → ptpType f = 0 →
    stamped .b (.transit f inv t) s = .transit { f with correction16 := f.correction16 + (now16 s + txDelay16 s .b - t) + peerDelay s.ptp.portA + s.time.asymA } inv t) ∧
  (∀ (s u : State), s.ring.state ≠ .down → u = toCclk s.ring.supervisionDue s → exec .hsrSupervisionTx s = .next (sendFrame 0 70 0 supervisionAddr [] .supervision
    { u with ring.supervisions := s.ring.supervisions + 1, ring.supervisionDue := u.time.cclk + 800000000 })) ∧
  (∀ (node : Nat) (s : State), exec (.hsrSupervisionRx node) s = .next { s with
    ring.nodes := tinsert node s.time.cclk (tdrop s.ring.nodes node) }) ∧
  (∀ (node c : Nat) (s : State), s.ring.nodes.find? (fun e => decide (e.1 = node)) = some (node, c) →
    exec (.nodeForget node) s = .next { toCclk (c + 24000000000) s with ring.nodes := tdrop s.ring.nodes node })

/-- A gateway whose ledger is whole grants a request that fits into a ledger line, and refuses another with the resource and the
excess; before that the request waits; a refusal completes the command that asked with BUDGET_EXCEEDED; a grant lets it go on,
so that a SUBSCRIBE that asked opens its stream; an answer to another hub changes nothing. -/
def Obligations.BudgetMessages : Prop :=
  (∀ (hub n rho sigma : Nat) (s : State), s.ring.gateway.held = true → s.ring.ledgerReady = true → pairActive s = true → judge s hub n rho sigma = none →
    exec (.budgetMsgRx (.request hub n rho sigma)) s = .next (sendControl 24 (some hub) (.budget (.granted hub n)) (putLedger hub n rho sigma s))) ∧
  (∀ (hub n rho sigma res excess : Nat) (s : State), s.ring.gateway.held = true → s.ring.ledgerReady = true → pairActive s = true →
    judge s hub n rho sigma = some (res, excess) →
    exec (.budgetMsgRx (.request hub n rho sigma)) s = .next (sendControl 24 (some hub) (.budget (.refused hub n res excess)) s)) ∧
  (∀ (hub n rho sigma : Nat) (s : State), s.ring.gateway.held = true → (s.ring.ledgerReady = false ∨ pairActive s = false) →
    exec (.budgetMsgRx (.request hub n rho sigma)) s = .next { s with ring.budgetQ := s.ring.budgetQ ++ [(hub, n, rho, sigma)] }) ∧
  (∀ (a : BudgetAsk) (rest : List BudgetAsk) (res excess : Nat) (s : State), pairActive s = true → s.ring.asks = a :: rest →
    Does (.budgetMsgRx (.refused s.live.ring.hubId a.stream res excess)) s (answered a.hdr a.opcode (overBudget res excess) { s with ring.asks := rest })) ∧
  (∀ (a : BudgetAsk) (rest : List BudgetAsk) (h : CmdHdr) (p : SubscribeP) (s u : State), s.ring.asks = a :: rest → a.cmd = .subscribe h p →
    u = putGrant a.stream (a.rho, a.sigma) { s with ring.asks := rest } → Accepts h 0x0401 u → (streamAt u p.stream).isOpen = false →
    subscribeCheck p u = none → needGrants u.cfg (tput streamCtx0 u.streams p.stream (newStream p)) u = [] →
    ∃ t, exec (.budgetMsgRx (.granted s.live.ring.hubId a.stream)) s = .next t ∧ (streamAt t p.stream).isOpen = true ∧ t.ring.asks = rest ∧
      t.fret.atBoundary = s.fret.atBoundary ++ [(h, 0x0401)] ∧ (∀ n < 128, n ≠ p.stream → streamAt t n = streamAt s n) ∧
      t.cfg = s.cfg ∧ t.live = s.live ∧ t.boot = s.boot) ∧
  (∀ (hub n res excess : Nat) (s : State), hub ≠ s.live.ring.hubId → exec (.budgetMsgRx (.granted hub n)) s = .next s ∧
    exec (.budgetMsgRx (.refused hub n res excess)) s = .next s)

/-- A lease message of a lower term is ignored; a CLAIM is collected for 25 ms; a RENEW makes its sender the holder and ends this
hub's own hold of the role; the acknowledgement that completes the quorum gives the claimant the role, one term later, for 100
ms from its claim; a vacant role is claimed by an eligible hub; a claim window ends with its claims forgotten; a holder renews
every 25 ms; a lease that expires ends the role, with its commands and its ledger. -/
def Obligations.LeasedRoles : Prop :=
  (∀ (r : Role) (hub term pri sent : Nat) (s : State), s.ring.state = .joined → term < (leaseOf s r).term →
    exec (.leaseMsgRx (.claim r hub term pri sent)) s = .next s ∧ exec (.leaseMsgRx (.renew r hub term sent)) s = .next s) ∧
  (∀ (r : Role) (hub term pri sent : Nat) (s : State), s.ring.state = .joined → pairActive s = true → (leaseOf s r).term ≤ term → onRoster s = true →
    exec (.leaseMsgRx (.claim r hub term pri sent)) s = .next (putLease r { leaseOf s r with
      lastMsg := some (nowNs s), claims := (leaseOf s r).claims ++ [(pri, hub, term, sent)], claimEnd := some ((leaseOf s r).claimEnd.getD (nowNs s + 25000000)) } s)) ∧
  (∀ (r : Role) (hub term sent : Nat) (s : State), s.ring.state = .joined → pairActive s = true → (leaseOf s r).term ≤ term → hub ≠ s.live.ring.hubId →
    ∃ t, exec (.leaseMsgRx (.renew r hub term sent)) s = .next t ∧ (leaseOf t r).holder = some hub ∧ (leaseOf t r).term = term ∧
      (leaseOf t r).held = false ∧ (leaseOf t r).lastMsg = some (nowNs s) ∧ t.time = s.time ∧ t.cfg = s.cfg ∧ t.live = s.live ∧ t.streams = s.streams ∧ t.boot = s.boot) ∧
  (∀ (r : Role) (hub sent : Nat) (s : State), s.ring.state = .joined → pairActive s = true → (leaseOf s r).claiming = true → (leaseOf s r).sentAt = sent →
    hub ∈ s.live.roster → quorum s ≤ (distinct ((leaseOf s r).acks ++ [hub])).length →
    ∃ t, exec (.leaseMsgRx (.ack r hub ((leaseOf s r).term + 1) sent false)) s = .next t ∧ (leaseOf t r).held = true ∧
      (leaseOf t r).holder = some s.live.ring.hubId ∧ (leaseOf t r).term = (leaseOf s r).term + 1 ∧ (leaseOf t r).expires = sent + 100000000 ∧
      t.time = s.time ∧ t.cfg = s.cfg ∧ t.live = s.live ∧ t.streams = s.streams ∧ t.boot = s.boot) ∧
  (∀ (r : Role) (s u : State), u = toInstant (2 * (silentSince s (leaseOf s r) + 125000000)) s → s.ring.state = .joined →
    eligible s r = true → (leaseOf s r).held = false → s.safety.safe = false → pairActive s = true → ∃ t, exec (.roleVacantTimeout r) s = .next t ∧
      (leaseOf t r).claiming = true ∧ (leaseOf t r).acks = [] ∧ (leaseOf t r).sentAt = nowNs u ∧ t.time = u.time ∧
      t.ring.hsrSeq = (s.ring.hsrSeq + 1) % 65536 ∧ t.cfg = s.cfg ∧ t.live = s.live ∧ t.streams = s.streams ∧ t.boot = s.boot) ∧
  (∀ (r : Role) (e : Nat) (s : State), (leaseOf s r).claimEnd = some e → ∃ t, exec (.claimWindowEnd r) s = .next t ∧
    (leaseOf t r).claims = [] ∧ (leaseOf t r).claimEnd = none ∧ t.time = (toInstant (2 * e) s).time ∧ t.cfg = s.cfg ∧ t.live = s.live ∧ t.streams = s.streams ∧ t.boot = s.boot) ∧
  (∀ (r : Role) (s u : State), (leaseOf s r).held = true → s.safety.safe = false → s.ring.state = .joined → pairActive s = true →
    u = toInstant (2 * ((leaseOf s r).sentAt + 25000000)) s →
    ∃ t, exec (.leaseRenewTx r) s = .next t ∧ (leaseOf t r).held = true ∧ (leaseOf t r).sentAt = nowNs u ∧
      (leaseOf t r).term = (leaseOf s r).term ∧ t.ring.hsrSeq = (s.ring.hsrSeq + 1) % 65536 ∧ t.time = u.time ∧ t.cfg = s.cfg ∧ t.live = s.live ∧ t.streams = s.streams ∧ t.boot = s.boot) ∧
  (∀ (r : Role) (s : State), (leaseOf s r).held = true → ∃ t, exec (.leaseExpiry r) s = .next t ∧ (leaseOf t r).held = false ∧
    (leaseOf t r).holder = none ∧ (leaseOf t r).term = (leaseOf s r).term ∧ t.time = (toInstant (2 * (leaseOf s r).expires) s).time ∧
    (r = .arbiter → t.trig.merges = []) ∧ (r = .gateway → t.ring.ledger = [] ∧ t.ring.forwarded = []) ∧ t.cfg = s.cfg ∧ t.live = s.live ∧ t.streams = s.streams ∧ t.boot = s.boot)

/-- A hub that is joined or listens sends its beacon every 25 ms as class CONTROL; while no controller pair is ACTIVE neither
beacons nor renewals go out; another hub's beacon makes it present in the topology table with the hops of the port it came in
by; a hub unheard for 75 ms is absent; the first link takes a DOWN hub to PASS; loss of one link loses the frames waiting at its
port and settles what its streams have delivered, and loss of both takes the hub DOWN, its streams back to the last record
delivered. -/
def Obligations.BeaconsAndLinks : Prop :=
  (∀ (s u : State), pairActive s = true → (s.ring.state = .joined ∨ s.ring.state = .listen) → u = toCclk s.ring.beaconDue s →
    exec .beaconTx s = .next (sendControl 64 none (.beacon (ownBeacon u)) { u with ring.beaconDue := u.time.cclk + 10000000 })) ∧
  (∀ (r : Role) (s : State), pairActive s = false → exec .beaconTx s = .next s ∧ exec (.leaseRenewTx r) s = .next s) ∧
  (∀ (p : Port) (b : Beacon) (s : State), (s.ring.state = .joined ∨ s.ring.state = .listen) → b.hub ≠ s.live.ring.hubId →
    ∃ t, exec (.beaconRx p b) s = .next t ∧ topoAt t b.hub = { present := true, hopsA := if p = .a then b.hops else (topoAt s b.hub).hopsA, hopsB := if p = .b then b.hops else (topoAt s b.hub).hopsB, version := b.version, lastStamp := nowStamp s, lastAt := s.time.cclk, gateway := b.gateway, arbiter := b.arbiter, master := b.master, rate := b.rate, etherType := b.etherType, reserve := b.reserve, rosterCrc := b.rosterCrc, rho := b.rho, sigma := b.sigma, joining := b.joining, left := false } ∧
      (∀ h < 64, h ≠ b.hub → topoAt t h = topoAt s h) ∧ t.time = s.time ∧ t.cfg = s.cfg ∧ t.live = s.live ∧ t.streams = s.streams ∧ t.boot = s.boot) ∧
  (∀ (hub : Nat) (s : State), (topoAt s hub).present = true → ∃ t, exec (.hubAbsentTimeout hub) s = .next t ∧
    topoAt t hub = { topoAt s hub with present := false, left := false } ∧ t.ring.creditors = s.ring.creditors.filter (fun h => decide (h ≠ hub)) ∧ t.time = (toCclk ((topoAt s hub).lastAt + 30000000) s).time ∧
    (∀ h < 64, h ≠ hub → topoAt t h = topoAt s h) ∧ t.cfg = s.cfg ∧ t.live = s.live ∧ t.fret = s.fret ∧ t.boot = s.boot) ∧
  (∀ (p : Port) (s : State), linkOf s p = false → s.ring.state = .down → s.ring.autoJoin = false → ∃ t, exec (.linkUp p) s = .next t ∧
    linkOf t p = true ∧ linkOf t (otherPort p) = linkOf s (otherPort p) ∧ t.ring.state = .pass ∧ t.time = s.time ∧ t.cfg = s.cfg ∧ t.live = s.live ∧ t.streams = s.streams ∧ t.boot = s.boot) ∧
  (∀ (p : Port) (s : State), linkOf s p = false → s.ring.state = .down → s.ring.autoJoin = true → ∃ t, exec (.linkUp p) s = .next t ∧
    linkOf t p = true ∧ t.ring.state = .listen ∧ t.ring.listenEnd = s.time.cclk + 80000000 ∧ t.ring.autoJoin = false ∧ t.time = s.time ∧ t.cfg = s.cfg ∧ t.live = s.live ∧ t.streams = s.streams ∧ t.boot = s.boot) ∧
  (∀ (s : State), s.ring.linkA = true → s.ring.linkB = true → s.ring.leaving = [] →
    Does (.linkDown .a) s ((openStreams s).foldl (fun v n => settleRing n v) { s with ring.linkA := false, ring.egressA := [] }) ∧
    Does (.linkDown .b) s ((openStreams s).foldl (fun v n => settleRing n v) { s with ring.linkB := false, ring.egressB := [] })) ∧
  (∀ (p : Port) (s : State), linkOf s p = true → linkOf s (otherPort p) = false → ∃ t, exec (.linkDown p) s = .next t ∧
    t.ring.state = .down ∧ t.ring.linkA = false ∧ t.ring.linkB = false ∧ t.ring.joinHdr = none ∧ egressOf t p = [] ∧
    t.ring.retrieval = s.ring.retrieval.filter (fun q => decide (q.1 < 64)) ∧ (∀ n < 128, streamAt t n = if (streamAt s n).isOpen && (streamAt s n).ring
      then { streamAt s n with ringNext := (streamAt s n).ringPoint } else streamAt s n) ∧ t.time = s.time ∧
    t.cfg = s.cfg ∧ t.live = s.live ∧ t.boot = s.boot)

/-- JOIN from PASS or REFUSED starts 200 ms of listening with an empty topology table; at their end the hub is JOINED and the
command OK, or REFUSED with the cause, which the completion carries; LEAVE takes a joined hub to PASS, holding no role, once no
record of its streams waits to leave: until then it stays joined, its roles given up, and the last record's frame takes the
LEAVE with it; a hub that leaves loses its ledger lines and its place in the table. -/
def Obligations.JoiningAndLeaving : Prop :=
  (∀ (h : CmdHdr) (s : State), Accepts h 0x0804 s → (s.ring.state = .pass ∨ s.ring.state = .refused) →
    Does (.join h) s { s with
      ring.joinHdr := some h, ring.listenEnd := s.time.cclk + 80000000, ring.topo := [], ring.refusedBy := none, ring.state := .listen }) ∧
  (∀ (h : CmdHdr) (s : State), s.ring.state = .listen → joinCause (toCclk s.ring.listenEnd s) = none → s.ring.joinHdr = some h →
    Does .joinListenEnd s (answered h 0x0804 okReply (holdUndelivered { toCclk s.ring.listenEnd s with ring.state := .joined, ring.joinHdr := none }))) ∧
  (∀ (s : State), s.ring.state = .listen → joinCause (toCclk s.ring.listenEnd s) = none → s.ring.joinHdr = none →
    Does .joinListenEnd s (holdUndelivered { toCclk s.ring.listenEnd s with ring.state := .joined })) ∧
  (∀ (h : CmdHdr) (cause hub : Nat) (s : State), s.ring.state = .listen → joinCause (toCclk s.ring.listenEnd s) = some (cause, hub) →
    s.ring.joinHdr = some h → Does .joinListenEnd s (answered h 0x0804 (refusedState 12 cause)
      { toCclk s.ring.listenEnd s with ring.state := .refused, ring.refusedBy := some (cause, hub), ring.joinHdr := none })) ∧
  (∀ (h : CmdHdr) (s : State), Accepts h 0x0805 s → s.ring.state = .joined → recordsWait s = false → ∃ t, exec (.leave h) s = .next t ∧ t.ring.state = .pass ∧
    t.ring.leaving = [] ∧ t.ring.topo = [] ∧ t.ring.gateway.held = false ∧ t.ring.arbiter.held = false ∧ t.ring.asks = [] ∧ t.ring.retrieval = [] ∧ t.ring.creditors = [] ∧ t.ring.arrived = [] ∧
    (∀ n < 128, (streamAt s n).ring = true ∧ (streamAt s n).isOpen = true → (streamAt t n).ring = false ∨ n ∈ t.fret.closeStreams) ∧
    t.time = s.time ∧ t.cfg = s.cfg ∧ t.live = s.live ∧ t.boot = s.boot) ∧
  (∀ (h : CmdHdr) (s : State), Accepts h 0x0805 s → s.ring.state = .joined → recordsWait s = true → ∃ t, exec (.leave h) s = .next t ∧
    t.ring.state = .joined ∧ t.ring.leaving = s.ring.leaving ++ [h] ∧ t.ring.gateway.held = false ∧ t.ring.arbiter.held = false ∧ t.ring.topo = s.ring.topo ∧
    egressOf t .a = egressOf s .a ∧ egressOf t .b = egressOf s .b ∧ t.streams = s.streams ∧ t.time = s.time ∧ t.cfg = s.cfg ∧ t.live = s.live ∧ t.boot = s.boot) ∧
  (∀ (p : Port) (w : Waiting) (n q f : Nat) (last held : Bool) (d : List Byte) (s : State), egressOf s p = [w] → egressOf s (otherPort p) = [] →
    w.msg = .record n q f last held d → s.ring.leaving ≠ [] → ∃ t, exec (.egressFrameTx p) s = .next t ∧ t.ring.state = .pass ∧ t.ring.leaving = [] ∧ t.ring.topo = []) ∧
  (∀ (hub : Nat) (s : State), s.ring.state = .joined → ∃ t, exec (.leaveMsgRx hub) s = .next t ∧ (topoAt t hub).present = false ∧
    (∀ e ∈ t.ring.ledger, e.1 ≠ hub) ∧ (tget (0, 0) t.ring.credit hub) = (0, 0) ∧ (∀ h < 64, h ≠ hub → topoAt t h = topoAt s h) ∧
    t.time = s.time ∧ t.cfg = s.cfg ∧ t.live = s.live ∧ t.fret = s.fret ∧ t.boot = s.boot)

/-- A forwarded command that has run is answered again with its stored completion, marked repeated; one that runs is not taken
twice; a new one is handed to Clesin; a gateway turns a completion frame into the completion of its own descriptor, with the
status, the result and the data it brings, and a frame for no command outstanding, or to a hub that is not the gateway, changes
nothing; a command unanswered 200 ms beyond its bound is sent again once, and then completes with TIMEOUT. -/
def Obligations.ForwardedCommands : Prop :=
  (∀ (g term op : Nat) (h : CmdHdr) (c : Completion) (s : State), s.ring.state = .joined → pairActive s = true →
    s.ring.tags.find? (fun e => decide (e.1 = g) && decide (e.2.1 = term) && decide (e.2.2.1 = h.tag)) = some (g, term, h.tag, c) →
    exec (.commandFrameRx g term op h) s =
      .next (sendControl (32 + c.data.length) (some g) (.completion g { remoteOf c with repeated := true }) s)) ∧
  (∀ (g term op : Nat) (h : CmdHdr) (s : State), s.ring.state = .joined → pairActive s = true →
    s.ring.tags.find? (fun e => decide (e.1 = g) && decide (e.2.1 = term) && decide (e.2.2.1 = h.tag)) = none →
    (g, term, h.tag) ∈ s.ring.running → exec (.commandFrameRx g term op h) s = .next s) ∧
  (∀ (g term op : Nat) (h : CmdHdr) (s : State), s.ring.state = .joined → pairActive s = true →
    s.ring.tags.find? (fun e => decide (e.1 = g) && decide (e.2.1 = term) && decide (e.2.2.1 = h.tag)) = none →
    (g, term, h.tag) ∉ s.ring.running → Does (.commandFrameRx g term op h) s { s with
      ring.running := s.ring.running ++ [(g, term, h.tag)]
      host.handed := s.host.handed ++ [{ ring := h.cmdRing, descIdx := h.descIdx, tag := h.tag, opcode := op, idem := h.idem, cplRing := h.cplRing, gateway := some g, since := s.time.cclk, reexec := false }] }) ∧
  (∀ (c : RemoteCompletion) (f : Forwarded) (s : State), outstanding s c.hub c.tag = some f → s.ring.gateway.held = true →
    (f.hdr.cmdRing, f.hdr.descIdx) ∉ s.host.orphans → Does (.completionFrameRx c) s { s with
      ring.forwarded := s.ring.forwarded.filter (fun e => decide (e ≠ f))
      host.handed := s.host.handed.filter (fun e => !(decide (e.ring = f.hdr.cmdRing) && decide (e.descIdx = f.hdr.descIdx) && decide (e.gateway = none)))
      host.waiting := s.host.waiting ++ [{ ring := if completionRing s f.hdr.cplRing then f.hdr.cplRing else 1, tag := f.hdr.tag, opcode := f.opcode, hub := f.hub, forwarded := true, status := c.status, cmdRing := f.hdr.cmdRing, reexecuted := c.reexecuted, repeated := c.repeated, descIdx := f.hdr.descIdx, effectFret := c.effectFret, data := c.data.take f.hdr.dataLen, result := padTo 8 c.result }] }) ∧
  (∀ (c : RemoteCompletion) (s : State), (outstanding s c.hub c.tag = none ∨ s.ring.gateway.held = false) →
    exec (.completionFrameRx c) s = .next s) ∧
  (∀ (hub tag : Nat) (f : Forwarded) (s u : State), outstanding s hub tag = some f → f.resent = false →
    u = toCclk (f.at_ + 80000000 + f.bound) s → Does (.forwardRetryTimeout hub tag) s (sendCommand f
      { u with ring.forwarded := s.ring.forwarded.map (fun e => if e = f then { f with resent := true, at_ := u.time.cclk } else e) })) ∧
  (∀ (hub tag : Nat) (f : Forwarded) (s u : State), outstanding s hub tag = some f → f.resent = true →
    (f.hdr.cmdRing, f.hdr.descIdx) ∉ s.host.orphans → u = toCclk (f.at_ + 80000000 + f.bound) s →
    Does (.forwardRetryTimeout hub tag) s { u with
      ring.forwarded := s.ring.forwarded.filter (fun e => decide (e ≠ f))
      host.handed := s.host.handed.filter (fun e => !(decide (e.ring = f.hdr.cmdRing) && decide (e.descIdx = f.hdr.descIdx) && decide (e.gateway = none)))
      host.waiting := s.host.waiting ++ [{ ring := if completionRing s f.hdr.cplRing then f.hdr.cplRing else 1, tag := f.hdr.tag, opcode := f.opcode, hub := f.hub, forwarded := true, status := 0x0B, cmdRing := f.hdr.cmdRing, reexecuted := false, repeated := false, descIdx := f.hdr.descIdx, effectFret := 0xFFFFFFFF, data := [], result := padTo 8 [] }] }) ∧
  (∀ (hub tag : Nat) (s : State), outstanding s hub tag = none → exec (.forwardRetryTimeout hub tag) s = .next s)

/-- RING_PORT_SET off the ring sets the ring configuration, in effect from the next boundary; ROSTER_SET and ROLE_SET, and
LANE_TX_SET, set both copies of their settings and no others; LANE_INJECT flips one bit of a running generator; LANE_ADAPT
freezes a lane in UP; LANE_TEST with a TARGET waits for its boundary. -/
def Obligations.RingAndLaneSettings : Prop :=
  (∀ (h : CmdHdr) (p : RingPortP) (s : State), Accepts h 0x0801 s → s.ring.state ≠ .listen → s.ring.state ≠ .joined → p.hubId ≤ 63 → p.rate ≤ 1 →
    p.fecA ≤ 1 → p.fecB ≤ 1 → 8 ≤ p.streamReserve → p.streamReserve ≤ 17 → exec (.ringPortSet h p) s = .next (dueAtBoundary h 0x0801 { s with
      cfg.ring := { hubId := p.hubId, rate10G := decide (p.rate = 1), fecA := decide (p.fecA = 1), fecB := decide (p.fecB = 1), etherType := p.etherType, reserve := 64 * p.streamReserve } })) ∧
  (∀ (h : CmdHdr) (hubs : List Nat) (s : State), Accepts h 0x0802 s → s.ring.state ≠ .listen → s.ring.state ≠ .joined →
    Does (.rosterSet h hubs) s (answered h 0x0802 okReply { s with cfg.roster := hubs, live.roster := hubs })) ∧
  (∀ (h : CmdHdr) (ge gp ae ap : Nat) (s : State), Accepts h 0x0803 s → ge ≤ 1 → ae ≤ 1 → Does (.roleSet h ge gp ae ap) s
    (answered h 0x0803 okReply { s with
      cfg.roles := { gwElig := decide (ge = 1), gwPri := gp, arbElig := decide (ae = 1), arbPri := ap }
      live.roles := { gwElig := decide (ge = 1), gwPri := gp, arbElig := decide (ae = 1), arbPri := ap } })) ∧
  (∀ (h : CmdHdr) (l : Nat) (pre main post : Int) (inv : Nat) (s : State), Accepts h 0x0904 s → ringLane l = true → inv ≤ 1 →
    ∃ t, exec (.laneTxSet h l pre main post inv) s = .next t ∧
      tget laneTx0 t.live.laneTx l = { pre := pre, main := main, post := post, inv := decide (inv = 1) } ∧
      tget laneTx0 t.cfg.laneTx l = { pre := pre, main := main, post := post, inv := decide (inv = 1) } ∧
      (∀ k < 6, k ≠ l → tget laneTx0 t.live.laneTx k = tget laneTx0 s.live.laneTx k) ∧ { t.live with laneTx := s.live.laneTx } = s.live ∧
      { t.cfg with laneTx := s.cfg.laneTx } = s.cfg ∧ t.lanes = s.lanes ∧ t.streams = s.streams ∧ t.boot = s.boot) ∧
  (∀ (h : CmdHdr) (l : Nat) (s : State), Accepts h 0x0902 s → ringLane l = true → (laneAt s l).gen = true → Does (.laneInject h l) s
    (answered h 0x0902 okReply (putLane l { laneAt s l with injected := (laneAt s l).injected + 1 } s))) ∧
  (∀ (h : CmdHdr) (l : Nat) (s : State), Accepts h 0x0902 s → ringLane l = true → (laneAt s l).gen = false →
    Does (.laneInject h l) s (answered h 0x0902 okReply s)) ∧
  (∀ (h : CmdHdr) (l fr : Nat) (s : State), Accepts h 0x0903 s → l ≤ 5 → fr ≤ 1 → Does (.laneAdapt h l fr) s
    (answered h 0x0903 okReply (putLane l { laneAt s l with frozen := decide (fr = 1) && decide ((laneAt s l).state = lnUp) } s))) ∧
  (∀ (h : CmdHdr) (p : LaneTestP) (s : State), Accepts h 0x0901 s → laneTestCheck h p s = none → p.hasTarget = 1 →
    exec (.laneTest h p) s = .next (putLane p.lane { laneAt s p.lane with
      test := some { gen := decide (p.role ≠ 1), chk := decide (p.role ≠ 0), pattern := p.pattern, injK := if p.inj = 1 then p.injK else 0, duration := p.duration, startAt := some (targetBoundary 1 p.target s), endAt := 0, hdr := h } } s)) ∧
  (∀ (h : CmdHdr) (p : LaneTestP) (s : State), Accepts h 0x0901 s → laneTestCheck h p s = none → p.hasTarget = 0 →
    ∃ t, exec (.laneTest h p) s = .next t ∧ (laneAt t p.lane).state = lnTest ∧ (laneAt t p.lane).pattern = p.pattern ∧
      (laneAt t p.lane).gen = decide (p.role ≠ 1) ∧ (laneAt t p.lane).chk = decide (p.role ≠ 0) ∧ (laneAt t p.lane).bits = 0 ∧
      linkOf t (lanePortOf p.lane) = false ∧ (∀ n < 128, (streamAt s n).ring = false → streamAt t n = streamAt s n) ∧
      t.cfg = s.cfg ∧ t.live = s.live ∧ t.boot = s.boot)

/-- A ring lane passes PLL, CDR, ADAPT, ALIGN, and FEC where it is on, to UP, and its port's link comes up with it; a stage that
exceeds its bound ends in FAULT with its cause, retried from PLL after 10 ms; a lane in UP that loses lock goes back to the
stage its loss names, its port's link down, a PCIe lane to training; an eye scan keeps the figure of merit; a PRBS checker locks
on 128 consecutive error-free bits and on no others, or loses lock with its totals after 256 errors; a test's end returns the
lane to ADAPT; a trained PCIe link has its lanes UP. -/
def Obligations.LaneEvents : Prop :=
  (∀ (l : Nat) (a : LaneAlign) (s : State), ringLane l = true → (laneAt s l).state = lnPll → exec (.laneStageAdvance l a) s =
    .next (putLane l { laneAt s l with state := lnCdr, entered := s.time.cclk, rate := if s.live.ring.rate10G then 5 else 6, fecOn := fecSet s l } s)) ∧
  (∀ (l : Nat) (a : LaneAlign) (s : State), ringLane l = true →
    (laneAt s l).state = lnCdr → exec (.laneStageAdvance l a) s =
    .next (putLane l { laneAt s l with state := lnAdapt, entered := s.time.cclk, noSignal := false } s)) ∧
  (∀ (l : Nat) (a : LaneAlign) (s : State), ringLane l = true → (laneAt s l).state = lnAdapt → exec (.laneStageAdvance l a) s =
    .next (putLane l { laneAt s l with state := lnAlign, entered := s.time.cclk } s)) ∧
  (∀ (l : Nat) (a : LaneAlign) (s : State), ringLane l = true → (laneAt s l).state = lnFec → exec (.laneStageAdvance l a) s =
    .next (onLinkUp (lanePortOf l) (putLane l { laneAt s l with state := lnUp, entered := s.time.cclk } s))) ∧
  (∀ (l : Nat) (a : LaneAlign) (s : State), ringLane l = true → (laneAt s l).state = lnAlign → (laneAt s l).fecOn = true → exec (.laneStageAdvance l a) s =
    .next (putLane l { laneAt s l with state := lnFec, entered := s.time.cclk, aligned := true, slip := min a.slip 65, polInv := a.inverted, fault := 0 } s)) ∧
  (∀ (l : Nat) (a : LaneAlign) (s : State), ringLane l = true → (laneAt s l).state = lnAlign → (laneAt s l).fecOn = false → exec (.laneStageAdvance l a) s =
    .next (onLinkUp (lanePortOf l) (putLane l { laneAt s l with state := lnUp, entered := s.time.cclk, aligned := true, slip := min a.slip 65, polInv := a.inverted, fault := 0 } s))) ∧
  (∀ (l bound cause : Nat) (s : State), ringLane l = true → stageBound (laneAt s l).state = some (bound, cause) →
    Does (.laneStageTimeout l) s (putLane l { laneAt s l with state := lnFault, fault := faultCause (laneAt s l) cause, aligned := false, entered := (toCclk ((laneAt s l).entered + bound) s).time.cclk } (toCclk ((laneAt s l).entered + bound) s))) ∧
  (∀ (l : Nat) (s : State), (laneAt s l).state = lnFault → ∃ t, exec (.laneFaultRetry l) s = .next t ∧
    laneAt t l = { laneAt s l with state := lnPll, fault := 0, entered := t.time.cclk } ∧
    t.time = (toCclk ((laneAt s l).entered + 4000000) s).time ∧ t.ring = s.ring ∧ t.cfg = s.cfg ∧ t.live = s.live ∧ t.streams = s.streams ∧ t.boot = s.boot) ∧
  (∀ (l : Nat) (x : LaneLoss) (s : State), (laneAt s l).state = lnUp → ∃ t, exec (.laneLockLoss l x) s = .next t ∧
    (laneAt t l).state = (if ringLane l = false then lnTrain else match x with
      | .blockLock => lnAlign
      | .signal => lnCdr
      | .cdr => lnCdr
      | .errorRate => lnAdapt) ∧
    (laneAt t l).aligned = false ∧ (laneAt t l).frozen = false ∧ (laneAt t l).downSeen = true ∧ (ringLane l = true → linkOf t (lanePortOf l) = false) ∧
    (ringLane l = true → x = .signal → (laneAt t l).noSignal = true) ∧ (∀ n < 128, (streamAt s n).ring = false → streamAt t n = streamAt s n) ∧
    t.time = s.time ∧ t.cfg = s.cfg ∧ t.live = s.live ∧ t.boot = s.boot) ∧
  (∀ (l w x : Nat) (s : State), (laneAt s l).state = lnUp → ∃ t, exec (.eyeScanComplete l w x) s = .next t ∧
    (laneAt t l).fom = min 255 (min (4 * w) (2 * x)) ∧ (laneAt t l).scanNo = ((laneAt s l).scanNo + 1) % 256 ∧ (laneAt t l).state = lnUp ∧
    (∀ k < 6, k ≠ l → laneAt t k = laneAt s k) ∧ t.time = (toCclk (scanDue l (laneAt s l)) s).time ∧ t.ring = s.ring ∧ t.cfg = s.cfg ∧ t.live = s.live ∧ t.streams = s.streams ∧ t.boot = s.boot) ∧
  (∀ (r : PrbsBits) (s : State), (laneAt s r.lane).state = lnTest → (laneAt s r.lane).chk = true → checkerLocks (laneAt s r.lane).pattern r.bits = true →
    exec (.prbsCheckerLock r) s = .next (putLane r.lane { laneAt s r.lane with chkLock := true } s)) ∧
  (∀ (r : PrbsBits) (s : State), checkerLocks (laneAt s r.lane).pattern r.bits = false → exec (.prbsCheckerLock r) s = .next s) ∧
  (∀ (l bits errors : Nat) (s : State), (laneAt s l).state = lnTest → (laneAt s l).chkLock = true → (laneAt s l).err + 256 ≤ errors → bits < 2 ^ 48 → errors < 2 ^ 48 →
    exec (.prbsLockLost l bits errors) s = .next (putLane l { laneAt s l with chkLock := false, lockLost := true, bits := bits, err := errors } s)) ∧
  (∀ (l bits errors : Nat) (x : LaneTest) (s : State), (laneAt s l).state = lnTest → (laneAt s l).test = some x →
    ∃ t, exec (.laneTestEnd l bits errors) s = .next t ∧ (laneAt t l).state = lnAdapt ∧ (laneAt t l).test = none ∧ (laneAt t l).gen = false ∧
      t.time = (toCclk x.endAt s).time ∧ (∀ k < 6, k ≠ l → laneAt t k = laneAt s k) ∧ t.cfg = s.cfg ∧ t.live = s.live ∧ t.streams = s.streams ∧ t.boot = s.boot) ∧
  (∀ (rate : Nat) (used inv : List Nat) (rev : Bool) (s : State), s.host.perst = true → ∃ t, exec (.pcieLinkTrained rate used rev inv) s = .next t ∧
    t.host.linkUp = true ∧ (∀ n < 4, n ∈ used → (laneAt t n).state = lnUp ∧ (laneAt t n).rate = rate) ∧
    (∀ n < 4, n ∉ used → (laneAt t n).state = 0) ∧ laneAt t 4 = laneAt s 4 ∧ laneAt t 5 = laneAt s 5 ∧ t.ring = s.ring ∧ t.cfg = s.cfg ∧ t.live = s.live ∧ t.streams = s.streams ∧ t.boot = s.boot)

/-- On an idle line an attempt of the running slot is sent and raises FP_DE, on a busy one it fails with BUS_BUSY; an accepted
response ends the slot's attempts, an exception of the unit too, and any other response, or none within the timeout, fails the
attempt and leaves another where RETRIES allows it; at the slot's end its result goes to the fret in progress and to the trigger
unit 16 CCLK later, and the next slot starts; FP_PORT_SET and FP_DIR_WRITE give exactly their port or entries the settings of
the command. -/
def Obligations.FieldPorts : Prop :=
  (∀ (p : Nat) (s : State), (fpAt s p).running = true → (fpAt s p).done = false → (fpAt s p).sent = false → s.safety.safe = false →
    (toInstant (fpAt s p).slotStart s).time.half + 5 * attemptCclk (fpOf s.live p) (dirAt s.live (slotEntry s p)) ≤ pollEnd s p →
    ∃ t, exec (.fpRequestSend p true) s = .next t ∧ fpAt t p = { fpAt s p with attempts := (fpAt s p).attempts + 1, sent := true, de := true, reqEnd := t.time.half + 5 * sendCclk (fpOf s.live p) (dirAt s.live (slotEntry s p)) } ∧ t.time = (toInstant (fpAt s p).slotStart s).time ∧
      (∀ q < 8, q ≠ p → fpAt t q = fpAt s q) ∧ t.fret = s.fret ∧ t.trig = s.trig ∧ t.cfg = s.cfg ∧ t.live = s.live ∧ t.streams = s.streams ∧ t.boot = s.boot) ∧
  (∀ (p : Nat) (s : State), (fpAt s p).running = true → (fpAt s p).done = false → (fpAt s p).sent = false → s.safety.safe = false →
    ∃ t, exec (.fpRequestSend p false) s = .next t ∧ fpAt t p = { fpAt s p with attempts := (fpAt s p).attempts + 1, sent := false, de := false, last := 7, done := decide ((fpOf s.live p).retries < (fpAt s p).attempts + 1) } ∧ (∀ q < 8, q ≠ p → fpAt t q = fpAt s q) ∧
      t.fret = s.fret ∧ t.trig = s.trig ∧ t.cfg = s.cfg ∧ t.live = s.live ∧ t.streams = s.streams ∧ t.boot = s.boot) ∧
  (∀ (p : Nat) (cs : List Byte) (ok : Bool) (s : State), (fpAt s p).running = true → (fpAt s p).sent = true →
    s.time.half ≤ (fpAt s p).reqEnd + 5 * (400000 * (fpOf s.live p).timeout + fpSilence (fpOf s.live p)) →
    responseStatus (dirAt s.live (slotEntry s p)) cs ok = 0 → ∃ t, exec (.fpResponseComplete p cs ok) s = .next t ∧
      (fpAt t p).sent = false ∧ (fpAt t p).done = true ∧ ((fpAt t p).result.map (fun o => (o.port, o.p, o.attempts)) =
        some (p, slotEntry s p, (fpAt s p).attempts)) ∧ (∀ q < 8, q ≠ p → fpAt t q = fpAt s q) ∧ t.fret = s.fret ∧ t.trig = s.trig ∧ t.cfg = s.cfg ∧ t.live = s.live ∧ t.streams = s.streams ∧ t.boot = s.boot) ∧
  (∀ (p : Nat) (cs : List Byte) (ok : Bool) (s : State), (fpAt s p).running = true → (fpAt s p).sent = true →
    s.time.half ≤ (fpAt s p).reqEnd + 5 * (400000 * (fpOf s.live p).timeout + fpSilence (fpOf s.live p)) →
    responseStatus (dirAt s.live (slotEntry s p)) cs ok = 5 → ∃ t, exec (.fpResponseComplete p cs ok) s = .next t ∧
      fpAt t p = { fpAt s p with sent := false, de := false, done := true, last := 5, exc := charAt cs 2 } ∧
      (∀ q < 8, q ≠ p → fpAt t q = fpAt s q) ∧ t.fret = s.fret ∧ t.trig = s.trig ∧ t.cfg = s.cfg ∧ t.live = s.live ∧ t.streams = s.streams ∧ t.boot = s.boot) ∧
  (∀ (p st : Nat) (cs : List Byte) (ok : Bool) (s : State), (fpAt s p).running = true → (fpAt s p).sent = true →
    s.time.half ≤ (fpAt s p).reqEnd + 5 * (400000 * (fpOf s.live p).timeout + fpSilence (fpOf s.live p)) →
    responseStatus (dirAt s.live (slotEntry s p)) cs ok = st → st ≠ 0 → st ≠ 5 → ∃ t, exec (.fpResponseComplete p cs ok) s = .next t ∧
      fpAt t p = { fpAt s p with sent := false, de := false, last := st, done := decide ((fpOf s.live p).retries < (fpAt s p).attempts) } ∧
      (∀ q < 8, q ≠ p → fpAt t q = fpAt s q) ∧ t.fret = s.fret ∧ t.trig = s.trig ∧ t.cfg = s.cfg ∧ t.live = s.live ∧ t.streams = s.streams ∧ t.boot = s.boot) ∧
  (∀ (p : Nat) (s : State), (fpAt s p).running = true → (fpAt s p).sent = true → ∃ t, exec (.fpResponseTimeout p) s = .next t ∧
    fpAt t p = { fpAt s p with sent := false, de := false, last := 1, done := decide ((fpOf s.live p).retries < (fpAt s p).attempts) } ∧
    t.time = (toInstant ((fpAt s p).reqEnd + 2000000 * (fpOf s.live p).timeout) s).time ∧ t.fret = s.fret ∧ t.trig = s.trig ∧ t.cfg = s.cfg ∧ t.live = s.live ∧ t.streams = s.streams ∧ t.boot = s.boot) ∧
  (∀ (p : Nat) (o : PollOut) (s : State), (fpAt s p).running = true → (fpAt s p).result = some o → o.port = p →
    (fpAt s p).pos + 1 < (fpAt s p).entries.length → (fpOf s.live p).enable = true → ∃ t, exec (.fpSlotEnd p) s = .next t ∧
      t.trig.flight = s.trig.flight ++ [⟨⟨.polled, o.p⟩, o.signed, o.tags, o.inst, o.ready + 80⟩] ∧
      t.fret.gather.map (·.polls) = s.fret.gather.map (fun b => b.polls ++ [o]) ∧ (fpAt t p).pos = (fpAt s p).pos + 1 ∧
      (fpAt t p).slotStart = pollEnd s p ∧ (fpAt t p).running = true ∧ (fpAt t p).attempts = 0 ∧ t.time = (toInstant (pollEnd s p) s).time ∧ t.cfg = s.cfg ∧ t.live = s.live ∧ t.streams = s.streams ∧ t.boot = s.boot) ∧
  (∀ (h : CmdHdr) (p : FpPortP) (s : State), Accepts h 0x0A01 s → fpCheck p s = none → ((fpAt s p.port).running = false ∨ p.enable = 0) →
    ∃ t, exec (.fpPortSet h p) s = .next t ∧ fpOf t.cfg p.port = { enable := decide (p.enable = 1), baud := p.baud, parity := p.parity, slot := p.slot, timeout := p.timeout, retries := p.retries, downAfter := p.downAfter } ∧
      (∀ q < 8, q ≠ p.port → fpOf t.cfg q = fpOf s.cfg q) ∧ { t.cfg with fp := s.cfg.fp } = s.cfg ∧
      { t with cfg := s.cfg } = dueAtBoundary h 0x0A01 s) ∧
  (∀ (h : CmdHdr) (p : FpPortP) (s : State), Accepts h 0x0A01 s → fpCheck p s = none → (fpAt s p.port).running = true → p.enable = 1 →
    Does (.fpPortSet h p) s (answered h 0x0A01 okReply { s with cfg := { s.cfg with fp := tput fpSet0 s.cfg.fp p.port (fpNew p) } })) ∧
  (∀ (h : CmdHdr) (first : Nat) (es : List DirEntry) (s : State), Accepts h 0x0A02 s → dirCheck first es s = none →
    ∃ t, exec (.fpDirWrite h first es) s = .next t ∧ (∀ i < es.length, es[i]? = some (dirAt t.cfg (first + i))) ∧
      (∀ i < 2048, (i < first ∨ first + es.length ≤ i) → dirAt t.cfg i = dirAt s.cfg i) ∧ { t.cfg with dir := s.cfg.dir } = s.cfg ∧
      t.live = s.live ∧ t.streams = s.streams ∧ t.trig = s.trig ∧ t.boot = s.boot)

/-- A FREQ or PWM output starts a period for its word, or at its FAIL level; it goes to the FAIL level when it has seen no valid
word for STALE; a TRIP output whose hold is over is energised again outside the safe state; a feedback finding is noted, with
its alarm, once the output has been 20 µs in the state the finding needs, is not made of an output never so long in that state,
and ends 100 ms after it was last seen; VAL_OUT_SET gives the output its settings for the boundary, GPIO_SET sets the pins at
once. -/
def Obligations.ValueOutputs : Prop :=
  (∀ (n : Nat) (v : Int) (s : State), ((valSetAt s.live n).mode = modeFreq ∨ (valSetAt s.live n).mode = modePwm) → s.safety.safe = false →
    (valAt s n).failWord = false → (valAt s n).word = some v → ∃ t, exec (.valPeriodStart n) s = .next t ∧
      (valAt t n).period = (valWave (valSetAt s.live n) v).1 ∧ (valAt t n).high = (valWave (valSetAt s.live n) v).2 ∧
      (valAt t n).start = t.time.cclk ∧ (valAt t n).atFail = false ∧ (valAt t n).blind = decide (0 < (valAt t n).high ∧ (valAt t n).high < 8000) ∧
      (∀ k < 8, k ≠ n → valAt t k = valAt s k) ∧ t.time = (toInstant (nextPeriod s n) s).time ∧ t.fret = s.fret ∧ t.trig = s.trig ∧ t.cfg = s.cfg ∧ t.live = s.live ∧ t.streams = s.streams ∧ t.boot = s.boot) ∧
  (∀ (n : Nat) (s : State), ((valSetAt s.live n).mode = modeFreq ∨ (valSetAt s.live n).mode = modePwm) → s.safety.safe = false →
    (valAt s n).failWord = true → ∃ t, exec (.valPeriodStart n) s = .next t ∧
      (valAt t n).period = (failWave (valSetAt s.live n)).1 ∧ (valAt t n).high = (failWave (valSetAt s.live n)).2 ∧
      (valAt t n).start = t.time.cclk ∧ (valAt t n).atFail = true ∧ (∀ k < 8, k ≠ n → valAt t k = valAt s k) ∧
      t.time = (toInstant (nextPeriod s n) s).time ∧ t.fret = s.fret ∧ t.trig = s.trig ∧ t.cfg = s.cfg ∧ t.live = s.live ∧ t.streams = s.streams ∧ t.boot = s.boot) ∧
  (∀ (n c : Nat) (s : State), (valAt s n).staleAt = some c → ∃ t, exec (.valStaleTimeout n) s = .next t ∧
    valAt t n = { valAt s n with failWord := true, atFail := true, staleAt := none } ∧ (∀ k < 8, k ≠ n → valAt t k = valAt s k) ∧
    t.time = (toCclk c s).time ∧ t.fret = s.fret ∧ t.trig = s.trig ∧ t.cfg = s.cfg ∧ t.live = s.live ∧ t.streams = s.streams ∧ t.boot = s.boot) ∧
  (∀ (n c : Nat) (s : State), (valAt s n).holdEnd = some c → s.safety.safe = false → (valSetAt s.live n).mode = modeTrip →
    exec (.valTripHoldEnd n) s = .next (putVal n { valAt s n with on := true, tripped := false, holdEnd := none, switched := (toCclk c s).time.cclk } (toCclk c s))) ∧
  (∀ (n c : Nat) (s : State), (valAt s n).holdEnd = some c → s.safety.safe = true →
    exec (.valTripHoldEnd n) s = .next (putVal n { valAt s n with holdEnd := none } (toCclk c s))) ∧
  (∀ (n c : Nat) (s u : State), findingFrom s n .openLoad = some c → u = toCclk (c + 8000) s →
    Does (.valFbFinding n .openLoad) s (putVal n { valAt s n with openLoad := true, openAt := u.time.cclk } u)) ∧
  (∀ (n c : Nat) (s u : State), findingFrom s n .stuckOn = some c → u = toCclk (c + 8000) s →
    Does (.valFbFinding n .stuckOn) s (putVal n { valAt s n with stuckOn := true, stuckAt := u.time.cclk } u)) ∧
  (∀ (n : Nat) (f : FbFinding) (s : State), findingFrom s n f = none → exec (.valFbFinding n f) s = .next s) ∧
  (∀ (n : Nat) (s : State), (valAt s n).openLoad = true → Does (.valDiagClear n .openLoad) s
    (putVal n { valAt s n with openLoad := false } (toCclk ((valAt s n).openAt + 40000000) s))) ∧
  (∀ (n : Nat) (s : State), (valAt s n).stuckOn = true → Does (.valDiagClear n .stuckOn) s
    (putVal n { valAt s n with stuckOn := false } (toCclk ((valAt s n).stuckAt + 40000000) s))) ∧
  (∀ (h : CmdHdr) (p : ValOutP) (s : State), Accepts h 0x0B01 s → valOutCheck p s = none → ∃ t, exec (.valOutSet h p) s = .next t ∧
    valSetAt t.cfg p.out = { mode := p.mode, safety := decide (p.safety = 1), src := p.src, comb := if p.comb = 0xFF then none else some p.comb, hold := p.hold, lo := p.lo, hi := p.hi, pulse := p.pulse, fail := p.fail, stale := p.stale } ∧
    (∀ k < 8, k ≠ p.out → valSetAt t.cfg k = valSetAt s.cfg k) ∧ { t.cfg with val := s.cfg.val } = s.cfg ∧ p.out ∈ t.loc.valSet ∧
    { t with cfg := s.cfg, loc.valSet := s.loc.valSet } = dueAtBoundary h 0x0B01 s) ∧
  (∀ (h : CmdHdr) (dir out od : Nat) (s : State), Accepts h 0x0B02 s → Does (.gpioSet h dir out od) s
    (answered h 0x0B02 okReply { s with cfg.gpio := { dir := dir, out := out, od := od }, live.gpio := { dir := dir, out := out, od := od } }))

/-- A cause of R467 outside the safe state enters it: the cause is FIRST and the only one seen, the value outputs are
de-energised, every FP_DE is low, every rail is at no voltage and every course driver off, PPS_OUT is low, ALARM_N is asserted,
gathering stops; time, boot state and triggers' settings stay. In the safe state a cause only adds its bit to those seen, and
takes FIRST from a forced entry of the same CCLK. -/
def Obligations.SafeStateEntry : Prop :=
  (∀ (i : Instr) (c : Nat) (s : State),
    (i, c) ∈ [(Instr.safeForce, 10), (.configParityError, 8), (.residueMismatch, 9), (.clockLoss .refclk, 1), (.clockLoss .cclk, 2)] →
    s.safety.safe = false → ∃ t, exec i s = .next t ∧ t.safety.safe = true ∧ t.safety.first = c ∧ t.safety.seen = [c] ∧
      t.safety.stamp = nowStamp s ∧ (∀ n < 8, (valAt t n).on = false ∧ (valAt t n).high = 0) ∧ (∀ p < 8, (fpAt t p).de = false) ∧
      (∀ e < 16, (railLive t e).voltage = 0) ∧ (∀ k < 32, (courseOf t.live k).driver = true → (courseAt t k).driverOn = false) ∧
      t.loc.pps = false ∧ t.loc.alarmN = true ∧ t.fret.acquiring = false ∧ t.fret.gather = none ∧ t.time = s.time ∧ t.boot = s.boot ∧
      t.live.units = s.live.units) ∧
  (∀ (n v : Nat) (s : State), s.safety.safe = false → ∃ t, exec (.hubSupplyFault n v) s = .next t ∧ t.safety.safe = true ∧
      t.safety.first = 6 ∧ t.safety.seen = [6] ∧ 6 ∈ t.safety.present ∧ n ∈ t.safety.suppliesOut ∧
      (∀ k < 8, (valAt t k).on = false ∧ (valAt t k).high = 0) ∧ (∀ e < 16, (railLive t e).voltage = 0) ∧
      t.loc.alarmN = true ∧ t.fret.acquiring = false ∧ t.time = s.time ∧ t.boot = s.boot) ∧
  (∀ (d : Nat) (v : Int) (s : State), 115 < v → s.safety.safe = false → ∃ t, exec (.tempHigh d v) s = .next t ∧ t.safety.safe = true ∧
      t.safety.first = 7 ∧ t.safety.seen = [7] ∧ 7 ∈ t.safety.present ∧
      (∀ k < 8, (valAt t k).on = false ∧ (valAt t k).high = 0) ∧ (∀ e < 16, (railLive t e).voltage = 0) ∧
      t.loc.alarmN = true ∧ t.fret.acquiring = false ∧ t.time = s.time ∧ t.boot = s.boot) ∧
  (∀ (i : Instr) (c : Nat) (s : State),
    (i, c) ∈ [(Instr.safeForce, 10), (.configParityError, 8), (.residueMismatch, 9), (.clockLoss .refclk, 1), (.clockLoss .cclk, 2)] →
    s.safety.safe = true → ∃ t, exec i s = .next t ∧
      t.safety.seen = (if s.safety.seen.contains c then s.safety.seen else s.safety.seen ++ [c]) ∧
      t.safety.first = (if s.safety.first = 10 ∧ s.safety.enteredAt = s.time.cclk then c else s.safety.first) ∧
      t.safety.safe = true ∧ t.safety.stamp = s.safety.stamp ∧ t.fret = s.fret ∧ t.fe = s.fe ∧ t.loc = s.loc ∧ t.time = s.time ∧
      t.host = s.host ∧ t.ring = s.ring ∧ t.trig = s.trig ∧ t.cfg = s.cfg ∧ t.live = s.live ∧ t.streams = s.streams ∧ t.boot = s.boot)

/-- A clock, a supply or a temperature that is back ends its cause's condition; an FE supply or a die link isolates its die at the
next boundary; a temperature above 105 and up to 115 degrees, a double-bit SRAM error and a window of the time cross-check are
noted; the close of the safe state marks it closed and raises its alarm, that of a lost clock closing nothing yet; SAFE_RECOVER
leaves at the next boundary, or is refused by the wrong key or by a cause that bars it. -/
def Obligations.SafetyMonitor : Prop :=
  (∀ (k : ClockName) (s : State), exec (.clockRestored k) s = .next { s with
    safety.clockLost := s.safety.clockLost.filter (fun x => decide (x ≠ k))
    safety.present := s.safety.present.filter (fun x => decide (x ≠ clockCode k)) }) ∧
  (∀ (n : Nat) (s : State), (∃ x ∈ s.safety.suppliesOut, x < 6 ∧ x ≠ n) → Does (.hubSupplyRestored n) s
    { s with safety.suppliesOut := s.safety.suppliesOut.filter (fun x => decide (x ≠ n)) }) ∧
  (∀ (n : Nat) (s : State), (∀ x ∈ s.safety.suppliesOut, x < 6 → x = n) → Does (.hubSupplyRestored n) s
    { s with safety.suppliesOut := s.safety.suppliesOut.filter (fun x => decide (x ≠ n)), safety.present := s.safety.present.filter (fun x => decide (x ≠ 6)) }) ∧
  (∀ (n v : Nat) (s : State), (dieAt s (dieOfSupply n)).isolated = none → ∃ t, exec (.feSupplyFault n v) s = .next t ∧
    dieAt t (dieOfSupply n) = { dieAt s (dieOfSupply n) with isoWait := some .supply } ∧ n ∈ t.safety.suppliesOut ∧
    (∀ k < 4, k ≠ dieOfSupply n → dieAt t k = dieAt s k) ∧ t.fret = s.fret ∧ t.time = s.time ∧ t.trig = s.trig ∧ t.cfg = s.cfg ∧ t.live = s.live ∧ t.streams = s.streams ∧ t.boot = s.boot) ∧
  (∀ (d : Nat) (s : State), (dieAt s d).isolated = none → ∃ t, exec (.dieLinkFault d) s = .next t ∧
    dieAt t d = { dieAt s d with linkErrors := (dieAt s d).linkErrors + 1, isoWait := some .link } ∧
    (∀ k < 4, k ≠ d → dieAt t k = dieAt s k) ∧ t.safety = s.safety ∧ t.fret = s.fret ∧ t.time = s.time ∧ t.trig = s.trig ∧ t.cfg = s.cfg ∧ t.live = s.live ∧ t.streams = s.streams ∧ t.boot = s.boot) ∧
  (∀ (d : Nat) (v : Int) (s : State), d < 4 → v ≤ 115 → ∃ t, exec (.tempHigh d v) s = .next t ∧
    dieAt t d = { dieAt s d with temp := v, tempHigh := decide (105 < v) } ∧ (∀ k < 4, k ≠ d → dieAt t k = dieAt s k) ∧
    t.safety = s.safety ∧ t.fret = s.fret ∧ t.time = s.time ∧ t.trig = s.trig ∧ t.cfg = s.cfg ∧ t.live = s.live ∧ t.streams = s.streams ∧ t.boot = s.boot) ∧
  (∀ (v : Int) (s : State), v ≤ 115 → Does (.tempHigh 4 v) s { s with safety.hubTemp := v, safety.hubHot := decide (105 < v) }) ∧
  (∀ (v : Int) (s : State), v < 100 → (∀ k < 4, (dieAt s k).temp < 100) → Does (.tempRecovered 4 v) s { s with
    safety.hubTemp := v, safety.hubHot := false, safety.present := s.safety.present.filter (fun x => decide (x ≠ 7)) }) ∧
  (∀ (d : Nat) (v : Int) (s : State), d < 4 → ∃ t, exec (.tempRecovered d v) s = .next t ∧
    dieAt t d = { dieAt s d with temp := v, tempHigh := decide (105 < v) } ∧ (∀ k < 4, k ≠ d → dieAt t k = dieAt s k) ∧
    t.safety = { s.safety with present := if s.safety.hubTemp < 100 ∧ v < 100 ∧ (List.range 4).all (fun k => decide (k = d ∨ (dieAt s k).temp < 100)) = true then s.safety.present.filter (fun x => decide (x ≠ 7)) else s.safety.present } ∧
    t.fret = s.fret ∧ t.time = s.time ∧ t.trig = s.trig ∧ t.cfg = s.cfg ∧ t.live = s.live ∧ t.streams = s.streams ∧ t.boot = s.boot) ∧
  (∀ (w : Nat) (s : State), Does (.sramUe w) s { s with safety.sramSeen := true }) ∧
  (∀ (edges : Nat) (s : State), 1000000 * ((edges * 2 ^ 43 : Nat) - (16000000 * s.time.inc : Nat) : Int).natAbs ≤ 16000000 * s.time.inc →
    Does (.timeXcheckWindow edges) s { toCclk (s.safety.xcheckAt + edges) s with
      safety.xcheckRun := 0, safety.xcheckAt := (toCclk (s.safety.xcheckAt + edges) s).time.cclk }) ∧
  (∀ (edges : Nat) (s : State), 16000000 * s.time.inc < 1000000 * ((edges * 2 ^ 43 : Nat) - (16000000 * s.time.inc : Nat) : Int).natAbs →
    Does (.timeXcheckWindow edges) s { toCclk (s.safety.xcheckAt + edges) s with safety.xcheckAt := (toCclk (s.safety.xcheckAt + edges) s).time.cclk, safety.xcheckRun := s.safety.xcheckRun + 1, safety.xcheck := s.safety.xcheck || decide (1 ≤ s.safety.xcheckRun) }) ∧
  (∀ (s : State), s.safety.closeDue = false → exec .safeStateClose s = .next s) ∧
  (∀ (s : State), s.safety.closeDue = true → s.safety.safe = true → clockCause s = false → ∃ t, exec .safeStateClose s = .next t ∧
    t.safety = { s.safety with closeDue := false, closed := true } ∧ (0x0B01, 0) ∈ t.host.alarms ∧
    t.fret.closing = s.fret.closing.filter (fun b => !b.gathered) ∧ t.time = (toCclk s.fret.closeAt s).time ∧ t.cfg = s.cfg ∧
    t.live = s.live ∧ t.boot = s.boot) ∧
  (∀ (s : State), s.safety.closeDue = true → s.safety.safe = true → clockCause s = true →
    Does .safeStateClose s { toCclk s.fret.closeAt s with safety.closeDue := false }) ∧
  (∀ (h : CmdHdr) (s : State), Accepts h 0x0C02 s → s.safety.safe = true → recoverBar s = none → s.safety.leaveHdr = none →
    exec (.safeRecover h 0x5AFE5AFE) s = .next { s with safety.leaveHdr := some h }) ∧
  (∀ (h g : CmdHdr) (s : State), Accepts h 0x0C02 s → s.safety.safe = true → recoverBar s = none → s.safety.leaveHdr = some g →
    exec (.safeRecover h 0x5AFE5AFE) s = .next (dueAtBoundary h 0x0C02 s)) ∧
  (∀ (h : CmdHdr) (s : State), Accepts h 0x0C02 s → s.safety.safe = false → recoverBar s = none →
    Does (.safeRecover h 0x5AFE5AFE) s (answered h 0x0C02 okReply s)) ∧
  (∀ (h : CmdHdr) (c : Nat) (s : State), Accepts h 0x0C02 s → recoverBar s = some c →
    Does (.safeRecover h 0x5AFE5AFE) s (answered h 0x0C02 (refusedState 8 c) s)) ∧
  (∀ (h : CmdHdr) (key : Nat) (s : State), Accepts h 0x0C02 s → key ≠ 0x5AFE5AFE →
    Does (.safeRecover h key) s (answered h 0x0C02 (badParam 28) s))

/-- A cause of R411 fences the ACTIVE pair 2 CCLK later for 100 ms: READY is clear, the staging buffer and waiting events are
lost; a STANDBY pair starts 8 CCLK on, with 40 ms to take over, and with no standby the hub enters its safe state with cause 4.
A STARTING pair's fence is cause 5; in a drill or a commit it brings the halted pair back. With no pair running the cause does
nothing; a watchdog on an EXPIRED slot resets the hub. -/
def Obligations.Fences : Prop :=
  (∀ (i : Instr) (c : Nat) (p : Pair) (s : State),
    (i, c) ∈ [(Instr.lockstepDivergence, 1), (.watchdogExpiry, 2), (.pairSramUe, 3), (.busErrorTimeout, 4), (.clesinFatalCheck, 6)] →
    (i = .watchdogExpiry → runningExpired s = false) → pairIn .active s = some p → (pairOf s (otherPair p)).state = .standby →
    ∃ t, exec i s = .next t ∧ (pairOf t p).state = .fenced ∧ (pairOf t p).holdEnd = s.time.cclk + 40000002 ∧
      (pairOf t p).fails = (pairOf s p).fails ∧ pairOf t (otherPair p) = { pairOf s (otherPair p) with state := .starting } ∧
      t.pairs.startDeadline = some (s.time.cclk + 16000010) ∧ t.host.ready = false ∧ t.pairs.lastCause = c ∧ t.pairs.fenceSeen = true ∧
      t.pairs.fencedAt = s.time.cclk + 2 ∧ t.pairs.staging = [] ∧ t.pairs.waitingEvents = [] ∧ (0x0901, pairNo p) ∈ t.host.alarms ∧
      t.time.cclk = s.time.cclk + 10 ∧ t.safety = s.safety ∧ t.fret = s.fret ∧ t.trig = s.trig ∧ t.cfg = s.cfg ∧ t.live = s.live ∧ t.boot = s.boot) ∧
  (∀ (i : Instr) (c : Nat) (p : Pair) (s : State),
    (i, c) ∈ [(Instr.lockstepDivergence, 1), (.watchdogExpiry, 2), (.pairSramUe, 3), (.busErrorTimeout, 4), (.clesinFatalCheck, 6)] →
    (i = .watchdogExpiry → runningExpired s = false) → pairIn .active s = some p → (pairOf s (otherPair p)).state ≠ .standby →
    ∃ t, exec i s = .next t ∧ (pairOf t p).state = .fenced ∧ t.safety.safe = true ∧ 4 ∈ t.safety.seen ∧
      (s.safety.safe = false → t.safety.first = 4) ∧ t.host.ready = false ∧ t.pairs.lastCause = c ∧ t.time.cclk = s.time.cclk + 2 ∧ t.boot = s.boot) ∧
  (∀ (i : Instr) (c : Nat) (p : Pair) (s : State),
    (i, c) ∈ [(Instr.lockstepDivergence, 1), (.watchdogExpiry, 2), (.pairSramUe, 3), (.busErrorTimeout, 4), (.clesinFatalCheck, 6)] →
    (i = .watchdogExpiry → runningExpired s = false) → pairIn .active s = none → pairIn .starting s = some p → s.pairs.stage ≠ .taking →
    ∃ t, exec i s = .next t ∧ (pairOf t p).state = .fenced ∧ t.safety.safe = true ∧ 5 ∈ t.safety.seen ∧
      (s.safety.safe = false → t.safety.first = 5) ∧ t.pairs.startDeadline = none ∧ t.pairs.lastCause = c ∧ t.boot = s.boot) ∧
  (∀ (i : Instr) (c : Nat) (p : Pair) (s : State),
    (i, c) ∈ [(Instr.lockstepDivergence, 1), (.watchdogExpiry, 2), (.pairSramUe, 3), (.busErrorTimeout, 4), (.clesinFatalCheck, 6)] →
    (i = .watchdogExpiry → runningExpired s = false) → pairIn .active s = none → pairIn .starting s = some p → s.pairs.stage = .taking →
    ∃ t, exec i s = .next t ∧ (pairOf t p).state = .fenced ∧ (pairOf t (otherPair p)).state = .active ∧ t.host.ready = true ∧
      t.pairs.lastActive = otherPair p ∧ t.pairs.startDeadline = none ∧ t.pairs.stage = .none ∧
      (s.pairs.commitSwap = false → t.pairs.drillHdr = none ∧ t.boot = s.boot)) ∧
  (∀ (i : Instr) (s : State), i ∈ [Instr.lockstepDivergence, .watchdogExpiry, .pairSramUe, .busErrorTimeout, .clesinFatalCheck] →
    pairIn .active s = none → pairIn .starting s = none → exec i s = .next s) ∧
  (∀ (s : State), runningExpired s = true → ((pairIn .active s).isSome = true ∨ (pairIn .starting s).isSome = true) →
    exec .watchdogExpiry s = .next (hubReset s))

/-- A checkpoint every 10 ms goes into the slots in turn; a takeover that reads a slot and passes its steps makes its pair ACTIVE
and Clesin ready, with the servo's history as the checkpoint has it, counts a failover, or in a drill sends the halted pair to
its self-test; one that fails, or lasts 40 ms, is cause 5; a fence's hold ends in a self-test, which ends in STANDBY, FENCED or
DISABLED and ends a drill; SWAP_DRILL quiesces, takes a checkpoint and halts at the next boundary. -/
def Obligations.PairEvents : Prop :=
  (∀ (w : Bool) (a : Nat) (p : Pair) (s : State), pairIn .active s = some p → s.fret.idx * period2 s % 20000000 = 0 →
    Does (.checkpoint w a) s { s with
      pairs.ckptNo := (s.pairs.ckptNo + 1) % 2 ^ 32, pairs.toSlotB := !s.pairs.toSlotB
      pairs.slotA := if s.pairs.toSlotB then s.pairs.slotA else if w then some (ckptOf ((s.pairs.ckptNo + 1) % 2 ^ 32) s) else none
      pairs.slotB := if s.pairs.toSlotB then (if w then some (ckptOf ((s.pairs.ckptNo + 1) % 2 ^ 32) s) else none) else s.pairs.slotB }) ∧
  (∀ (p : Pair) (d : Nat) (s : State), pairIn .starting s = some p → s.pairs.startDeadline = some d → s.pairs.stage ≠ .taking →
    ∃ t, exec .startingTimeout s = .next t ∧ t.safety.safe = true ∧ 5 ∈ t.safety.seen ∧ (s.safety.safe = false → t.safety.first = 5) ∧
      t.pairs.startDeadline = none ∧ (pairOf t p).state = .starting ∧ t.time = (toCclk d s).time ∧ t.boot = s.boot) ∧
  (∀ (p : Pair) (d : Nat) (s : State), pairIn .starting s = some p → s.pairs.startDeadline = some d → s.pairs.stage = .taking →
    ∃ t, exec .startingTimeout s = .next t ∧ (pairOf t p).state = .fenced ∧ (pairOf t (otherPair p)).state = .active ∧
      t.host.ready = true ∧ t.pairs.lastActive = otherPair p ∧ t.pairs.startDeadline = none ∧ t.pairs.stage = .none ∧
      t.time = (toCclk d s).time ∧ t.safety = s.safety) ∧
  (∀ (r : TakeoverRead) (p : Pair) (d : Nat) (slot : Nat × Nat) (s : State), pairIn .starting s = some p → s.boot.up = true →
    s.pairs.startDeadline = some d → s.pairs.fencedAt + 400 * r.micros ≤ d → slotUsed r s = some slot → r.stepsOk = true →
    s.pairs.stage ≠ .taking → ∃ t, exec (.takeover r) s = .next t ∧ (pairOf t p).state = .active ∧ pairOf t (otherPair p) = pairOf s (otherPair p) ∧
      t.host.ready = true ∧ t.pairs.lastActive = p ∧ t.pairs.startDeadline = none ∧ t.pairs.failovers = min 65535 (s.pairs.failovers + 1) ∧
      t.time = (toCclk (s.pairs.fencedAt + 400 * r.micros) s).time ∧ t.safety = s.safety ∧ t.fret = s.fret ∧ { t.trig with merges := [] } = { s.trig with merges := [] } ∧
      (∀ k, (if slot.1 = 0 then s.pairs.slotA else s.pairs.slotB) = some k → t.ptp.incHist = k.incHist ∧ t.ptp.goodSyncs = k.goodSyncs) ∧
      t.cfg = s.cfg ∧ t.live = s.live ∧ t.streams = s.streams) ∧
  (∀ (r : TakeoverRead) (p : Pair) (d : Nat) (slot : Nat × Nat) (s : State), pairIn .starting s = some p → s.boot.up = true →
    s.pairs.startDeadline = some d → s.pairs.fencedAt + 400 * r.micros ≤ d → slotUsed r s = some slot → r.stepsOk = true →
    s.pairs.stage = .taking → ∃ t, exec (.takeover r) s = .next t ∧ (pairOf t p).state = .active ∧
      (pairOf t (otherPair p)).state = .selftest ∧ t.host.ready = true ∧ t.pairs.lastActive = p ∧ t.pairs.startDeadline = none ∧
      t.pairs.stage = .oldTest ∧ t.pairs.drillMicros = r.micros ∧ t.pairs.failovers = s.pairs.failovers ∧
      (s.pairs.commitSwap = false → t.boot = s.boot) ∧ t.safety = s.safety ∧ t.fret = s.fret ∧ { t.trig with merges := [] } = { s.trig with merges := [] }) ∧
  (∀ (r : TakeoverRead) (p : Pair) (d : Nat) (s : State), pairIn .starting s = some p → s.boot.up = true →
    s.pairs.startDeadline = some d → s.pairs.fencedAt + 400 * r.micros ≤ d → (slotUsed r s = none ∨ r.stepsOk = false) →
    s.pairs.stage ≠ .taking → ∃ t, exec (.takeover r) s = .next t ∧ (pairOf t p).state = .fenced ∧ t.safety.safe = true ∧
      5 ∈ t.safety.seen ∧ t.pairs.startDeadline = none ∧ t.boot = s.boot) ∧
  (∀ (p : Pair) (s : State), (pairOf s p).state = .fenced →
    exec (.fenceHoldEnd p) s = .next (putPair p { pairOf s p with state := .selftest } (toCclk (pairOf s p).holdEnd s))) ∧
  (∀ (p : Pair) (s : State), (pairOf s p).state = .selftest → s.pairs.stage ≠ .oldTest →
    Does (.pairSelftestEnd p .pass) s (putPair p { pairOf s p with
      fails := 0, state := if 3 ≤ ((pairOf s p).fences.filter (fun c => decide (s.time.cclk < c + 34560000000000))).length then .disabled else .standby } s)) ∧
  (∀ (p : Pair) (part : Nat) (s : State), (pairOf s p).state = .selftest → s.pairs.stage ≠ .oldTest →
    ((pairOf s p).fences.filter (fun c => decide (s.time.cclk < c + 34560000000000))).length < 3 →
    Does (.pairSelftestEnd p (.fail part)) s (putPair p { pairOf s p with
      fails := (pairOf s p).fails + 1, holdEnd := s.time.cclk + 40000000
      state := if 1 ≤ (pairOf s p).fails then .disabled else .fenced } { s with pairs.failCount := min 255 (s.pairs.failCount + 1) })) ∧
  (∀ (p : Pair) (o : SelfTest) (s : State), (pairOf s p).state = .selftest → s.pairs.stage = .oldTest → s.pairs.commitSwap = false →
    ∃ t, exec (.pairSelftestEnd p o) s = .next t ∧ t.pairs.stage = .none ∧ t.pairs.drillHdr = none ∧
      t.pairs.drills = min 255 (s.pairs.drills + 1) ∧ (pairOf t p).state ≠ .selftest ∧ pairOf t (otherPair p) = pairOf s (otherPair p) ∧
      t.fret = s.fret ∧ t.trig = s.trig ∧ t.safety = s.safety ∧ t.cfg = s.cfg ∧ t.live = s.live ∧ t.streams = s.streams ∧ t.boot = s.boot) ∧
  (∀ (h : CmdHdr) (s : State), Accepts h 0x0C01 s → drillCheck h s = none → exec (.swapDrill h) s = .next { s with
    pairs.stage := .quiescing, pairs.drillStart := s.time.cclk, pairs.drillHdr := some h }) ∧
  (∀ (h : CmdHdr) (s : State), Accepts h 0x0C01 s → pairIn .standby s = none →
    Does (.swapDrill h) s (answered h 0x0C01 (refusedState 13 0) s)) ∧
  (∀ (s : State), s.pairs.stage = .quiescing → quiesced s = true →
    exec .drillQuiesced s = .next { takeCheckpoint true s with pairs.stage := .haltDue }) ∧
  (∀ (s : State), s.pairs.stage = .quiescing → exec .drillQuiesceTimeout s =
    .next { takeCheckpoint true (toCclk (s.pairs.drillStart + 40000000) s) with pairs.stage := .haltDue }) ∧
  (∀ (s : State), s.pairs.stage ≠ .quiescing → exec .drillQuiesced s = .next s ∧ exec .drillQuiesceTimeout s = .next s)

/-- At a fret boundary the next fret opens: accepted settings take effect, commands that waited for it complete with its index,
the frets processed fall due to close 128 CCLK later, a waiting stop ends acquisition. A late engine is a fret overrun, cause 3;
a large step reloads the time and regrids; SAFE_RECOVER leaves the safe state; without CCLK there is no boundary. RECORD_CLOSE
closes what is due; EPOCH_DUE notes its instant; ACQ_START and ACQ_STOP wait for their boundary; RESET_HUB completes and the hub
owes a reset. -/
def Obligations.FretBoundaries : Prop :=
  (∀ (late : Bool) (s : State), ClockName.cclk ∈ s.safety.clockLost → exec (.fretBoundary late) s = .next s) ∧
  (∀ (s : State), ClockName.cclk ∉ s.safety.clockLost → s.safety.safe = false → s.time.reload = none → s.time.step.natAbs ≤ 40 →
    s.cfg.period = s.live.period → ∃ t, exec (.fretBoundary false) s = .next t ∧ t.fret.idx = s.fret.idx + 1 ∧
      t.fret.boundary = period2 s * (s.fret.idx + 1) ∧ t.fret.closeDue = true ∧ t.fret.regrid = false ∧ t.fret.atBoundary = [] ∧
      t.time.cclk = (toInstant (period2 s * (s.fret.idx + 1)) s).time.cclk ∧ t.fret.closeAt = t.time.cclk + 128 ∧
      (s.time.step = 0 → t.time.half = (toInstant (period2 s * (s.fret.idx + 1)) s).time.half) ∧
      t.live.conds = s.cfg.conds ∧ t.live.combs = s.cfg.combs ∧ t.live.units = s.cfg.units ∧ t.live.dyn = s.cfg.dyn ∧
      t.live.rails = s.cfg.rails ∧ t.live.val = s.cfg.val ∧ t.live.period = s.cfg.period ∧
      (s.fret.startAt = [] → t.fret.acquiring = (s.fret.acquiring && !s.fret.stopAt)) ∧
      (s.host.orphans = [] → ∀ e ∈ s.fret.atBoundary, e.1.gateway = none →
        ∃ c ∈ t.host.waiting, c.tag = e.1.tag ∧ c.opcode = e.2 ∧ c.status = 0 ∧ c.effectFret = (s.fret.idx + 1) % 2 ^ 32)) ∧
  (∀ (s : State), ClockName.cclk ∉ s.safety.clockLost → s.safety.safe = false → s.safety.leaveHdr = none →
    ∃ t, exec (.fretBoundary true) s = .next t ∧ t.safety.safe = true ∧ t.safety.first = 3 ∧ t.safety.seen = [3] ∧
      t.safety.closeDue = false ∧ t.fret.acquiring = false ∧ t.fret.gather = none) ∧
  (∀ (t2 : Nat) (s : State), ClockName.cclk ∉ s.safety.clockLost → s.safety.safe = false → s.time.reload = some t2 →
    ∃ t, exec (.fretBoundary false) s = .next t ∧ t.time.half = t2 ∧ t.fret.idx = t2 / period2 s ∧
      t.fret.boundary = t2 / period2 s * period2 s ∧ t.fret.regrid = true ∧ t.fret.gather = none ∧ t.time.reload = none ∧
      t.ptp.largeSteps = s.ptp.largeSteps + 1 ∧ (∀ e ∈ t.fret.atBoundary, e.2 ≠ 0x0101 ∧ e.2 ≠ 0x0102) ∧ t.cfg.units = s.cfg.units ∧
      t.live.units = s.live.units) ∧
  (∀ (h : CmdHdr) (s : State), ClockName.cclk ∉ s.safety.clockLost → s.safety.safe = true → s.time.reload = none →
    s.time.step.natAbs ≤ 40 → s.safety.leaveHdr = some h → recoverBar s = none → ∃ t, exec (.fretBoundary false) s = .next t ∧
      t.safety.safe = false ∧ t.safety.first = 0 ∧ t.safety.leaveHdr = none ∧ (∀ n < 8, (valSetAt t.live n).mode = 0) ∧
      t.fret.gather.isSome = true ∧ (h.gateway = none → s.host.orphans = [] →
        ∃ c ∈ t.host.waiting, c.tag = h.tag ∧ c.opcode = 0x0C02 ∧ c.status = 0)) ∧
  (∀ (s : State), (s.fret.closeDue = false ∨ s.safety.safe = true) → exec .recordClose s = .next s) ∧
  (∀ (s : State), s.fret.closeDue = true → s.safety.safe = false → ∃ t, exec .recordClose s = .next t ∧ t.fret.closeDue = false ∧
    t.fret.closing = s.fret.closing.filter (fun x => !x.due) ∧ t.time = (toCclk s.fret.closeAt s).time ∧ t.fret.idx = s.fret.idx ∧
    (∀ x ∈ s.fret.closing, s.fret.closing.length = 1 → x.due = true → x.gathered = true → x.era = s.hist.era → t.hist.upTo = x.idx + 1) ∧ t.cfg = s.cfg ∧ t.live = s.live ∧
    t.boot = s.boot ∧ t.safety = s.safety) ∧
  (∀ (x : FretBuf) (s : State), s.safety.safe = false → s.fret.gather = some x → (epochInstant s / 2, 0) ∉ x.epochs →
    exec .epochDue s = .next { toInstant (epochInstant s) s with fret.gather := some { x with epochs := x.epochs ++ [(epochInstant s / 2, 0)] } }) ∧
  (∀ (s : State), (s.safety.safe = true ∨ s.fret.gather = none) → exec .epochDue s = .next (toInstant (epochInstant s) s)) ∧
  (∀ (h : CmdHdr) (has target : Nat) (s : State), Accepts h 0x0003 s → acqStartCheck has target s = none → stillRunning s = false →
    exec (.acqStart h has target) s = .next { s with fret.startAt := s.fret.startAt ++ [(targetBoundary has target s, h)] }) ∧
  (∀ (h : CmdHdr) (has target : Nat) (s : State), Accepts h 0x0003 s → has ≤ 1 → stillRunning s = true →
    Does (.acqStart h has target) s (answered h 0x0003 okReply s)) ∧
  (∀ (h : CmdHdr) (s : State), Accepts h 0x0004 s → s.fret.acquiring = true →
    exec (.acqStop h) s = .next (dueAtBoundary h 0x0004 { s with fret.stopAt := true })) ∧
  (∀ (h : CmdHdr) (s : State), Accepts h 0x0004 s → s.fret.acquiring = false → Does (.acqStop h) s (answered h 0x0004 okReply s)) ∧
  (∀ (h : CmdHdr) (s : State), Accepts h 0x0005 s → Does (.resetHub h 0x0D1E0D1E) s { answered h 0x0005 okReply s with boot.resetDue := true }) ∧
  (∀ (h : CmdHdr) (key : Nat) (s : State), Accepts h 0x0005 s → key ≠ 0x0D1E0D1E →
    Does (.resetHub h key) s (answered h 0x0005 (badParam 28) s))

/-- Power-on reset and RESET_N put the hub in its reset state, with its boot flash and boot control block kept; release tries the
preferred slot, then the other: a CONFIRMED slot with a valid image boots, a TRIAL slot that has not booted is marked and boots,
and with no slot the hub is in recovery mode; the boot control block is the copy that can be read, copy 1 where copy 0 cannot
and then perhaps the block before its last update, and with neither copy no slot boots; the boot's end, within its bound, takes
the board table's settings, the strobe delay at the centre of the passing range among them, makes the starting pair ACTIVE, sets
READY and starts the ring lanes. -/
def Obligations.BootAndReset : Prop :=
  (∀ (i : Instr) (s : State), i ∈ [Instr.powerOnReset, .resetAssert] → exec i s = .next { State.reset with
    boot := { State.reset.boot with flash := s.boot.flash, bcb := s.boot.bcb, bcbOld := s.boot.bcbOld, inReset := true }
    host.perst := s.host.perst, loc.gpio := s.loc.gpio, loc.syncIn := s.loc.syncIn, loc.reserve := s.loc.reserve, fresh := s.fresh, sent := s.sent, pending := s.pending }) ∧
  (∀ (f : BootFindings) (n : Nat) (s : State), s.boot.resetDue = false → (s.boot.inReset = true ∨ s.boot.resetAt = none) →
    (f.copy0Whole = true ∨ (f.copy1Whole = true ∧ f.copy1Old = false)) → f.p0Passes = true → (pairIn .starting s).isSome = true → n = b2n s.boot.bcb.preferB → (if n = 0 then f.slotAValid else f.slotBValid) = true →
    slotState s n = slConfirmed → Does (.resetRelease f) s { s with
      boot.inReset := false, boot.resetAt := some s.time.cclk, boot.running := n, boot.booting := some f }) ∧
  (∀ (f : BootFindings) (n : Nat) (s : State), s.boot.resetDue = false → (s.boot.inReset = true ∨ s.boot.resetAt = none) →
    (f.copy0Whole = true ∨ (f.copy1Whole = true ∧ f.copy1Old = false)) → f.p0Passes = true → (pairIn .starting s).isSome = true → n = b2n s.boot.bcb.preferB → (if n = 0 then f.slotAValid else f.slotBValid) = true →
    slotState s n = slTrial → slotBooted s n = false → ∃ t, exec (.resetRelease f) s = .next t ∧ t.boot.running = n ∧
      t.boot.booting = some f ∧ slotBooted t n = true ∧ slotState t n = slTrial ∧ t.boot.flash = s.boot.flash ∧ t.boot.inReset = false ∧
      t.time = s.time ∧ t.cfg = s.cfg ∧ t.live = s.live) ∧
  (∀ (f : BootFindings) (s : State), s.boot.resetDue = false → (s.boot.inReset = true ∨ s.boot.resetAt = none) → (f.copy0Whole = true ∨ (f.copy1Whole = true ∧ f.copy1Old = false)) → f.p0Passes = true →
    (pairIn .starting s).isSome = true → f.slotAValid = false → f.slotBValid = false → ∃ t, exec (.resetRelease f) s = .next t ∧
      t.boot.recovery = true ∧ t.boot.booting = s.boot.booting ∧ t.boot.inReset = false ∧ t.host.ready = s.host.ready ∧ t.cfg = s.cfg ∧
      t.live = s.live ∧ t.boot.flash = s.boot.flash) ∧
  (∀ (f : BootFindings) (s : State), s.boot.resetDue = false → (s.boot.inReset = true ∨ s.boot.resetAt = none) → (f.copy0Whole = true ∨ (f.copy1Whole = true ∧ f.copy1Old = false)) → f.p0Passes = false →
    f.p1Passes = true → s.pairs.p0.fails = 0 → s.pairs.p0.fences = [] → ∃ t, exec (.resetRelease f) s = .next t ∧
      t.pairs.p0.state = .fenced ∧ t.pairs.p1.state = .starting ∧ t.boot.inReset = false ∧ t.cfg = s.cfg ∧ t.live = s.live) ∧
  (∀ (f : BootFindings) (s : State), s.boot.resetDue = false → f.copy0Whole = false → f.copy1Whole = true → f.copy1Old = true →
    (s.boot.inReset = true ∨ s.boot.resetAt = none) → exec (.resetRelease f) s = exec (.resetRelease f) { s with boot.bcb := s.boot.bcbOld }) ∧
  (∀ (f : BootFindings) (s : State), s.boot.resetDue = false → f.copy0Whole = false → f.copy1Whole = false →
    (s.boot.inReset = true ∨ s.boot.resetAt = none) → ∃ t, exec (.resetRelease f) s = .next t ∧ t.boot.booting = s.boot.booting ∧
      t.boot.bcb = blankBlock ∧ t.boot.inReset = false ∧ t.host.ready = s.host.ready ∧ t.cfg = s.cfg ∧ t.live = s.live ∧ t.boot.flash = s.boot.flash) ∧
  (∀ (f : BootFindings) (s : State), s.boot.resetDue = true → exec (.resetRelease f) s = .next (beginBoot f (hubReset s))) ∧
  (∀ (f : BootFindings) (s : State), s.boot.resetDue = false → s.boot.inReset = false → s.boot.resetAt ≠ none →
    exec (.resetRelease f) s = .next s) ∧
  (∀ (f : BootFindings) (p : Pair) (r : Nat) (s : State), s.boot.booting = some f → s.boot.resetAt = some r → pairIn .starting s = some p →
    ∃ t, exec .bootComplete s = .next t ∧ t.boot.up = true ∧ t.boot.booting = none ∧ t.boot.running = s.boot.running ∧
      t.boot.fw = f.clesinVer ∧ t.boot.jorvaHi = f.jorvaHi ∧ t.boot.feIf = f.feIf ∧ t.boot.ckptFmt = f.ckptFmt ∧ t.boot.flash = s.boot.flash ∧
      t.host.ready = true ∧ (pairOf t p).state = .active ∧ t.pairs.lastActive = p ∧ t.dram.trained = f.dramTrains ∧
      t.dram.mib = f.board.dramMib ∧ t.loc.ospi.div = f.board.ospiDiv ∧
      t.loc.ospi.tap = (max f.strobeLow f.board.strobeFrom + min f.strobeHigh f.board.strobeTo) / 2 ∧ t.live.ring.hubId = f.board.hubId ∧ t.live.roster = f.board.roster ∧
      (laneAt t 4).state = lnPll ∧ (laneAt t 5).state = lnPll ∧ t.time.cclk ≤ max s.time.cclk (r + bootBound f s)) ∧
  (∀ (s : State), s.boot.booting = none → exec .bootComplete s = .next s)

/-- UPD_OPEN opens a session and marks the inactive slot WRITING; UPD_WRITE in order waits for the flash, one of bytes already
written that match answers OK; UPD_COMMIT marks the image TRIAL and preferred, reloads dies, then resets or swaps; UPD_ABORT
empties the slot; HEALTH_CONFIRM confirms a pending trial and is refused on an expired slot; OWNER_LOCK stores lock, guard and
key. -/
def Obligations.UpdateCommands : Prop :=
  (∀ (h : CmdHdr) (len : Nat) (s : State), Accepts h 0x0D01 s → openCheck (holderOf (some h) none) len s = none →
    Does (.updOpen h len) s (answered h 0x0D01 okReply (putSlot (otherSlot s) slWriting { s with
      boot.session := some { holder := (holderOf (some h) none).1, hub := (holderOf (some h) none).2, length := len, written := 0, renewed := s.time.cclk } }))) ∧
  (∀ (h : CmdHdr) (len c : Nat) (s : State), Accepts h 0x0D01 s → 256 ≤ len → len ≤ slotBytes → barredBy s = some c →
    Does (.updOpen h len) s (answered h 0x0D01 (refusedState 11 c) s)) ∧
  (∀ (h : CmdHdr) (off : Nat) (data : List Byte) (x : Session) (s : State), Accepts h 0x0D02 s → s.boot.session = some x →
    holds (holderOf (some h) none) s = true → s.boot.ops = [] → off = x.written → off + data.length ≤ x.length → data ≠ [] →
    ((off % 4 = 0 ∧ data.length % 4 = 0) ∨ off + data.length = x.length) → exec (.updWrite h off data) s = .next { s with
      boot.session := some { x with renewed := s.time.cclk }, boot.ops := [{ offset := off, data := data, hdr := some h, req := none }] }) ∧
  (∀ (h : CmdHdr) (off : Nat) (data : List Byte) (x : Session) (s : State), Accepts h 0x0D02 s → s.boot.session = some x →
    holds (holderOf (some h) none) s = true → s.boot.ops = [] → off < x.written → off + data.length ≤ x.length → data ≠ [] →
    off % 4 = 0 → data.length % 4 = 0 → flashMatches s (slotBase (otherSlot s) + off) data = true → Does (.updWrite h off data) s
      (answered h 0x0D02 okReply { s with boot.session := some { x with renewed := s.time.cclk } })) ∧
  (∀ (h : CmdHdr) (off : Nat) (data : List Byte) (s : State), Accepts h 0x0D02 s → s.boot.ops ≠ [] → exec (.updWrite h off data) s =
    .next { s with boot.ops := s.boot.ops ++ [{ offset := off, data := data, hdr := some h, req := none }] }) ∧
  (∀ (h : CmdHdr) (off : Nat) (data : List Byte) (s : State), Accepts h 0x0D02 s → s.boot.ops = [] → s.boot.session = none →
    Does (.updWrite h off data) s (answered h 0x0D02 (refusedState 11 0) s)) ∧
  (∀ (h : CmdHdr) (f : ImageFacts) (s : State), Accepts h 0x0D03 s → commitCheck (holderOf (some h) none) 1 f s = none → f.diesChanged = [] →
    ∃ t, exec (.updCommit h 1 f) s = .next t ∧ t.boot.resetDue = true ∧ t.boot.commit = none ∧ t.boot.session = none ∧
      slotState t (otherSlot s) = slTrial ∧ slotBooted t (otherSlot s) = false ∧ t.boot.bcb.preferB = decide (otherSlot s = 1) ∧
      t.boot.flash = s.boot.flash ∧ t.time = s.time ∧ t.fe = s.fe ∧ t.fret = s.fret ∧ t.trig = s.trig ∧ t.cfg = s.cfg ∧ t.live = s.live) ∧
  (∀ (h : CmdHdr) (f : ImageFacts) (s : State), Accepts h 0x0D03 s → commitCheck (holderOf (some h) none) 0 f s = none → f.diesChanged = [] →
    s.boot.recovery = false → ∃ t, exec (.updCommit h 0 f) s = .next t ∧ t.pairs.stage = .quiescing ∧ t.pairs.commitSwap = true ∧
      t.pairs.drillStart = s.time.cclk ∧ t.boot.commit.map (fun c => (c.slot, c.activate, c.hdr)) = some (otherSlot s, 0, some h) ∧
      slotState t (otherSlot s) = slTrial ∧ t.boot.session = s.boot.session ∧ t.boot.flash = s.boot.flash ∧ t.time = s.time ∧ t.fe = s.fe ∧
      t.fret = s.fret ∧ t.trig = s.trig ∧ t.cfg = s.cfg ∧ t.live = s.live) ∧
  (∀ (h : CmdHdr) (a k : Nat) (f : ImageFacts) (s : State), Accepts h 0x0D03 s → commitCheck (holderOf (some h) none) a f s = none →
    f.diesChanged = [k] → ∃ t, exec (.updCommit h a f) s = .next t ∧ (dieAt t k).loadWait = true ∧
      t.boot.commit.map (fun c => (c.slot, c.dies, c.hdr)) = some (otherSlot s, [k], some h) ∧ slotState t (otherSlot s) = slTrial ∧
      (∀ j < 4, j ≠ k → dieAt t j = dieAt s j) ∧ t.boot.session = s.boot.session ∧ t.pairs = s.pairs ∧ t.time = s.time ∧ t.fret = s.fret ∧
      t.trig = s.trig ∧ t.cfg = s.cfg ∧ t.live = s.live) ∧
  (∀ (h : CmdHdr) (x : Session) (s : State), Accepts h 0x0D04 s → s.boot.session = some x → holds (holderOf (some h) none) s = true →
    updating s = false → Does (.updAbort h) s
      (answered h 0x0D04 okReply { putSlot (otherSlot s) slEmpty s with boot.session := none })) ∧
  (∀ (h : CmdHdr) (s : State), Accepts h 0x0D04 s → s.boot.session = none → updating s = false →
    Does (.updAbort h) s (answered h 0x0D04 okReply s)) ∧
  (∀ (h : CmdHdr) (s : State), Accepts h 0x0D05 s → runningExpired s = false → s.boot.trialOpen = true → ∃ t, exec (.healthConfirm h) s = .next t ∧
    slotState t s.boot.running = slConfirmed ∧ t.boot.bcb.minSvn = flashAt s (slotBase s.boot.running + 15) ∧ t.boot.trialOpen = false ∧
    t.boot.trialFrom = none ∧ t.boot.flash = s.boot.flash ∧ t.boot.session = s.boot.session ∧ t.time = s.time ∧ t.fe = s.fe ∧ t.fret = s.fret ∧
    t.trig = s.trig ∧ t.cfg = s.cfg ∧ t.live = s.live) ∧
  (∀ (h : CmdHdr) (s : State), Accepts h 0x0D05 s → runningExpired s = false → s.boot.trialOpen = false →
    Does (.healthConfirm h) s (answered h 0x0D05 okReply s)) ∧
  (∀ (h : CmdHdr) (s : State), Accepts h 0x0D05 s → runningExpired s = true →
    Does (.healthConfirm h) s (answered h 0x0D05 (refusedState 11 6) s)) ∧
  (∀ (h : CmdHdr) (lock guard_ key : Nat) (s : State), Accepts h 0x0C03 s → lockCheck lock guard_ key s = none →
    b2n s.boot.bcb.lock = lock → b2n s.boot.bcb.capoGuard = guard_ → Does (.ownerLock h lock guard_ key) s (answered h 0x0C03 okReply s)) ∧
  (∀ (h : CmdHdr) (lock guard_ key : Nat) (s : State), Accepts h 0x0C03 s → lockCheck lock guard_ key s = none →
    (b2n s.boot.bcb.lock ≠ lock ∨ b2n s.boot.bcb.capoGuard ≠ guard_) → Does (.ownerLock h lock guard_ key) s
      (answered h 0x0C03 okReply { s with boot.bcbOld := s.boot.bcb, boot.bcb := { s.boot.bcb with
        lock := decide (lock = 1), capoGuard := decide (guard_ = 1), key := if s.boot.bcb.lock = false ∧ lock = 1 then key else s.boot.bcb.key, writes := (s.boot.bcb.writes + 1) % 2 ^ 32 } }))

/-- A session expires 60 s after its last open or write, unless a commit runs; a flash operation that is done has programmed its
bytes, one that failed has not; a reloaded die waits to return and the commit goes on to the next; a trial unconfirmed for 600 s
leaves its slot EXPIRED; UPD_CMD of the PCIe host or the service port does what the command does, keeps BUSY until UPD_CMD_DONE
sets LAST_STATUS, is discarded while BUSY, and is refused in the safe state. -/
def Obligations.UpdateEvents : Prop :=
  (∀ (x : Session) (s : State), s.boot.session = some x → s.boot.commit = none → Does .updSessionExpiry s
    { putSlot (otherSlot s) slEmpty (toCclk (x.renewed + 24000000000) s) with boot.session := none }) ∧
  (∀ (s : State), (s.boot.session = none ∨ s.boot.commit.isSome = true) → exec .updSessionExpiry s = .next s) ∧
  (∀ (o : FlashOp) (x : Session) (s : State), s.boot.ops = [o] → s.boot.session = some x → ∃ t, exec (.flashProgramDone .done) s = .next t ∧
    t.boot.flash = flashPut (slotBase (otherSlot s) + o.offset) (slotBase (otherSlot s) + slotBytes) o.data s.boot.flash ∧
    t.boot.ops = [] ∧ t.boot.session = some { x with written := x.written + o.data.length } ∧ t.boot.bcb = s.boot.bcb ∧ t.time = s.time ∧
    t.fe = s.fe ∧ t.fret = s.fret ∧ t.trig = s.trig ∧ t.streams = s.streams ∧ t.cfg = s.cfg ∧ t.live = s.live) ∧
  (∀ (cause addr : Nat) (o : FlashOp) (s : State), s.boot.ops = [o] → ∃ t, exec (.flashProgramDone (.failed cause addr)) s = .next t ∧
    t.boot.flash = flashPut (slotBase (otherSlot s) + o.offset) (slotBase (otherSlot s) + slotBytes) [] s.boot.flash ∧
    t.boot.ops = [] ∧ t.boot.session = s.boot.session ∧ t.boot.bcb = s.boot.bcb ∧ t.time = s.time ∧
    t.fe = s.fe ∧ t.fret = s.fret ∧ t.trig = s.trig ∧ t.streams = s.streams ∧ t.cfg = s.cfg ∧ t.live = s.live) ∧
  (∀ (k e : Nat) (s : State), (dieAt s k).loadEnd = some e → s.boot.commit = none → exec (.microcodeReloadEnd k) s =
    .next (putDie k { dieAt s k with loadEnd := none, returnWait := true } (toInstant e s))) ∧
  (∀ (k j e : Nat) (js : List Nat) (c : Commit) (s : State), (dieAt s k).loadEnd = some e → s.boot.commit = some c → c.dies = k :: j :: js →
    k ∉ j :: js → ∃ t, exec (.microcodeReloadEnd k) s = .next t ∧ (dieAt t k).loadEnd = none ∧ (dieAt t k).returnWait = true ∧
      (dieAt t j).loadWait = true ∧ t.boot.commit = some { c with dies := j :: js, reloaded := c.reloaded ++ [k] } ∧
      t.time = (toInstant e s).time ∧ t.fret = s.fret ∧ t.trig = s.trig ∧ t.cfg = s.cfg ∧ t.live = s.live) ∧
  (∀ (c : Nat) (s : State), s.boot.trialFrom = some c → s.boot.trialOpen = true → Does .trialExpiry s
    { putSlot s.boot.running slExpired (toCclk (c + 240000000000) s) with boot.trialOpen := false, boot.trialFrom := none }) ∧
  (∀ (req : Requester) (s : State), req ≠ .controller → (clesinUp s = true ∨ s.boot.recovery = true) → (reqOf s req).updBusy = false →
    s.safety.safe = false → openCheck (holderOf none (some req)) (reqOf s req).updArg.toNat s = none → ∃ t, exec (.updCmdOpen req) s = .next t ∧
      t.boot.session = some { holder := (holderOf none (some req)).1, hub := 0, length := (reqOf s req).updArg.toNat, written := 0, renewed := s.time.cclk } ∧
      slotState t (otherSlot s) = slWriting ∧ (reqOf t req).updBusy = true ∧ (reqOf t req).updResult = some 0 ∧ t.boot.flash = s.boot.flash ∧
      t.time = s.time ∧ t.fret = s.fret ∧ t.trig = s.trig ∧ t.cfg = s.cfg ∧ t.live = s.live) ∧
  (∀ (req : Requester) (words : Nat) (x : Session) (s : State), req ≠ .controller → (clesinUp s = true ∨ s.boot.recovery = true) →
    (reqOf s req).updBusy = false → s.safety.safe = false → s.boot.session = some x → holds (holderOf none (some req)) s = true →
    s.boot.ops = [] → x.written = (reqOf s req).updArg.toNat → x.written % 4 = 0 → x.written + 4 * (words + 1) ≤ x.length →
    ∃ t, exec (.updCmdWrite req words) s = .next t ∧ t.boot.session = some { x with renewed := s.time.cclk } ∧
      t.boot.ops = [{ offset := x.written, data := updBytes s req (words + 1), hdr := none, req := some req }] ∧
      (reqOf t req).updBusy = true ∧ (reqOf t req).updResult = none ∧ t.boot.flash = s.boot.flash ∧ t.boot.bcb = s.boot.bcb ∧
      t.time = s.time ∧ t.fret = s.fret ∧ t.trig = s.trig ∧ t.cfg = s.cfg ∧ t.live = s.live) ∧
  (∀ (req : Requester) (f : ImageFacts) (s : State), req ≠ .controller → (clesinUp s = true ∨ s.boot.recovery = true) →
    (reqOf s req).updBusy = false → s.safety.safe = false → (reqOf s req).updArg = 1#32 → f.diesChanged = [] →
    commitCheck (holderOf none (some req)) 1 f s = none → ∃ t, exec (.updCmdCommit req f) s = .next t ∧ t.boot.resetDue = true ∧
      t.boot.session = none ∧ slotState t (otherSlot s) = slTrial ∧ (reqOf t req).updBusy = true ∧ (reqOf t req).updResult = some 0 ∧
      t.boot.flash = s.boot.flash ∧ t.time = s.time ∧ t.fret = s.fret ∧ t.trig = s.trig ∧ t.cfg = s.cfg ∧ t.live = s.live) ∧
  (∀ (req : Requester) (x : Session) (s : State), req ≠ .controller → (clesinUp s = true ∨ s.boot.recovery = true) →
    (reqOf s req).updBusy = false → s.safety.safe = false → s.boot.session = some x → holds (holderOf none (some req)) s = true →
    updating s = false → ∃ t, exec (.updCmdAbort req) s = .next t ∧ t.boot.session = none ∧ slotState t (otherSlot s) = slEmpty ∧
      (reqOf t req).updBusy = true ∧ (reqOf t req).updResult = some 0 ∧ t.boot.flash = s.boot.flash ∧ t.time = s.time ∧ t.fret = s.fret ∧
      t.trig = s.trig ∧ t.cfg = s.cfg ∧ t.live = s.live) ∧
  (∀ (req : Requester) (s : State), req ≠ .controller → (clesinUp s = true ∨ s.boot.recovery = true) →
    (reqOf s req).updBusy = false → s.safety.safe = false → runningExpired s = false → s.boot.trialOpen = true →
    ∃ t, exec (.updCmdHealthConfirm req) s = .next t ∧ slotState t s.boot.running = slConfirmed ∧ t.boot.trialOpen = false ∧
      (reqOf t req).updBusy = true ∧ (reqOf t req).updResult = some 0 ∧ t.boot.flash = s.boot.flash ∧ t.time = s.time ∧ t.fret = s.fret ∧
      t.trig = s.trig ∧ t.cfg = s.cfg ∧ t.live = s.live) ∧
  (∀ (req : Requester) (s : State), req ≠ .controller → (clesinUp s = true ∨ s.boot.recovery = true) →
    (reqOf s req).updBusy = false → s.safety.safe = false → s.boot.bcb.lock = true → (reqOf s req).updArg.toNat = s.boot.bcb.key →
    ∃ t, exec (.updCmdUnlock req) s = .next t ∧ t.boot.bcb.lock = false ∧ t.boot.bcb.capoGuard = s.boot.bcb.capoGuard ∧
      (reqOf t req).updBusy = true ∧ (reqOf t req).updResult = some 0 ∧ t.boot.flash = s.boot.flash ∧ t.boot.session = s.boot.session ∧
      t.time = s.time ∧ t.fret = s.fret ∧ t.trig = s.trig ∧ t.cfg = s.cfg ∧ t.live = s.live) ∧
  (∀ (i : Instr) (req : Requester) (f : ImageFacts) (words : Nat) (s : State),
    i ∈ [Instr.updCmdOpen req, .updCmdWrite req words, .updCmdCommit req f, .updCmdAbort req, .updCmdHealthConfirm req, .updCmdUnlock req] →
    (reqOf s req).updBusy = true → exec i s = .next s) ∧
  (∀ (i : Instr) (req : Requester) (f : ImageFacts) (words : Nat) (s : State),
    i ∈ [Instr.updCmdOpen req, .updCmdWrite req words, .updCmdCommit req f, .updCmdAbort req, .updCmdHealthConfirm req, .updCmdUnlock req] →
    req ≠ .controller → (clesinUp s = true ∨ s.boot.recovery = true) → (reqOf s req).updBusy = false → s.safety.safe = true →
    exec i s = .next (putReq req { reqOf s req with updBusy := true, updResult := some stRefused } s)) ∧
  (∀ (req : Requester) (st : Nat) (s : State), (reqOf s req).updBusy = true → (reqOf s req).updResult = some st →
    exec (.updCmdDone req) s = .next (putReq req { reqOf s req with updStatus := st, updBusy := false, updResult := none } s))

/-- A doorbell within bounds moves the host index, another is ignored with BAD_IDX; the ring whose turn it is gives its next
descriptor, which is handed, forwarded, or refused, or waits its turn; completions and queue entries go into their rings in
order as room allows, or are popped; a flushed ring, or one whose read failed, stops; START and RING_CONFIG start rings; PERST#
released trains the PCIe lanes, and a PCIe reset clears rings and interrupt messages. -/
def Obligations.HostRings : Prop :=
  (∀ (s : State), ∃ t, exec .perstRelease s = .next t ∧ (∀ n < 4, (laneAt t n).state = lnTrain) ∧ laneAt t 4 = laneAt s 4 ∧ laneAt t 5 = laneAt s 5 ∧
    t.host = { s.host with perst := true } ∧ t.ring = s.ring ∧ t.fret = s.fret ∧ t.trig = s.trig ∧ t.time = s.time ∧ t.cfg = s.cfg ∧ t.live = s.live ∧ t.streams = s.streams ∧ t.boot = s.boot) ∧
  (∀ (s : State), ∃ t, exec .pcieReset s = .next t ∧ t.host.rings = [] ∧ t.host.waiting = [] ∧ t.host.flrSeen = true ∧ t.host.pba = 0 ∧
    t.host.boot = s.host.boot ∧ t.host.pend = s.host.pend ∧ (∀ r < 128, (ringAt t r).active = false) ∧ t.ring = s.ring ∧ t.fret = s.fret ∧
    t.trig = s.trig ∧ t.time = s.time ∧ t.cfg = s.cfg ∧ t.live = s.live ∧ t.boot = s.boot) ∧
  (∀ (r idx : Nat) (s : State), indexOk (ringAt s r) idx = true → ∃ t, exec (.ringDoorbell r idx) s = .next t ∧
    (ringAt t r).hostIdx = idx ∧ t.host.badIdx = s.host.badIdx ∧ t.fret = s.fret ∧ t.trig = s.trig ∧ t.time = s.time ∧ t.cfg = s.cfg ∧
    t.live = s.live ∧ t.boot = s.boot) ∧
  (∀ (r idx : Nat) (s : State), indexOk (ringAt s r) idx = false → exec (.ringDoorbell r idx) s =
    .next (putRing r { ringAt s r with badIdx := true } { s with host.badIdx := true })) ∧
  (∀ (r : Nat) (d data : List Byte) (readable : Bool) (s : State), takesDescriptors s = true →
    ((List.range 128).map (fun i => (s.host.fetchNext + i) % 128)).find? (hasDescriptor s) = some r →
    (bitOf (fieldAt d 2 1) 6 = true ∨ fieldAt d 2 1 % 64 = s.live.ring.hubId) → mayStart s r (bitOf (fieldAt d 3 1) 1) = true →
    (∀ e ∈ descFaults (descHdr r (ringAt s r).hubIdx d) 262144 d data readable s, e.2 = true → e.1 = 3 ∨ e.1 = 8) →
    ∃ t, exec (.descriptorFetch r d data readable) s = .next t ∧ (ringAt t r).hubIdx = ((ringAt s r).hubIdx + 1) % 2 ^ 32 ∧
      t.host.fetchNext = (r + 1) % 128 ∧ t.host.handed = s.host.handed ++ [{ ring := r, descIdx := (ringAt s r).hubIdx % 65536, tag := fieldAt d 4 4, opcode := fieldAt d 0 2, idem := bitOf (fieldAt d 3 1) 0, cplRing := fieldAt d 8 1, gateway := none, since := s.time.cclk, reexec := false }] ∧ t.host.waiting = s.host.waiting ∧ t.ring = s.ring ∧ t.fret = s.fret ∧ t.trig = s.trig ∧
      t.time = s.time ∧ t.cfg = s.cfg ∧ t.live = s.live ∧ t.streams = s.streams ∧ t.boot = s.boot) ∧
  (∀ (r : Nat) (d data : List Byte) (readable : Bool) (s : State), takesDescriptors s = true →
    ((List.range 128).map (fun i => (s.host.fetchNext + i) % 128)).find? (hasDescriptor s) = some r →
    (bitOf (fieldAt d 2 1) 6 = true ∨ fieldAt d 2 1 % 64 = s.live.ring.hubId) → mayStart s r (bitOf (fieldAt d 3 1) 1) = true →
    (∃ e ∈ descFaults (descHdr r (ringAt s r).hubIdx d) 262144 d data readable s, e.2 = true ∧ e.1 ≠ 3 ∧ e.1 ≠ 8) → s.host.orphans = [] →
    ∃ t, exec (.descriptorFetch r d data readable) s = .next t ∧ (ringAt t r).hubIdx = ((ringAt s r).hubIdx + 1) % 2 ^ 32 ∧
      (∃ c ∈ t.host.waiting, c.tag = fieldAt d 4 4 ∧ c.opcode = fieldAt d 0 2 ∧ c.status = stBadParam) ∧ t.fret = s.fret ∧ t.trig = s.trig ∧
      t.time = s.time ∧ t.cfg = s.cfg ∧ t.live = s.live ∧ t.streams = s.streams ∧ t.boot = s.boot) ∧
  (∀ (r : Nat) (d data : List Byte) (readable : Bool) (s : State), takesDescriptors s = true →
    ((List.range 128).map (fun i => (s.host.fetchNext + i) % 128)).find? (hasDescriptor s) = some r →
    bitOf (fieldAt d 2 1) 6 = false → fieldAt d 2 1 % 64 ≠ s.live.ring.hubId → mayForward s r (fieldAt d 2 1 % 64) (bitOf (fieldAt d 3 1) 1) = true →
    (∀ e ∈ descFaults (descHdr r (ringAt s r).hubIdx d) 65536 d data readable s, e.2 = false) → s.ring.gateway.held = true →
    (topoAt s (fieldAt d 2 1 % 64)).present = true → ∃ t, exec (.descriptorFetch r d data readable) s = .next t ∧
      (ringAt t r).hubIdx = ((ringAt s r).hubIdx + 1) % 2 ^ 32 ∧ t.ring.forwarded = s.ring.forwarded ++ [{ hub := fieldAt d 2 1 % 64, hdr := descHdr r (ringAt s r).hubIdx d, opcode := fieldAt d 0 2, desc := d, data := if takesData (fieldAt d 0 2) then data.take (fieldAt d 12 4) else [], bound := boundCclk s (fieldAt d 0 2) d, resent := false, at_ := s.time.cclk }] ∧
      t.host.handed = s.host.handed ∧ t.host.waiting = s.host.waiting ∧ t.fret = s.fret ∧ t.trig = s.trig ∧ t.time = s.time ∧ t.cfg = s.cfg ∧ t.live = s.live ∧ t.streams = s.streams ∧ t.boot = s.boot) ∧
  (∀ (r : Nat) (d data : List Byte) (readable : Bool) (s : State), takesDescriptors s = true →
    ((List.range 128).map (fun i => (s.host.fetchNext + i) % 128)).find? (hasDescriptor s) = some r →
    (bitOf (fieldAt d 2 1) 6 = true ∨ fieldAt d 2 1 % 64 = s.live.ring.hubId) → mayStart s r (bitOf (fieldAt d 3 1) 1) = false →
    exec (.descriptorFetch r d data readable) s = .next { s with host.fetchNext := (r + 1) % 128 }) ∧
  (∀ (r : Nat) (d data : List Byte) (readable : Bool) (s : State), (takesDescriptors s = false ∨
    ((List.range 128).map (fun i => (s.host.fetchNext + i) % 128)).find? (hasDescriptor s) ≠ some r) →
    exec (.descriptorFetch r d data readable) s = .next s) ∧
  (∀ (c : Completion) (cs : List Completion) (s : State), s.host.waiting = c :: cs → completionRing s c.ring = true →
    (ringAt s c.ring).flush = false → 0 < ringFree (ringAt s c.ring) →
    (∀ d ∈ c :: cs, (ringAt s d.ring).configured = true ∧ (ringAt s d.ring).type = rtCompletion) → ∃ t, exec .completionWrite s = .next t ∧
      (ringAt t c.ring).items = (ringAt s c.ring).items ++ [(1, .completion c)] ∧
      (ringAt t c.ring).hubIdx = ((ringAt s c.ring).hubIdx + 1) % 2 ^ 32 ∧ t.host.waiting = cs ∧ t.host.handed = s.host.handed ∧
      t.ring = s.ring ∧ t.fret = s.fret ∧ t.trig = s.trig ∧ t.time = s.time ∧ t.cfg = s.cfg ∧ t.live = s.live ∧ t.streams = s.streams ∧ t.boot = s.boot) ∧
  (∀ (r : Nat) (i : RingItem) (q : Queue) (s : State), (ringAt s r).active = true → (ringAt s r).flush = false → (ringAt s r).fifo = false →
    hubHeld (ringAt s r).type = true → 0 < ringFree (ringAt s r) → serve (ringAt s r).type (queueOf s (ringAt s r)) = some (i, q) →
    ∃ t, exec (.queueEntryDma r) s = .next t ∧ (ringAt t r).items = (ringAt s r).items ++ [(1, i)] ∧ queueOf t (ringAt t r) = q ∧
      (ringAt t r).hubIdx = ((ringAt s r).hubIdx + 1) % 2 ^ 32 ∧ t.ring = s.ring ∧ t.fret = s.fret ∧ t.trig = s.trig ∧ t.time = s.time ∧ t.cfg = s.cfg ∧ t.live = s.live ∧ t.streams = s.streams ∧ t.boot = s.boot) ∧
  (∀ (req : Requester) (r : Nat) (i : RingItem) (q : Queue) (s : State), req ≠ .service → (ringAt s r).active = true → (ringAt s r).fifo = true →
    serve (ringAt s r).type (queueOf s (ringAt s r)) = some (i, q) → ∃ t, exec (.ringPop req r) s = .next t ∧
      (reqOf t req).popWin = itemBytes (ringAt s r).type r i ∧ queueOf t (ringAt t r) = q ∧ t.host.readData = BitVec.ofNat 32 (2 ^ 31 + itemPri i * 2 ^ 28 + ((itemBytes (ringAt s r).type r i).length / 4 - 1) * 2 ^ 16 + min 65535 (queueLen q)) ∧
      t.ring = s.ring ∧ t.fret = s.fret ∧ t.trig = s.trig ∧ t.time = s.time ∧ t.cfg = s.cfg ∧ t.live = s.live ∧ t.streams = s.streams ∧ t.boot = s.boot) ∧
  (∀ (req : Requester) (r : Nat) (s : State), req ≠ .service → ((ringAt s r).active = false ∨ (ringAt s r).fifo = false) →
    exec (.ringPop req r) s = .next { s with host.readData := 0 }) ∧
  (∀ (r : Nat) (s : State), (ringAt s r).active = true →
    exec (.ringFlushRequest r) s = .next (putRing r { ringAt s r with flush := true } s)) ∧
  (∀ (r : Nat) (s : State), (ringAt s r).active = true → (ringAt s r).flush = true → ∃ t, exec (.ringFlushComplete r) s = .next t ∧
    ringAt t r = { ringAt s r with active := false, flush := false } ∧ (tget (0, 0) t.host.slots r).1 = (ringAt s r).hubIdx ∧
    t.host.dmaErr = s.host.dmaErr ∧ t.ring = s.ring ∧ t.fret = s.fret ∧ t.trig = s.trig ∧ t.time = s.time ∧ t.cfg = s.cfg ∧ t.live = s.live ∧ t.streams = s.streams ∧ t.boot = s.boot) ∧
  (∀ (r : Nat) (s : State), (ringAt s r).active = true → ∃ t, exec (.dmaReadFailure r) s = .next t ∧
    ringAt t r = { ringAt s r with active := false, flush := false } ∧ (tget (0, 0) t.host.slots r).1 = (ringAt s r).hubIdx ∧
    t.host.dmaErr = true ∧ t.ring = s.ring ∧ t.fret = s.fret ∧ t.trig = s.trig ∧ t.time = s.time ∧ t.cfg = s.cfg ∧ t.live = s.live ∧ t.streams = s.streams ∧ t.boot = s.boot) ∧
  (∀ (x : HostRing) (s : State), (ringAt s 0).active = false → (ringAt s 1).active = true → bootRing s 0 = some x → ∃ t, exec .hifStart s = .next t ∧
    (ringAt t 0).active = true ∧ (ringAt t 0).type = rtCommand ∧ (ringAt t 0).log2Size = x.log2Size ∧ (ringAt t 0).base = x.base ∧
    (ringAt t 0).level = x.level ∧ (ringAt t 0).hostIdx = 0 ∧ t.host.dmaErr = s.host.dmaErr ∧ t.fret = s.fret ∧ t.trig = s.trig ∧
    t.time = s.time ∧ t.cfg = s.cfg ∧ t.live = s.live ∧ t.boot = s.boot) ∧
  (∀ (s : State), (ringAt s 0).active = false → (ringAt s 1).active = true → bootRing s 0 = none →
    exec .hifStart s = .next { s with host.dmaErr := true }) ∧
  (∀ (h : CmdHdr) (p : RingConfigP) (s : State), Accepts h 0x0406 s → ringConfigCheck p s = none → sameRing (ringAt s p.ring) p = false → p.type ≠ 0 →
    ∃ t, exec (.ringConfig h p) s = .next t ∧ (ringAt t p.ring).active = true ∧ (ringAt t p.ring).type = p.type ∧
      (ringAt t p.ring).fifo = decide (p.mode = 1) ∧ (ringAt t p.ring).groups = p.groups ∧ (ringAt t p.ring).log2Size = p.log2Size ∧
      (ringAt t p.ring).base = p.base ∧ (ringAt t p.ring).level = p.level ∧ (ringAt t p.ring).hostIdx = 0 ∧ t.fret = s.fret ∧ t.trig = s.trig ∧
      t.time = s.time ∧ t.cfg = s.cfg ∧ t.live = s.live ∧ t.boot = s.boot) ∧
  (∀ (h : CmdHdr) (p : RingConfigP) (s : State), Accepts h 0x0406 s → ringConfigCheck p s = none → sameRing (ringAt s p.ring) p = false → p.type = 0 →
    ∃ t, exec (.ringConfig h p) s = .next t ∧ ringAt t p.ring = hostRing0 ∧ t.fret = s.fret ∧ t.trig = s.trig ∧ t.time = s.time ∧ t.cfg = s.cfg ∧ t.live = s.live ∧ t.streams = s.streams ∧ t.boot = s.boot) ∧
  (∀ (h : CmdHdr) (p : RingConfigP) (s : State), Accepts h 0x0406 s → ringConfigCheck p s = none → sameRing (ringAt s p.ring) p = true →
    Does (.ringConfig h p) s (answered h 0x0406 okReply s))

/-- A read of TIME_NOW_NS, TIME_DCO_INC_LO or LANE_n_ERR_LO gives the value and latches the rest of its set; a shadow read gives
the latch, or the live value with NOLATCH; a write takes effect whole where the requester reaches the register and its bits are
writable, a partial write sets PARTIAL, and a poisoned one its AER error; an EVT_MASK write sets its group; a service frame
reads registers, or writes them when its CRC is good, and is discarded and counted otherwise; the flash window is read by lines,
each after the select delays; PPS_OUT rises at whole seconds while locked; RESERVE_PWR raises its event. -/
def Obligations.RegistersAndLocalPorts : Prop :=
  (∀ (req : Requester) (s : State), ∃ t, exec (.readTimeNowNs req) s = .next t ∧ t.host.readData = w32 (nowNs s % 1000000000) ∧
    tget latch0 (reqOf t req).latches 0x2000 = { shadow := [(0x2004, w32 (nowNs s / 1000000000 % 2 ^ 32)), (0x2008, w32 (nowNs s / 1000000000 / 2 ^ 32 % 65536))], unread := [0x2004, 0x2008] } ∧
    t.time = s.time ∧ t.ring = s.ring ∧ t.fret = s.fret ∧ t.trig = s.trig ∧ t.cfg = s.cfg ∧ t.live = s.live ∧ t.streams = s.streams ∧ t.boot = s.boot) ∧
  (∀ (req : Requester) (s : State), ∃ t, exec (.readTimeDcoIncLo req) s = .next t ∧ t.host.readData = w32 (s.time.inc % 2 ^ 32) ∧
    tget latch0 (reqOf t req).latches 0x2040 = { shadow := [(0x2044, w32 (s.time.inc / 2 ^ 32 % 65536))], unread := [0x2044] } ∧
    t.time = s.time ∧ t.ring = s.ring ∧ t.fret = s.fret ∧ t.trig = s.trig ∧ t.cfg = s.cfg ∧ t.live = s.live ∧ t.streams = s.streams ∧ t.boot = s.boot) ∧
  (∀ (req : Requester) (l : Nat) (s : State), req ≠ .service → l < 6 → ∃ t, exec (.readLaneErrLo req l) s = .next t ∧
    t.host.readData = w32 ((laneAt s l).err % 2 ^ 32) ∧ (tget latch0 (reqOf t req).latches (0x400C + 256 * l)).shadow =
      [(0x4010 + 256 * l, w32 ((laneAt s l).err / 2 ^ 32 % 65536)), (0x4014 + 256 * l, w32 ((laneAt s l).bits % 2 ^ 32)),
       (0x4018 + 256 * l, w32 ((laneAt s l).bits / 2 ^ 32 % 65536))] ∧
    t.lanes = s.lanes ∧ t.time = s.time ∧ t.ring = s.ring ∧ t.fret = s.fret ∧ t.trig = s.trig ∧ t.cfg = s.cfg ∧ t.live = s.live ∧ t.streams = s.streams ∧ t.boot = s.boot) ∧
  (∀ (l : Nat) (s : State), l < 6 → exec (.readLaneErrLo .service l) s = .next s) ∧
  (∀ (req : Requester) (off reg : Nat) (s : State), reaches req off = true → latchOf off = some reg →
    (tget latch0 (reqOf s req).latches reg).unread = [] → exec (.shadowRead req off) s = .next
      { putReq req { reqOf s req with noLatch := true } s with host.readData := w32 (regValue req off s) }) ∧
  (∀ (req : Requester) (off reg : Nat) (s : State), reaches req off = true → latchOf off = some reg →
    (tget latch0 (reqOf s req).latches reg).unread ≠ [] → ∃ t, exec (.shadowRead req off) s = .next t ∧
      t.host.readData = tget (0 : Word) (tget latch0 (reqOf s req).latches reg).shadow off ∧
      (tget latch0 (reqOf t req).latches reg).unread = (tget latch0 (reqOf s req).latches reg).unread.filter (fun o => decide (o ≠ off)) ∧
      (reqOf t req).noLatch = (reqOf s req).noLatch ∧ t.time = s.time ∧ t.ring = s.ring ∧ t.fret = s.fret ∧ t.trig = s.trig ∧ t.cfg = s.cfg ∧ t.live = s.live ∧ t.streams = s.streams ∧ t.boot = s.boot) ∧
  (∀ (g : Nat) (v : Word) (s : State), ∃ t, exec (.evtMaskWrite g v) s = .next t ∧ wordAt 0xFFFFFFFF t.host.mask g = v ∧
    (∀ k < 8, k ≠ g → wordAt 0xFFFFFFFF t.host.mask k = wordAt 0xFFFFFFFF s.host.mask k) ∧ t.host.pend = s.host.pend ∧ t.host.rings = s.host.rings ∧
    t.time = s.time ∧ t.ring = s.ring ∧ t.fret = s.fret ∧ t.trig = s.trig ∧ t.cfg = s.cfg ∧ t.live = s.live ∧ t.streams = s.streams ∧ t.boot = s.boot) ∧
  (∀ (req : Requester) (v : Word) (s : State), exec (.registerWrite req 0x0044 v 15) s = .next { s with host.scratch := v }) ∧
  (∀ (req : Requester) (v : Word) (s : State), exec (.registerWrite req 0x0808 v 15) s =
    .next (putReq req { reqOf s req with updArg := v } s)) ∧
  (∀ (req : Requester) (off : Nat) (v : Word) (s : State), off ∈ [0x0000, 0x0004, 0x0008, 0x000C, 0x0010, 0x2000, 0x200C, 0x3004, 0x3008, 0x3440] →
    exec (.registerWrite req off v 15) s = .next s) ∧
  (∀ (req : Requester) (off : Nat) (v : Word) (s : State), reaches req off = false → exec (.registerWrite req off v 15) s = .next s) ∧
  (∀ (off n : Nat) (v : Word) (s : State), n < 15 → exec (.registerWrite .pcie off v n) s =
    .next { s with host.reqPcie.partialWrite := true }) ∧
  (∀ (off n : Nat) (v : Word) (s : State), 16 ≤ n → n < 32 → exec (.registerWrite .pcie off v n) s =
    .next { s with host.aerStatus := setBit s.host.aerStatus 12 }) ∧
  (∀ (req : Requester) (s : State), s.safety.safe = false → ∃ t, exec (.registerWrite req 0x3000 0x100#32 15) s = .next t ∧
    t.safety.safe = true ∧ t.safety.first = 10 ∧ t.time = s.time ∧ t.boot = s.boot) ∧
  (∀ (h : Word) (s : State), svcCmd h = 1 → svcN h = 1 → svcAddr h % 4 = 0 → reaches .service (svcAddr h) = true → latchSet (svcAddr h) = [] →
    latchOf (svcAddr h) = none → ∃ t, exec (.serviceReadFrame h []) s = .next t ∧
      t.loc.svcOut.head? = some (w32 (regValue .service (svcAddr h) (countFrame false s))) ∧ t.loc.svcOut.length = 2 ∧
      t.loc.svcFrames = (s.loc.svcFrames + 1) % 65536 ∧ t.time = s.time ∧ t.ring = s.ring ∧ t.fret = s.fret ∧ t.trig = s.trig ∧ t.cfg = s.cfg ∧ t.live = s.live ∧ t.streams = s.streams ∧ t.boot = s.boot) ∧
  (∀ (h : Word) (early : List Nat) (s : State), (svcAlign h = true ∨ svcNoReach h = true) → ∃ t, exec (.serviceReadFrame h early) s = .next t ∧
    t.loc.svcOut.dropLast = List.replicate (svcN h) (0 : Word) ∧ t.loc.svcFrames = (s.loc.svcFrames + 1) % 65536 ∧ t.host = s.host ∧
    t.time = s.time ∧ t.ring = s.ring ∧ t.fret = s.fret ∧ t.trig = s.trig ∧ t.cfg = s.cfg ∧ t.live = s.live ∧ t.streams = s.streams ∧ t.boot = s.boot) ∧
  (∀ (w : Word) (s : State), ∃ t, exec (.serviceWriteFrame 0x02010044#32 [w] (svcCrc 0x02010044#32 [w]) true false) s = .next t ∧
    t.host = { s.host with scratch := w } ∧ t.loc.svcDiscard = false ∧ t.loc.svcDiscards = s.loc.svcDiscards ∧
    t.loc.svcFrames = (s.loc.svcFrames + 1) % 65536 ∧ t.time = s.time ∧ t.ring = s.ring ∧ t.fret = s.fret ∧ t.trig = s.trig ∧ t.cfg = s.cfg ∧ t.live = s.live ∧ t.streams = s.streams ∧ t.boot = s.boot) ∧
  (∀ (h : Word) (data : List Word) (crc : Nat) (whole early : Bool) (s : State),
    (whole = false ∨ data.length ≠ svcN h ∨ svcAlign h = true ∨ svcNoReach h = true ∨ early = true ∨ svcCmd h ≠ 2 ∨ crc ≠ svcCrc h data) →
    ∃ t, exec (.serviceWriteFrame h data crc whole early) s = .next t ∧ t.host = s.host ∧ t.loc.svcDiscard = true ∧
      t.loc.svcDiscards = min 255 (s.loc.svcDiscards + 1) ∧ t.loc.svcOut.length = 1 ∧ t.time = s.time ∧ t.ring = s.ring ∧ t.fret = s.fret ∧
      t.trig = s.trig ∧ t.cfg = s.cfg ∧ t.live = s.live ∧ t.streams = s.streams ∧ t.boot = s.boot) ∧
  (∀ (a : Nat) (s : State), Does (.ospiLineRead a) s
    { passCclk (s.loc.ospi.div * (s.loc.ospi.tCss + 19 + s.loc.ospi.dummies + s.loc.ospi.tCsh)) (toCclk s.loc.ospi.freeAt s) with
      loc.ospiLine := (List.range 32).map (fun i => windowByte s (a / 32 * 32 + i)), loc.spimRdy := true, fresh := s.fresh + 32, loc.ospi.command := ospiCommand s.loc.ospi (a / 32 * 32), loc.ospi.freeAt := max s.time.cclk s.loc.ospi.freeAt +
        s.loc.ospi.div * (s.loc.ospi.tCss + 19 + s.loc.ospi.dummies + s.loc.ospi.tCsh + s.loc.ospi.tCsd) }) ∧
  (∀ (a : Nat) (s : State), exec (.ospiWindowWrite a) s = .next { s with loc.ospiWriteErrors := s.loc.ospiWriteErrors + 1 }) ∧
  (∀ (s : State), Does .ospiRdyTimeout s { passCclk 3200 s with loc.ospiTimeouts := s.loc.ospiTimeouts + 1, loc.spimRdy := false }) ∧
  (∀ (b : Nat) (s : State), b = (s.time.half + 1999999999) / 2000000000 → s.safety.safe = false →
    (s.time.locked = true ∨ s.time.holdover = true) → ∃ t, exec .ppsRise s = .next t ∧ t.loc.pps = true ∧
      t.time = (toInstant (2000000000 * b) s).time ∧ t.loc.ppsFall = 2000000000 * (t.time.half / 2000000000) + 200000000 ∧
      t.host = s.host ∧ t.ring = s.ring ∧ t.fret = s.fret ∧ t.trig = s.trig ∧ t.cfg = s.cfg ∧ t.live = s.live ∧ t.streams = s.streams ∧ t.boot = s.boot) ∧
  (∀ (s : State), (s.safety.safe = true ∨ (s.time.locked = false ∧ s.time.holdover = false)) → ∃ t, exec .ppsRise s = .next t ∧
    t.loc = { s.loc with pps := false } ∧ t.host = s.host ∧ t.ring = s.ring ∧ t.fret = s.fret ∧ t.trig = s.trig ∧ t.cfg = s.cfg ∧ t.live = s.live ∧ t.streams = s.streams ∧ t.boot = s.boot) ∧
  (∀ (s : State), s.loc.pps = true → exec .ppsFall s = .next { toInstant s.loc.ppsFall s with loc.pps := false }) ∧
  (∀ (level : Bool) (s : State), s.loc.reserve = level → exec (.reservePwr level) s = .next s) ∧
  (∀ (level : Bool) (s : State), s.loc.reserve ≠ level → Does (.reservePwr level) s { s with loc.reserve := level })

/-- A waiting increment takes effect at the fret boundary: from 8,795,213,412,906 to 8,796,972,631,510 as it stands, and outside
that range as the nearer bound, with DCO_CLAMP read as 1 in TIME_STATUS. -/
def Obligations.IncrementSaturates : Prop :=
  (∀ (late : Bool) (v : Nat) (s : State), ClockName.cclk ∉ s.safety.clockLost → s.time.incNext = some v → 8795213412906 ≤ v → v ≤ 8796972631510 →
    ∃ t, exec (.fretBoundary late) s = .next t ∧ t.time.inc = v ∧ t.time.incNext = none ∧ t.time.dcoClamp = s.time.dcoClamp) ∧
  (∀ (late : Bool) (v : Nat) (s : State), ClockName.cclk ∉ s.safety.clockLost → s.time.incNext = some v → v < 8795213412906 →
    ∃ t, exec (.fretBoundary late) s = .next t ∧ t.time.inc = 8795213412906 ∧ t.time.incNext = none ∧ bitOf (regValue .pcie 0x2020 t) 5 = true) ∧
  (∀ (late : Bool) (v : Nat) (s : State), ClockName.cclk ∉ s.safety.clockLost → s.time.incNext = some v → 8796972631510 < v →
    ∃ t, exec (.fretBoundary late) s = .next t ∧ t.time.inc = 8796972631510 ∧ t.time.incNext = none ∧ bitOf (regValue .pcie 0x2020 t) 5 = true)

/-- A read of LANE_ERR_LO by a requester that reaches the lane group gives the low error word and latches LANE_ERR_HI,
LANE_BITS_LO and LANE_BITS_HI as they stand, for that requester alone; a read of each that follows returns the latched word, in
whatever state the rest of the hub is by then. -/
def Obligations.LaneErrorLatch : Prop :=
  ∀ (req : Requester) (l o : Nat) (s : State), req ≠ .service → l < 6 → o ∈ [0x10, 0x14, 0x18] → ∃ t, exec (.readLaneErrLo req l) s = .next t ∧
    t.host.readData = w32 (regValue req (0x400C + 256 * l) s) ∧ (∀ q ∈ [Requester.pcie, .service, .controller], q ≠ req → reqOf t q = reqOf s q) ∧
    ∀ u, reqOf u req = reqOf t req → ∃ v, exec (.shadowRead req (0x4000 + 256 * l + o)) u = .next v ∧
      v.host.readData = w32 (regValue req (0x4000 + 256 * l + o) s)
end

