-- ==== Sys2Proof/Laws/State.lean ====
section
/-! SUPPORT. The fields each shared operation leaves as they were: one lemma for each operation, true of every state. -/

namespace Sys2Proof.Machine

@[simp] theorem passCclk_rest (n : Nat) (s : State) :
    (passCclk n s).ptp = s.ptp ∧ (passCclk n s).cfg = s.cfg ∧ (passCclk n s).live = s.live ∧ (passCclk n s).fret = s.fret ∧
    (passCclk n s).fe = s.fe ∧ (passCclk n s).streams = s.streams ∧ (passCclk n s).hist = s.hist ∧ (passCclk n s).dram = s.dram ∧
    (passCclk n s).trig = s.trig ∧ (passCclk n s).red = s.red ∧ (passCclk n s).ring = s.ring ∧ (passCclk n s).lanes = s.lanes ∧
    (passCclk n s).host = s.host ∧ (passCclk n s).pairs = s.pairs ∧ (passCclk n s).safety = s.safety ∧ (passCclk n s).loc = s.loc ∧
    (passCclk n s).boot = s.boot ∧ (passCclk n s).fresh = s.fresh ∧ (passCclk n s).sent = s.sent ∧ (passCclk n s).pending = s.pending := by
  simp [passCclk]

@[simp] theorem toInstant_rest (h : Nat) (s : State) :
    (toInstant h s).ptp = s.ptp ∧ (toInstant h s).cfg = s.cfg ∧ (toInstant h s).live = s.live ∧ (toInstant h s).fret = s.fret ∧
    (toInstant h s).fe = s.fe ∧ (toInstant h s).streams = s.streams ∧ (toInstant h s).hist = s.hist ∧ (toInstant h s).dram = s.dram ∧
    (toInstant h s).trig = s.trig ∧ (toInstant h s).red = s.red ∧ (toInstant h s).ring = s.ring ∧ (toInstant h s).lanes = s.lanes ∧
    (toInstant h s).host = s.host ∧ (toInstant h s).pairs = s.pairs ∧ (toInstant h s).safety = s.safety ∧ (toInstant h s).loc = s.loc ∧
    (toInstant h s).boot = s.boot ∧ (toInstant h s).fresh = s.fresh ∧ (toInstant h s).sent = s.sent ∧
    (toInstant h s).pending = s.pending := by
  unfold toInstant
  (repeat' split) <;> simp

@[simp] theorem toCclk_rest (c : Nat) (s : State) :
    (toCclk c s).ptp = s.ptp ∧ (toCclk c s).cfg = s.cfg ∧ (toCclk c s).live = s.live ∧ (toCclk c s).fret = s.fret ∧
    (toCclk c s).fe = s.fe ∧ (toCclk c s).streams = s.streams ∧ (toCclk c s).hist = s.hist ∧ (toCclk c s).dram = s.dram ∧
    (toCclk c s).trig = s.trig ∧ (toCclk c s).red = s.red ∧ (toCclk c s).ring = s.ring ∧ (toCclk c s).lanes = s.lanes ∧
    (toCclk c s).host = s.host ∧ (toCclk c s).pairs = s.pairs ∧ (toCclk c s).safety = s.safety ∧ (toCclk c s).loc = s.loc ∧
    (toCclk c s).boot = s.boot ∧ (toCclk c s).fresh = s.fresh ∧ (toCclk c s).sent = s.sent ∧ (toCclk c s).pending = s.pending := by
  simp [toCclk]

@[simp] theorem useFree_rest (s : State) :
    (useFree s).time = s.time ∧ (useFree s).ptp = s.ptp ∧ (useFree s).cfg = s.cfg ∧ (useFree s).live = s.live ∧ (useFree s).fret = s.fret ∧
    (useFree s).fe = s.fe ∧ (useFree s).streams = s.streams ∧ (useFree s).hist = s.hist ∧ (useFree s).dram = s.dram ∧
    (useFree s).trig = s.trig ∧ (useFree s).red = s.red ∧ (useFree s).ring = s.ring ∧ (useFree s).lanes = s.lanes ∧
    (useFree s).host = s.host ∧ (useFree s).pairs = s.pairs ∧ (useFree s).safety = s.safety ∧ (useFree s).loc = s.loc ∧
    (useFree s).boot = s.boot ∧ (useFree s).sent = s.sent ∧ (useFree s).pending = s.pending := by
  simp [useFree]

@[simp] theorem sendMsi_rest (v : Nat) (s : State) :
    (sendMsi v s).time = s.time ∧ (sendMsi v s).ptp = s.ptp ∧ (sendMsi v s).cfg = s.cfg ∧ (sendMsi v s).live = s.live ∧
    (sendMsi v s).fret = s.fret ∧ (sendMsi v s).fe = s.fe ∧ (sendMsi v s).streams = s.streams ∧ (sendMsi v s).hist = s.hist ∧
    (sendMsi v s).dram = s.dram ∧ (sendMsi v s).trig = s.trig ∧ (sendMsi v s).red = s.red ∧ (sendMsi v s).ring = s.ring ∧
    (sendMsi v s).lanes = s.lanes ∧ (sendMsi v s).pairs = s.pairs ∧ (sendMsi v s).safety = s.safety ∧ (sendMsi v s).loc = s.loc ∧
    (sendMsi v s).boot = s.boot ∧ (sendMsi v s).fresh = s.fresh ∧ (sendMsi v s).sent = s.sent ∧ (sendMsi v s).pending = s.pending ∧
    (sendMsi v s).host.linkUp = s.host.linkUp ∧ (sendMsi v s).host.perst = s.host.perst ∧ (sendMsi v s).host.ready = s.host.ready ∧
    (sendMsi v s).host.flrSeen = s.host.flrSeen ∧ (sendMsi v s).host.dmaErr = s.host.dmaErr ∧ (sendMsi v s).host.badIdx = s.host.badIdx ∧
    (sendMsi v s).host.boot = s.host.boot ∧ (sendMsi v s).host.wbLo = s.host.wbLo ∧ (sendMsi v s).host.wbHi = s.host.wbHi ∧
    (sendMsi v s).host.rings = s.host.rings ∧ (sendMsi v s).host.alarmQ = s.host.alarmQ ∧ (sendMsi v s).host.logQ = s.host.logQ ∧
    (sendMsi v s).host.traceQ = s.host.traceQ ∧ (sendMsi v s).host.scratch = s.host.scratch ∧ (sendMsi v s).host.reqPcie = s.host.reqPcie ∧
    (sendMsi v s).host.reqSvc = s.host.reqSvc ∧ (sendMsi v s).host.reqCtl = s.host.reqCtl ∧ (sendMsi v s).host.pend = s.host.pend ∧
    (sendMsi v s).host.mask = s.host.mask ∧ (sendMsi v s).host.map = s.host.map ∧ (sendMsi v s).host.aerStatus = s.host.aerStatus ∧
    (sendMsi v s).host.msixMask = s.host.msixMask ∧ (sendMsi v s).host.vecMask = s.host.vecMask ∧
    (sendMsi v s).host.msixTab = s.host.msixTab ∧ (sendMsi v s).host.waiting = s.host.waiting ∧ (sendMsi v s).host.handed = s.host.handed ∧
    (sendMsi v s).host.fetchNext = s.host.fetchNext ∧ (sendMsi v s).host.readData = s.host.readData ∧
    (sendMsi v s).host.alarms = s.host.alarms ∧ (sendMsi v s).host.trace = s.host.trace ∧ (sendMsi v s).host.slots = s.host.slots ∧
    (sendMsi v s).host.orphans = s.host.orphans := by
  unfold sendMsi
  (repeat' split) <;> simp

@[simp] theorem releaseMsi_rest (s : State) :
    (releaseMsi s).time = s.time ∧ (releaseMsi s).ptp = s.ptp ∧ (releaseMsi s).cfg = s.cfg ∧ (releaseMsi s).live = s.live ∧
    (releaseMsi s).fret = s.fret ∧ (releaseMsi s).fe = s.fe ∧ (releaseMsi s).streams = s.streams ∧ (releaseMsi s).hist = s.hist ∧
    (releaseMsi s).dram = s.dram ∧ (releaseMsi s).trig = s.trig ∧ (releaseMsi s).red = s.red ∧ (releaseMsi s).ring = s.ring ∧
    (releaseMsi s).lanes = s.lanes ∧ (releaseMsi s).pairs = s.pairs ∧ (releaseMsi s).safety = s.safety ∧ (releaseMsi s).loc = s.loc ∧
    (releaseMsi s).boot = s.boot ∧ (releaseMsi s).fresh = s.fresh ∧ (releaseMsi s).sent = s.sent ∧ (releaseMsi s).pending = s.pending ∧
    (releaseMsi s).host.linkUp = s.host.linkUp ∧ (releaseMsi s).host.perst = s.host.perst ∧ (releaseMsi s).host.ready = s.host.ready ∧
    (releaseMsi s).host.flrSeen = s.host.flrSeen ∧ (releaseMsi s).host.dmaErr = s.host.dmaErr ∧
    (releaseMsi s).host.badIdx = s.host.badIdx ∧ (releaseMsi s).host.boot = s.host.boot ∧ (releaseMsi s).host.wbLo = s.host.wbLo ∧
    (releaseMsi s).host.wbHi = s.host.wbHi ∧ (releaseMsi s).host.rings = s.host.rings ∧ (releaseMsi s).host.alarmQ = s.host.alarmQ ∧
    (releaseMsi s).host.logQ = s.host.logQ ∧ (releaseMsi s).host.traceQ = s.host.traceQ ∧ (releaseMsi s).host.scratch = s.host.scratch ∧
    (releaseMsi s).host.reqPcie = s.host.reqPcie ∧ (releaseMsi s).host.reqSvc = s.host.reqSvc ∧
    (releaseMsi s).host.reqCtl = s.host.reqCtl ∧ (releaseMsi s).host.pend = s.host.pend ∧ (releaseMsi s).host.mask = s.host.mask ∧
    (releaseMsi s).host.map = s.host.map ∧ (releaseMsi s).host.aerStatus = s.host.aerStatus ∧
    (releaseMsi s).host.msixMask = s.host.msixMask ∧ (releaseMsi s).host.vecMask = s.host.vecMask ∧
    (releaseMsi s).host.msixTab = s.host.msixTab ∧ (releaseMsi s).host.waiting = s.host.waiting ∧
    (releaseMsi s).host.handed = s.host.handed ∧ (releaseMsi s).host.fetchNext = s.host.fetchNext ∧
    (releaseMsi s).host.readData = s.host.readData ∧ (releaseMsi s).host.alarms = s.host.alarms ∧
    (releaseMsi s).host.trace = s.host.trace ∧ (releaseMsi s).host.slots = s.host.slots ∧ (releaseMsi s).host.orphans = s.host.orphans := by
  unfold releaseMsi
  (repeat' split) <;> simp

@[simp] theorem setSource_rest (src : Nat) (s : State) :
    (setSource src s).time = s.time ∧ (setSource src s).ptp = s.ptp ∧ (setSource src s).cfg = s.cfg ∧ (setSource src s).live = s.live ∧
    (setSource src s).fret = s.fret ∧ (setSource src s).fe = s.fe ∧ (setSource src s).streams = s.streams ∧
    (setSource src s).hist = s.hist ∧ (setSource src s).dram = s.dram ∧ (setSource src s).trig = s.trig ∧ (setSource src s).red = s.red ∧
    (setSource src s).ring = s.ring ∧ (setSource src s).lanes = s.lanes ∧ (setSource src s).pairs = s.pairs ∧
    (setSource src s).safety = s.safety ∧ (setSource src s).loc = s.loc ∧ (setSource src s).boot = s.boot ∧
    (setSource src s).fresh = s.fresh ∧ (setSource src s).sent = s.sent ∧ (setSource src s).pending = s.pending ∧
    (setSource src s).host.linkUp = s.host.linkUp ∧ (setSource src s).host.perst = s.host.perst ∧
    (setSource src s).host.ready = s.host.ready ∧ (setSource src s).host.flrSeen = s.host.flrSeen ∧
    (setSource src s).host.dmaErr = s.host.dmaErr ∧ (setSource src s).host.badIdx = s.host.badIdx ∧
    (setSource src s).host.boot = s.host.boot ∧ (setSource src s).host.wbLo = s.host.wbLo ∧ (setSource src s).host.wbHi = s.host.wbHi ∧
    (setSource src s).host.rings = s.host.rings ∧ (setSource src s).host.alarmQ = s.host.alarmQ ∧
    (setSource src s).host.logQ = s.host.logQ ∧ (setSource src s).host.traceQ = s.host.traceQ ∧
    (setSource src s).host.scratch = s.host.scratch ∧ (setSource src s).host.reqPcie = s.host.reqPcie ∧
    (setSource src s).host.reqSvc = s.host.reqSvc ∧ (setSource src s).host.reqCtl = s.host.reqCtl ∧
    (setSource src s).host.mask = s.host.mask ∧ (setSource src s).host.map = s.host.map ∧
    (setSource src s).host.aerStatus = s.host.aerStatus ∧ (setSource src s).host.msixMask = s.host.msixMask ∧
    (setSource src s).host.vecMask = s.host.vecMask ∧ (setSource src s).host.msixTab = s.host.msixTab ∧
    (setSource src s).host.waiting = s.host.waiting ∧ (setSource src s).host.handed = s.host.handed ∧
    (setSource src s).host.fetchNext = s.host.fetchNext ∧ (setSource src s).host.readData = s.host.readData ∧
    (setSource src s).host.alarms = s.host.alarms ∧ (setSource src s).host.trace = s.host.trace ∧
    (setSource src s).host.slots = s.host.slots ∧ (setSource src s).host.orphans = s.host.orphans := by
  simp only [setSource]
  (repeat' split) <;> simp

@[simp] theorem setSourceOf_rest (code source : Nat) (s : State) :
    (setSourceOf code source s).time = s.time ∧ (setSourceOf code source s).ptp = s.ptp ∧ (setSourceOf code source s).cfg = s.cfg ∧
    (setSourceOf code source s).live = s.live ∧ (setSourceOf code source s).fret = s.fret ∧ (setSourceOf code source s).fe = s.fe ∧
    (setSourceOf code source s).streams = s.streams ∧ (setSourceOf code source s).hist = s.hist ∧
    (setSourceOf code source s).dram = s.dram ∧ (setSourceOf code source s).trig = s.trig ∧ (setSourceOf code source s).red = s.red ∧
    (setSourceOf code source s).ring = s.ring ∧ (setSourceOf code source s).lanes = s.lanes ∧ (setSourceOf code source s).pairs = s.pairs ∧
    (setSourceOf code source s).safety = s.safety ∧ (setSourceOf code source s).loc = s.loc ∧ (setSourceOf code source s).boot = s.boot ∧
    (setSourceOf code source s).fresh = s.fresh ∧ (setSourceOf code source s).sent = s.sent ∧
    (setSourceOf code source s).pending = s.pending ∧ (setSourceOf code source s).host.linkUp = s.host.linkUp ∧
    (setSourceOf code source s).host.perst = s.host.perst ∧ (setSourceOf code source s).host.ready = s.host.ready ∧
    (setSourceOf code source s).host.flrSeen = s.host.flrSeen ∧ (setSourceOf code source s).host.dmaErr = s.host.dmaErr ∧
    (setSourceOf code source s).host.badIdx = s.host.badIdx ∧ (setSourceOf code source s).host.boot = s.host.boot ∧
    (setSourceOf code source s).host.wbLo = s.host.wbLo ∧ (setSourceOf code source s).host.wbHi = s.host.wbHi ∧
    (setSourceOf code source s).host.rings = s.host.rings ∧ (setSourceOf code source s).host.alarmQ = s.host.alarmQ ∧
    (setSourceOf code source s).host.logQ = s.host.logQ ∧ (setSourceOf code source s).host.traceQ = s.host.traceQ ∧
    (setSourceOf code source s).host.scratch = s.host.scratch ∧ (setSourceOf code source s).host.reqPcie = s.host.reqPcie ∧
    (setSourceOf code source s).host.reqSvc = s.host.reqSvc ∧ (setSourceOf code source s).host.reqCtl = s.host.reqCtl ∧
    (setSourceOf code source s).host.mask = s.host.mask ∧ (setSourceOf code source s).host.map = s.host.map ∧
    (setSourceOf code source s).host.aerStatus = s.host.aerStatus ∧ (setSourceOf code source s).host.msixMask = s.host.msixMask ∧
    (setSourceOf code source s).host.vecMask = s.host.vecMask ∧ (setSourceOf code source s).host.msixTab = s.host.msixTab ∧
    (setSourceOf code source s).host.waiting = s.host.waiting ∧ (setSourceOf code source s).host.handed = s.host.handed ∧
    (setSourceOf code source s).host.fetchNext = s.host.fetchNext ∧ (setSourceOf code source s).host.readData = s.host.readData ∧
    (setSourceOf code source s).host.alarms = s.host.alarms ∧ (setSourceOf code source s).host.trace = s.host.trace ∧
    (setSourceOf code source s).host.slots = s.host.slots ∧ (setSourceOf code source s).host.orphans = s.host.orphans := by
  unfold setSourceOf
  (repeat' split) <;> simp

@[simp] theorem putRing_rest (r : Nat) (x : HostRing) (s : State) :
    (putRing r x s).time = s.time ∧ (putRing r x s).ptp = s.ptp ∧ (putRing r x s).cfg = s.cfg ∧ (putRing r x s).live = s.live ∧
    (putRing r x s).fret = s.fret ∧ (putRing r x s).fe = s.fe ∧ (putRing r x s).streams = s.streams ∧ (putRing r x s).hist = s.hist ∧
    (putRing r x s).dram = s.dram ∧ (putRing r x s).trig = s.trig ∧ (putRing r x s).red = s.red ∧ (putRing r x s).ring = s.ring ∧
    (putRing r x s).lanes = s.lanes ∧ (putRing r x s).pairs = s.pairs ∧ (putRing r x s).safety = s.safety ∧ (putRing r x s).loc = s.loc ∧
    (putRing r x s).boot = s.boot ∧ (putRing r x s).fresh = s.fresh ∧ (putRing r x s).sent = s.sent ∧ (putRing r x s).pending = s.pending ∧
    (putRing r x s).host.linkUp = s.host.linkUp ∧ (putRing r x s).host.perst = s.host.perst ∧ (putRing r x s).host.ready = s.host.ready ∧
    (putRing r x s).host.flrSeen = s.host.flrSeen ∧ (putRing r x s).host.dmaErr = s.host.dmaErr ∧
    (putRing r x s).host.badIdx = s.host.badIdx ∧ (putRing r x s).host.boot = s.host.boot ∧ (putRing r x s).host.wbLo = s.host.wbLo ∧
    (putRing r x s).host.wbHi = s.host.wbHi ∧ (putRing r x s).host.alarmQ = s.host.alarmQ ∧ (putRing r x s).host.logQ = s.host.logQ ∧
    (putRing r x s).host.traceQ = s.host.traceQ ∧ (putRing r x s).host.scratch = s.host.scratch ∧
    (putRing r x s).host.reqPcie = s.host.reqPcie ∧ (putRing r x s).host.reqSvc = s.host.reqSvc ∧
    (putRing r x s).host.reqCtl = s.host.reqCtl ∧ (putRing r x s).host.pend = s.host.pend ∧ (putRing r x s).host.mask = s.host.mask ∧
    (putRing r x s).host.map = s.host.map ∧ (putRing r x s).host.aerStatus = s.host.aerStatus ∧
    (putRing r x s).host.msixMask = s.host.msixMask ∧ (putRing r x s).host.vecMask = s.host.vecMask ∧
    (putRing r x s).host.msixTab = s.host.msixTab ∧ (putRing r x s).host.pba = s.host.pba ∧
    (putRing r x s).host.msixSent = s.host.msixSent ∧ (putRing r x s).host.waiting = s.host.waiting ∧
    (putRing r x s).host.handed = s.host.handed ∧ (putRing r x s).host.fetchNext = s.host.fetchNext ∧
    (putRing r x s).host.readData = s.host.readData ∧ (putRing r x s).host.alarms = s.host.alarms ∧
    (putRing r x s).host.trace = s.host.trace ∧ (putRing r x s).host.slots = s.host.slots ∧
    (putRing r x s).host.orphans = s.host.orphans := by
  simp [putRing]

@[simp] theorem ringLevel_rest (r : Nat) (s : State) :
    (ringLevel r s).time = s.time ∧ (ringLevel r s).ptp = s.ptp ∧ (ringLevel r s).cfg = s.cfg ∧ (ringLevel r s).live = s.live ∧
    (ringLevel r s).fret = s.fret ∧ (ringLevel r s).fe = s.fe ∧ (ringLevel r s).streams = s.streams ∧ (ringLevel r s).hist = s.hist ∧
    (ringLevel r s).dram = s.dram ∧ (ringLevel r s).trig = s.trig ∧ (ringLevel r s).red = s.red ∧ (ringLevel r s).ring = s.ring ∧
    (ringLevel r s).lanes = s.lanes ∧ (ringLevel r s).pairs = s.pairs ∧ (ringLevel r s).safety = s.safety ∧ (ringLevel r s).loc = s.loc ∧
    (ringLevel r s).boot = s.boot ∧ (ringLevel r s).fresh = s.fresh ∧ (ringLevel r s).sent = s.sent ∧ (ringLevel r s).pending = s.pending ∧
    (ringLevel r s).host.linkUp = s.host.linkUp ∧ (ringLevel r s).host.perst = s.host.perst ∧ (ringLevel r s).host.ready = s.host.ready ∧
    (ringLevel r s).host.flrSeen = s.host.flrSeen ∧ (ringLevel r s).host.dmaErr = s.host.dmaErr ∧
    (ringLevel r s).host.badIdx = s.host.badIdx ∧ (ringLevel r s).host.boot = s.host.boot ∧ (ringLevel r s).host.wbLo = s.host.wbLo ∧
    (ringLevel r s).host.wbHi = s.host.wbHi ∧ (ringLevel r s).host.alarmQ = s.host.alarmQ ∧ (ringLevel r s).host.logQ = s.host.logQ ∧
    (ringLevel r s).host.traceQ = s.host.traceQ ∧ (ringLevel r s).host.scratch = s.host.scratch ∧
    (ringLevel r s).host.reqPcie = s.host.reqPcie ∧ (ringLevel r s).host.reqSvc = s.host.reqSvc ∧
    (ringLevel r s).host.reqCtl = s.host.reqCtl ∧ (ringLevel r s).host.mask = s.host.mask ∧ (ringLevel r s).host.map = s.host.map ∧
    (ringLevel r s).host.aerStatus = s.host.aerStatus ∧ (ringLevel r s).host.msixMask = s.host.msixMask ∧
    (ringLevel r s).host.vecMask = s.host.vecMask ∧ (ringLevel r s).host.msixTab = s.host.msixTab ∧
    (ringLevel r s).host.waiting = s.host.waiting ∧ (ringLevel r s).host.handed = s.host.handed ∧
    (ringLevel r s).host.fetchNext = s.host.fetchNext ∧ (ringLevel r s).host.readData = s.host.readData ∧
    (ringLevel r s).host.alarms = s.host.alarms ∧ (ringLevel r s).host.trace = s.host.trace ∧ (ringLevel r s).host.slots = s.host.slots ∧
    (ringLevel r s).host.orphans = s.host.orphans := by
  simp only [ringLevel]
  (repeat' split) <;> simp

@[simp] theorem writeSlot_rest (r : Nat) (s : State) :
    (writeSlot r s).time = s.time ∧ (writeSlot r s).ptp = s.ptp ∧ (writeSlot r s).cfg = s.cfg ∧ (writeSlot r s).live = s.live ∧
    (writeSlot r s).fret = s.fret ∧ (writeSlot r s).fe = s.fe ∧ (writeSlot r s).streams = s.streams ∧ (writeSlot r s).hist = s.hist ∧
    (writeSlot r s).dram = s.dram ∧ (writeSlot r s).trig = s.trig ∧ (writeSlot r s).red = s.red ∧ (writeSlot r s).ring = s.ring ∧
    (writeSlot r s).lanes = s.lanes ∧ (writeSlot r s).pairs = s.pairs ∧ (writeSlot r s).safety = s.safety ∧ (writeSlot r s).loc = s.loc ∧
    (writeSlot r s).boot = s.boot ∧ (writeSlot r s).fresh = s.fresh ∧ (writeSlot r s).sent = s.sent ∧ (writeSlot r s).pending = s.pending ∧
    (writeSlot r s).host.linkUp = s.host.linkUp ∧ (writeSlot r s).host.perst = s.host.perst ∧ (writeSlot r s).host.ready = s.host.ready ∧
    (writeSlot r s).host.flrSeen = s.host.flrSeen ∧ (writeSlot r s).host.dmaErr = s.host.dmaErr ∧
    (writeSlot r s).host.badIdx = s.host.badIdx ∧ (writeSlot r s).host.boot = s.host.boot ∧ (writeSlot r s).host.wbLo = s.host.wbLo ∧
    (writeSlot r s).host.wbHi = s.host.wbHi ∧ (writeSlot r s).host.rings = s.host.rings ∧ (writeSlot r s).host.alarmQ = s.host.alarmQ ∧
    (writeSlot r s).host.logQ = s.host.logQ ∧ (writeSlot r s).host.traceQ = s.host.traceQ ∧ (writeSlot r s).host.scratch = s.host.scratch ∧
    (writeSlot r s).host.reqPcie = s.host.reqPcie ∧ (writeSlot r s).host.reqSvc = s.host.reqSvc ∧
    (writeSlot r s).host.reqCtl = s.host.reqCtl ∧ (writeSlot r s).host.pend = s.host.pend ∧ (writeSlot r s).host.mask = s.host.mask ∧
    (writeSlot r s).host.map = s.host.map ∧ (writeSlot r s).host.aerStatus = s.host.aerStatus ∧
    (writeSlot r s).host.msixMask = s.host.msixMask ∧ (writeSlot r s).host.vecMask = s.host.vecMask ∧
    (writeSlot r s).host.msixTab = s.host.msixTab ∧ (writeSlot r s).host.pba = s.host.pba ∧
    (writeSlot r s).host.msixSent = s.host.msixSent ∧ (writeSlot r s).host.waiting = s.host.waiting ∧
    (writeSlot r s).host.handed = s.host.handed ∧ (writeSlot r s).host.fetchNext = s.host.fetchNext ∧
    (writeSlot r s).host.readData = s.host.readData ∧ (writeSlot r s).host.alarms = s.host.alarms ∧
    (writeSlot r s).host.trace = s.host.trace ∧ (writeSlot r s).host.orphans = s.host.orphans := by
  simp [writeSlot]

@[simp] theorem ringWrite_rest (r n : Nat) (item : RingItem) (s : State) :
    (ringWrite r n item s).time = s.time ∧ (ringWrite r n item s).ptp = s.ptp ∧ (ringWrite r n item s).cfg = s.cfg ∧
    (ringWrite r n item s).live = s.live ∧ (ringWrite r n item s).fret = s.fret ∧ (ringWrite r n item s).fe = s.fe ∧
    (ringWrite r n item s).streams = s.streams ∧ (ringWrite r n item s).hist = s.hist ∧ (ringWrite r n item s).dram = s.dram ∧
    (ringWrite r n item s).trig = s.trig ∧ (ringWrite r n item s).red = s.red ∧ (ringWrite r n item s).ring = s.ring ∧
    (ringWrite r n item s).lanes = s.lanes ∧ (ringWrite r n item s).pairs = s.pairs ∧ (ringWrite r n item s).safety = s.safety ∧
    (ringWrite r n item s).loc = s.loc ∧ (ringWrite r n item s).boot = s.boot ∧ (ringWrite r n item s).fresh = s.fresh ∧
    (ringWrite r n item s).sent = s.sent ∧ (ringWrite r n item s).pending = s.pending ∧
    (ringWrite r n item s).host.linkUp = s.host.linkUp ∧ (ringWrite r n item s).host.perst = s.host.perst ∧
    (ringWrite r n item s).host.ready = s.host.ready ∧ (ringWrite r n item s).host.flrSeen = s.host.flrSeen ∧
    (ringWrite r n item s).host.dmaErr = s.host.dmaErr ∧ (ringWrite r n item s).host.badIdx = s.host.badIdx ∧
    (ringWrite r n item s).host.boot = s.host.boot ∧ (ringWrite r n item s).host.wbLo = s.host.wbLo ∧
    (ringWrite r n item s).host.wbHi = s.host.wbHi ∧ (ringWrite r n item s).host.alarmQ = s.host.alarmQ ∧
    (ringWrite r n item s).host.logQ = s.host.logQ ∧ (ringWrite r n item s).host.traceQ = s.host.traceQ ∧
    (ringWrite r n item s).host.scratch = s.host.scratch ∧ (ringWrite r n item s).host.reqPcie = s.host.reqPcie ∧
    (ringWrite r n item s).host.reqSvc = s.host.reqSvc ∧ (ringWrite r n item s).host.reqCtl = s.host.reqCtl ∧
    (ringWrite r n item s).host.mask = s.host.mask ∧ (ringWrite r n item s).host.map = s.host.map ∧
    (ringWrite r n item s).host.aerStatus = s.host.aerStatus ∧ (ringWrite r n item s).host.msixMask = s.host.msixMask ∧
    (ringWrite r n item s).host.vecMask = s.host.vecMask ∧ (ringWrite r n item s).host.msixTab = s.host.msixTab ∧
    (ringWrite r n item s).host.waiting = s.host.waiting ∧ (ringWrite r n item s).host.handed = s.host.handed ∧
    (ringWrite r n item s).host.fetchNext = s.host.fetchNext ∧ (ringWrite r n item s).host.readData = s.host.readData ∧
    (ringWrite r n item s).host.alarms = s.host.alarms ∧ (ringWrite r n item s).host.trace = s.host.trace ∧
    (ringWrite r n item s).host.orphans = s.host.orphans := by
  simp [ringWrite]

@[simp] theorem addLoss_rest (type n : Nat) (s : State) :
    (addLoss type n s).time = s.time ∧ (addLoss type n s).ptp = s.ptp ∧ (addLoss type n s).cfg = s.cfg ∧ (addLoss type n s).live = s.live ∧
    (addLoss type n s).fret = s.fret ∧ (addLoss type n s).fe = s.fe ∧ (addLoss type n s).streams = s.streams ∧
    (addLoss type n s).hist = s.hist ∧ (addLoss type n s).dram = s.dram ∧ (addLoss type n s).trig = s.trig ∧
    (addLoss type n s).red = s.red ∧ (addLoss type n s).ring = s.ring ∧ (addLoss type n s).lanes = s.lanes ∧
    (addLoss type n s).pairs = s.pairs ∧ (addLoss type n s).safety = s.safety ∧ (addLoss type n s).loc = s.loc ∧
    (addLoss type n s).boot = s.boot ∧ (addLoss type n s).fresh = s.fresh ∧ (addLoss type n s).sent = s.sent ∧
    (addLoss type n s).pending = s.pending ∧ (addLoss type n s).host.linkUp = s.host.linkUp ∧
    (addLoss type n s).host.perst = s.host.perst ∧ (addLoss type n s).host.ready = s.host.ready ∧
    (addLoss type n s).host.flrSeen = s.host.flrSeen ∧ (addLoss type n s).host.dmaErr = s.host.dmaErr ∧
    (addLoss type n s).host.badIdx = s.host.badIdx ∧ (addLoss type n s).host.boot = s.host.boot ∧
    (addLoss type n s).host.wbLo = s.host.wbLo ∧ (addLoss type n s).host.wbHi = s.host.wbHi ∧
    (addLoss type n s).host.alarmQ = s.host.alarmQ ∧ (addLoss type n s).host.logQ = s.host.logQ ∧
    (addLoss type n s).host.traceQ = s.host.traceQ ∧ (addLoss type n s).host.scratch = s.host.scratch ∧
    (addLoss type n s).host.reqPcie = s.host.reqPcie ∧ (addLoss type n s).host.reqSvc = s.host.reqSvc ∧
    (addLoss type n s).host.reqCtl = s.host.reqCtl ∧ (addLoss type n s).host.pend = s.host.pend ∧
    (addLoss type n s).host.mask = s.host.mask ∧ (addLoss type n s).host.map = s.host.map ∧
    (addLoss type n s).host.aerStatus = s.host.aerStatus ∧ (addLoss type n s).host.msixMask = s.host.msixMask ∧
    (addLoss type n s).host.vecMask = s.host.vecMask ∧ (addLoss type n s).host.msixTab = s.host.msixTab ∧
    (addLoss type n s).host.pba = s.host.pba ∧ (addLoss type n s).host.msixSent = s.host.msixSent ∧
    (addLoss type n s).host.waiting = s.host.waiting ∧ (addLoss type n s).host.handed = s.host.handed ∧
    (addLoss type n s).host.fetchNext = s.host.fetchNext ∧ (addLoss type n s).host.readData = s.host.readData ∧
    (addLoss type n s).host.alarms = s.host.alarms ∧ (addLoss type n s).host.trace = s.host.trace ∧
    (addLoss type n s).host.slots = s.host.slots ∧ (addLoss type n s).host.orphans = s.host.orphans := by
  unfold addLoss
  (repeat' split) <;> simp

@[simp] theorem fifoLevel_rest (type : Nat) (s : State) :
    (fifoLevel type s).time = s.time ∧ (fifoLevel type s).ptp = s.ptp ∧ (fifoLevel type s).cfg = s.cfg ∧ (fifoLevel type s).live = s.live ∧
    (fifoLevel type s).fret = s.fret ∧ (fifoLevel type s).fe = s.fe ∧ (fifoLevel type s).streams = s.streams ∧
    (fifoLevel type s).hist = s.hist ∧ (fifoLevel type s).dram = s.dram ∧ (fifoLevel type s).trig = s.trig ∧
    (fifoLevel type s).red = s.red ∧ (fifoLevel type s).ring = s.ring ∧ (fifoLevel type s).lanes = s.lanes ∧
    (fifoLevel type s).pairs = s.pairs ∧ (fifoLevel type s).safety = s.safety ∧ (fifoLevel type s).loc = s.loc ∧
    (fifoLevel type s).boot = s.boot ∧ (fifoLevel type s).fresh = s.fresh ∧ (fifoLevel type s).sent = s.sent ∧
    (fifoLevel type s).pending = s.pending ∧ (fifoLevel type s).host.linkUp = s.host.linkUp ∧
    (fifoLevel type s).host.perst = s.host.perst ∧ (fifoLevel type s).host.ready = s.host.ready ∧
    (fifoLevel type s).host.flrSeen = s.host.flrSeen ∧ (fifoLevel type s).host.dmaErr = s.host.dmaErr ∧
    (fifoLevel type s).host.badIdx = s.host.badIdx ∧ (fifoLevel type s).host.boot = s.host.boot ∧
    (fifoLevel type s).host.wbLo = s.host.wbLo ∧ (fifoLevel type s).host.wbHi = s.host.wbHi ∧
    (fifoLevel type s).host.alarmQ = s.host.alarmQ ∧ (fifoLevel type s).host.logQ = s.host.logQ ∧
    (fifoLevel type s).host.traceQ = s.host.traceQ ∧ (fifoLevel type s).host.scratch = s.host.scratch ∧
    (fifoLevel type s).host.reqPcie = s.host.reqPcie ∧ (fifoLevel type s).host.reqSvc = s.host.reqSvc ∧
    (fifoLevel type s).host.reqCtl = s.host.reqCtl ∧ (fifoLevel type s).host.mask = s.host.mask ∧
    (fifoLevel type s).host.map = s.host.map ∧ (fifoLevel type s).host.aerStatus = s.host.aerStatus ∧
    (fifoLevel type s).host.msixMask = s.host.msixMask ∧ (fifoLevel type s).host.vecMask = s.host.vecMask ∧
    (fifoLevel type s).host.msixTab = s.host.msixTab ∧ (fifoLevel type s).host.waiting = s.host.waiting ∧
    (fifoLevel type s).host.handed = s.host.handed ∧ (fifoLevel type s).host.fetchNext = s.host.fetchNext ∧
    (fifoLevel type s).host.readData = s.host.readData ∧ (fifoLevel type s).host.alarms = s.host.alarms ∧
    (fifoLevel type s).host.trace = s.host.trace ∧ (fifoLevel type s).host.slots = s.host.slots ∧
    (fifoLevel type s).host.orphans = s.host.orphans := by
  unfold fifoLevel
  (repeat' split) <;> simp

@[simp] theorem pushEventRing_rest (e : QEntry) (r : Nat) (s : State) :
    (pushEventRing e r s).time = s.time ∧ (pushEventRing e r s).ptp = s.ptp ∧ (pushEventRing e r s).cfg = s.cfg ∧
    (pushEventRing e r s).live = s.live ∧ (pushEventRing e r s).fret = s.fret ∧ (pushEventRing e r s).fe = s.fe ∧
    (pushEventRing e r s).streams = s.streams ∧ (pushEventRing e r s).hist = s.hist ∧ (pushEventRing e r s).dram = s.dram ∧
    (pushEventRing e r s).trig = s.trig ∧ (pushEventRing e r s).red = s.red ∧ (pushEventRing e r s).ring = s.ring ∧
    (pushEventRing e r s).lanes = s.lanes ∧ (pushEventRing e r s).pairs = s.pairs ∧ (pushEventRing e r s).safety = s.safety ∧
    (pushEventRing e r s).loc = s.loc ∧ (pushEventRing e r s).boot = s.boot ∧ (pushEventRing e r s).fresh = s.fresh ∧
    (pushEventRing e r s).sent = s.sent ∧ (pushEventRing e r s).pending = s.pending ∧ (pushEventRing e r s).host.linkUp = s.host.linkUp ∧
    (pushEventRing e r s).host.perst = s.host.perst ∧ (pushEventRing e r s).host.ready = s.host.ready ∧
    (pushEventRing e r s).host.flrSeen = s.host.flrSeen ∧ (pushEventRing e r s).host.dmaErr = s.host.dmaErr ∧
    (pushEventRing e r s).host.badIdx = s.host.badIdx ∧ (pushEventRing e r s).host.boot = s.host.boot ∧
    (pushEventRing e r s).host.wbLo = s.host.wbLo ∧ (pushEventRing e r s).host.wbHi = s.host.wbHi ∧
    (pushEventRing e r s).host.alarmQ = s.host.alarmQ ∧ (pushEventRing e r s).host.logQ = s.host.logQ ∧
    (pushEventRing e r s).host.traceQ = s.host.traceQ ∧ (pushEventRing e r s).host.scratch = s.host.scratch ∧
    (pushEventRing e r s).host.reqPcie = s.host.reqPcie ∧ (pushEventRing e r s).host.reqSvc = s.host.reqSvc ∧
    (pushEventRing e r s).host.reqCtl = s.host.reqCtl ∧ (pushEventRing e r s).host.mask = s.host.mask ∧
    (pushEventRing e r s).host.map = s.host.map ∧ (pushEventRing e r s).host.aerStatus = s.host.aerStatus ∧
    (pushEventRing e r s).host.msixMask = s.host.msixMask ∧ (pushEventRing e r s).host.vecMask = s.host.vecMask ∧
    (pushEventRing e r s).host.msixTab = s.host.msixTab ∧ (pushEventRing e r s).host.waiting = s.host.waiting ∧
    (pushEventRing e r s).host.handed = s.host.handed ∧ (pushEventRing e r s).host.fetchNext = s.host.fetchNext ∧
    (pushEventRing e r s).host.readData = s.host.readData ∧ (pushEventRing e r s).host.alarms = s.host.alarms ∧
    (pushEventRing e r s).host.trace = s.host.trace ∧ (pushEventRing e r s).host.slots = s.host.slots ∧
    (pushEventRing e r s).host.orphans = s.host.orphans := by
  simp only [pushEventRing]
  (repeat' split) <;> simp

@[simp] theorem pushEventRings_rest (e : QEntry) (l : List Nat) (s : State) :
    (l.foldl (fun t r => pushEventRing e r t) s).time = s.time ∧ (l.foldl (fun t r => pushEventRing e r t) s).ptp = s.ptp ∧
    (l.foldl (fun t r => pushEventRing e r t) s).cfg = s.cfg ∧ (l.foldl (fun t r => pushEventRing e r t) s).live = s.live ∧
    (l.foldl (fun t r => pushEventRing e r t) s).fret = s.fret ∧ (l.foldl (fun t r => pushEventRing e r t) s).fe = s.fe ∧
    (l.foldl (fun t r => pushEventRing e r t) s).streams = s.streams ∧ (l.foldl (fun t r => pushEventRing e r t) s).hist = s.hist ∧
    (l.foldl (fun t r => pushEventRing e r t) s).dram = s.dram ∧ (l.foldl (fun t r => pushEventRing e r t) s).trig = s.trig ∧
    (l.foldl (fun t r => pushEventRing e r t) s).red = s.red ∧ (l.foldl (fun t r => pushEventRing e r t) s).ring = s.ring ∧
    (l.foldl (fun t r => pushEventRing e r t) s).lanes = s.lanes ∧ (l.foldl (fun t r => pushEventRing e r t) s).pairs = s.pairs ∧
    (l.foldl (fun t r => pushEventRing e r t) s).safety = s.safety ∧ (l.foldl (fun t r => pushEventRing e r t) s).loc = s.loc ∧
    (l.foldl (fun t r => pushEventRing e r t) s).boot = s.boot ∧ (l.foldl (fun t r => pushEventRing e r t) s).fresh = s.fresh ∧
    (l.foldl (fun t r => pushEventRing e r t) s).sent = s.sent ∧ (l.foldl (fun t r => pushEventRing e r t) s).pending = s.pending ∧
    (l.foldl (fun t r => pushEventRing e r t) s).host.linkUp = s.host.linkUp ∧
    (l.foldl (fun t r => pushEventRing e r t) s).host.perst = s.host.perst ∧
    (l.foldl (fun t r => pushEventRing e r t) s).host.ready = s.host.ready ∧
    (l.foldl (fun t r => pushEventRing e r t) s).host.flrSeen = s.host.flrSeen ∧
    (l.foldl (fun t r => pushEventRing e r t) s).host.dmaErr = s.host.dmaErr ∧
    (l.foldl (fun t r => pushEventRing e r t) s).host.badIdx = s.host.badIdx ∧
    (l.foldl (fun t r => pushEventRing e r t) s).host.boot = s.host.boot ∧
    (l.foldl (fun t r => pushEventRing e r t) s).host.wbLo = s.host.wbLo ∧
    (l.foldl (fun t r => pushEventRing e r t) s).host.wbHi = s.host.wbHi ∧
    (l.foldl (fun t r => pushEventRing e r t) s).host.alarmQ = s.host.alarmQ ∧
    (l.foldl (fun t r => pushEventRing e r t) s).host.logQ = s.host.logQ ∧
    (l.foldl (fun t r => pushEventRing e r t) s).host.traceQ = s.host.traceQ ∧
    (l.foldl (fun t r => pushEventRing e r t) s).host.scratch = s.host.scratch ∧
    (l.foldl (fun t r => pushEventRing e r t) s).host.reqPcie = s.host.reqPcie ∧
    (l.foldl (fun t r => pushEventRing e r t) s).host.reqSvc = s.host.reqSvc ∧
    (l.foldl (fun t r => pushEventRing e r t) s).host.reqCtl = s.host.reqCtl ∧
    (l.foldl (fun t r => pushEventRing e r t) s).host.mask = s.host.mask ∧
    (l.foldl (fun t r => pushEventRing e r t) s).host.map = s.host.map ∧
    (l.foldl (fun t r => pushEventRing e r t) s).host.aerStatus = s.host.aerStatus ∧
    (l.foldl (fun t r => pushEventRing e r t) s).host.msixMask = s.host.msixMask ∧
    (l.foldl (fun t r => pushEventRing e r t) s).host.vecMask = s.host.vecMask ∧
    (l.foldl (fun t r => pushEventRing e r t) s).host.msixTab = s.host.msixTab ∧
    (l.foldl (fun t r => pushEventRing e r t) s).host.waiting = s.host.waiting ∧
    (l.foldl (fun t r => pushEventRing e r t) s).host.handed = s.host.handed ∧
    (l.foldl (fun t r => pushEventRing e r t) s).host.fetchNext = s.host.fetchNext ∧
    (l.foldl (fun t r => pushEventRing e r t) s).host.readData = s.host.readData ∧
    (l.foldl (fun t r => pushEventRing e r t) s).host.alarms = s.host.alarms ∧
    (l.foldl (fun t r => pushEventRing e r t) s).host.trace = s.host.trace ∧
    (l.foldl (fun t r => pushEventRing e r t) s).host.slots = s.host.slots ∧
    (l.foldl (fun t r => pushEventRing e r t) s).host.orphans = s.host.orphans := by
  induction l generalizing s with
  | nil => simp
  | cons r l ih => simp [ih]

@[simp] theorem pushAlarm_rest (e : QEntry) (s : State) :
    (pushAlarm e s).time = s.time ∧ (pushAlarm e s).ptp = s.ptp ∧ (pushAlarm e s).cfg = s.cfg ∧ (pushAlarm e s).live = s.live ∧
    (pushAlarm e s).fret = s.fret ∧ (pushAlarm e s).fe = s.fe ∧ (pushAlarm e s).streams = s.streams ∧ (pushAlarm e s).hist = s.hist ∧
    (pushAlarm e s).dram = s.dram ∧ (pushAlarm e s).trig = s.trig ∧ (pushAlarm e s).red = s.red ∧ (pushAlarm e s).ring = s.ring ∧
    (pushAlarm e s).lanes = s.lanes ∧ (pushAlarm e s).pairs = s.pairs ∧ (pushAlarm e s).safety = s.safety ∧ (pushAlarm e s).loc = s.loc ∧
    (pushAlarm e s).boot = s.boot ∧ (pushAlarm e s).fresh = s.fresh ∧ (pushAlarm e s).sent = s.sent ∧ (pushAlarm e s).pending = s.pending ∧
    (pushAlarm e s).host.linkUp = s.host.linkUp ∧ (pushAlarm e s).host.perst = s.host.perst ∧ (pushAlarm e s).host.ready = s.host.ready ∧
    (pushAlarm e s).host.flrSeen = s.host.flrSeen ∧ (pushAlarm e s).host.dmaErr = s.host.dmaErr ∧
    (pushAlarm e s).host.badIdx = s.host.badIdx ∧ (pushAlarm e s).host.boot = s.host.boot ∧ (pushAlarm e s).host.wbLo = s.host.wbLo ∧
    (pushAlarm e s).host.wbHi = s.host.wbHi ∧ (pushAlarm e s).host.logQ = s.host.logQ ∧ (pushAlarm e s).host.traceQ = s.host.traceQ ∧
    (pushAlarm e s).host.scratch = s.host.scratch ∧ (pushAlarm e s).host.reqPcie = s.host.reqPcie ∧
    (pushAlarm e s).host.reqSvc = s.host.reqSvc ∧ (pushAlarm e s).host.reqCtl = s.host.reqCtl ∧ (pushAlarm e s).host.mask = s.host.mask ∧
    (pushAlarm e s).host.map = s.host.map ∧ (pushAlarm e s).host.aerStatus = s.host.aerStatus ∧
    (pushAlarm e s).host.msixMask = s.host.msixMask ∧ (pushAlarm e s).host.vecMask = s.host.vecMask ∧
    (pushAlarm e s).host.msixTab = s.host.msixTab ∧ (pushAlarm e s).host.waiting = s.host.waiting ∧
    (pushAlarm e s).host.handed = s.host.handed ∧ (pushAlarm e s).host.fetchNext = s.host.fetchNext ∧
    (pushAlarm e s).host.readData = s.host.readData ∧ (pushAlarm e s).host.alarms = s.host.alarms ∧
    (pushAlarm e s).host.trace = s.host.trace ∧ (pushAlarm e s).host.slots = s.host.slots ∧
    (pushAlarm e s).host.orphans = s.host.orphans := by
  unfold pushAlarm
  (repeat' split) <;> simp

@[simp] theorem logEntry_rest (code : Nat) (args : List Byte) (s : State) :
    (logEntry code args s).time = s.time ∧ (logEntry code args s).ptp = s.ptp ∧ (logEntry code args s).cfg = s.cfg ∧
    (logEntry code args s).live = s.live ∧ (logEntry code args s).fret = s.fret ∧ (logEntry code args s).fe = s.fe ∧
    (logEntry code args s).streams = s.streams ∧ (logEntry code args s).hist = s.hist ∧ (logEntry code args s).dram = s.dram ∧
    (logEntry code args s).trig = s.trig ∧ (logEntry code args s).red = s.red ∧ (logEntry code args s).ring = s.ring ∧
    (logEntry code args s).lanes = s.lanes ∧ (logEntry code args s).pairs = s.pairs ∧ (logEntry code args s).safety = s.safety ∧
    (logEntry code args s).loc = s.loc ∧ (logEntry code args s).boot = s.boot ∧ (logEntry code args s).fresh = s.fresh ∧
    (logEntry code args s).sent = s.sent ∧ (logEntry code args s).pending = s.pending ∧
    (logEntry code args s).host.linkUp = s.host.linkUp ∧ (logEntry code args s).host.perst = s.host.perst ∧
    (logEntry code args s).host.ready = s.host.ready ∧ (logEntry code args s).host.flrSeen = s.host.flrSeen ∧
    (logEntry code args s).host.dmaErr = s.host.dmaErr ∧ (logEntry code args s).host.badIdx = s.host.badIdx ∧
    (logEntry code args s).host.boot = s.host.boot ∧ (logEntry code args s).host.wbLo = s.host.wbLo ∧
    (logEntry code args s).host.wbHi = s.host.wbHi ∧ (logEntry code args s).host.alarmQ = s.host.alarmQ ∧
    (logEntry code args s).host.traceQ = s.host.traceQ ∧ (logEntry code args s).host.scratch = s.host.scratch ∧
    (logEntry code args s).host.reqPcie = s.host.reqPcie ∧ (logEntry code args s).host.reqSvc = s.host.reqSvc ∧
    (logEntry code args s).host.reqCtl = s.host.reqCtl ∧ (logEntry code args s).host.mask = s.host.mask ∧
    (logEntry code args s).host.map = s.host.map ∧ (logEntry code args s).host.aerStatus = s.host.aerStatus ∧
    (logEntry code args s).host.msixMask = s.host.msixMask ∧ (logEntry code args s).host.vecMask = s.host.vecMask ∧
    (logEntry code args s).host.msixTab = s.host.msixTab ∧ (logEntry code args s).host.waiting = s.host.waiting ∧
    (logEntry code args s).host.handed = s.host.handed ∧ (logEntry code args s).host.fetchNext = s.host.fetchNext ∧
    (logEntry code args s).host.readData = s.host.readData ∧ (logEntry code args s).host.alarms = s.host.alarms ∧
    (logEntry code args s).host.trace = s.host.trace ∧ (logEntry code args s).host.slots = s.host.slots ∧
    (logEntry code args s).host.orphans = s.host.orphans := by
  simp only [logEntry]
  (repeat' split) <;> simp

@[simp] theorem traceEntry_rest (code source : Nat) (args : List Byte) (s : State) :
    (traceEntry code source args s).time = s.time ∧ (traceEntry code source args s).ptp = s.ptp ∧
    (traceEntry code source args s).cfg = s.cfg ∧ (traceEntry code source args s).live = s.live ∧
    (traceEntry code source args s).fret = s.fret ∧ (traceEntry code source args s).fe = s.fe ∧
    (traceEntry code source args s).streams = s.streams ∧ (traceEntry code source args s).hist = s.hist ∧
    (traceEntry code source args s).dram = s.dram ∧ (traceEntry code source args s).trig = s.trig ∧
    (traceEntry code source args s).red = s.red ∧ (traceEntry code source args s).ring = s.ring ∧
    (traceEntry code source args s).lanes = s.lanes ∧ (traceEntry code source args s).pairs = s.pairs ∧
    (traceEntry code source args s).safety = s.safety ∧ (traceEntry code source args s).loc = s.loc ∧
    (traceEntry code source args s).boot = s.boot ∧ (traceEntry code source args s).fresh = s.fresh ∧
    (traceEntry code source args s).sent = s.sent ∧ (traceEntry code source args s).pending = s.pending ∧
    (traceEntry code source args s).host.linkUp = s.host.linkUp ∧ (traceEntry code source args s).host.perst = s.host.perst ∧
    (traceEntry code source args s).host.ready = s.host.ready ∧ (traceEntry code source args s).host.flrSeen = s.host.flrSeen ∧
    (traceEntry code source args s).host.dmaErr = s.host.dmaErr ∧ (traceEntry code source args s).host.badIdx = s.host.badIdx ∧
    (traceEntry code source args s).host.boot = s.host.boot ∧ (traceEntry code source args s).host.wbLo = s.host.wbLo ∧
    (traceEntry code source args s).host.wbHi = s.host.wbHi ∧ (traceEntry code source args s).host.alarmQ = s.host.alarmQ ∧
    (traceEntry code source args s).host.logQ = s.host.logQ ∧ (traceEntry code source args s).host.scratch = s.host.scratch ∧
    (traceEntry code source args s).host.reqPcie = s.host.reqPcie ∧ (traceEntry code source args s).host.reqSvc = s.host.reqSvc ∧
    (traceEntry code source args s).host.reqCtl = s.host.reqCtl ∧ (traceEntry code source args s).host.mask = s.host.mask ∧
    (traceEntry code source args s).host.map = s.host.map ∧ (traceEntry code source args s).host.aerStatus = s.host.aerStatus ∧
    (traceEntry code source args s).host.msixMask = s.host.msixMask ∧ (traceEntry code source args s).host.vecMask = s.host.vecMask ∧
    (traceEntry code source args s).host.msixTab = s.host.msixTab ∧ (traceEntry code source args s).host.waiting = s.host.waiting ∧
    (traceEntry code source args s).host.handed = s.host.handed ∧ (traceEntry code source args s).host.fetchNext = s.host.fetchNext ∧
    (traceEntry code source args s).host.readData = s.host.readData ∧ (traceEntry code source args s).host.alarms = s.host.alarms ∧
    (traceEntry code source args s).host.slots = s.host.slots ∧ (traceEntry code source args s).host.orphans = s.host.orphans := by
  simp only [traceEntry]
  (repeat' split) <;> simp

@[simp] theorem fileEvent_rest (e : Event) (s : State) :
    (fileEvent e s).time = s.time ∧ (fileEvent e s).ptp = s.ptp ∧ (fileEvent e s).cfg = s.cfg ∧ (fileEvent e s).live = s.live ∧
    (fileEvent e s).fe = s.fe ∧ (fileEvent e s).streams = s.streams ∧ (fileEvent e s).hist = s.hist ∧ (fileEvent e s).dram = s.dram ∧
    (fileEvent e s).trig = s.trig ∧ (fileEvent e s).red = s.red ∧ (fileEvent e s).ring = s.ring ∧ (fileEvent e s).lanes = s.lanes ∧
    (fileEvent e s).host = s.host ∧ (fileEvent e s).safety = s.safety ∧ (fileEvent e s).loc = s.loc ∧ (fileEvent e s).boot = s.boot ∧
    (fileEvent e s).fresh = s.fresh ∧ (fileEvent e s).sent = s.sent ∧ (fileEvent e s).pending = s.pending ∧
    (fileEvent e s).pairs.p0 = s.pairs.p0 ∧ (fileEvent e s).pairs.p1 = s.pairs.p1 ∧ (fileEvent e s).pairs.lastActive = s.pairs.lastActive ∧
    (fileEvent e s).pairs.lastCause = s.pairs.lastCause ∧ (fileEvent e s).pairs.fenceSeen = s.pairs.fenceSeen ∧
    (fileEvent e s).pairs.stage = s.pairs.stage ∧ (fileEvent e s).pairs.drillHdr = s.pairs.drillHdr ∧
    (fileEvent e s).pairs.commitSwap = s.pairs.commitSwap ∧ (fileEvent e s).pairs.drillStart = s.pairs.drillStart ∧
    (fileEvent e s).pairs.drillMicros = s.pairs.drillMicros ∧ (fileEvent e s).pairs.startDeadline = s.pairs.startDeadline ∧
    (fileEvent e s).pairs.failCount = s.pairs.failCount ∧ (fileEvent e s).pairs.drills = s.pairs.drills ∧
    (fileEvent e s).pairs.failovers = s.pairs.failovers ∧ (fileEvent e s).pairs.fenceStamp = s.pairs.fenceStamp ∧
    (fileEvent e s).pairs.fencedAt = s.pairs.fencedAt ∧ (fileEvent e s).pairs.ckptNo = s.pairs.ckptNo ∧
    (fileEvent e s).pairs.slotA = s.pairs.slotA ∧ (fileEvent e s).pairs.slotB = s.pairs.slotB ∧
    (fileEvent e s).pairs.toSlotB = s.pairs.toSlotB ∧ (fileEvent e s).pairs.staging = s.pairs.staging ∧
    (fileEvent e s).fret.idx = s.fret.idx ∧ (fileEvent e s).fret.boundary = s.fret.boundary ∧
    (fileEvent e s).fret.acquiring = s.fret.acquiring ∧ (fileEvent e s).fret.startAt = s.fret.startAt ∧
    (fileEvent e s).fret.stopAt = s.fret.stopAt ∧ (fileEvent e s).fret.regrid = s.fret.regrid ∧
    (fileEvent e s).fret.holdClose = s.fret.holdClose ∧ (fileEvent e s).fret.closing = s.fret.closing ∧
    (fileEvent e s).fret.atBoundary = s.fret.atBoundary ∧ (fileEvent e s).fret.closeStreams = s.fret.closeStreams ∧
    (fileEvent e s).fret.closeDue = s.fret.closeDue ∧ (fileEvent e s).fret.closeAt = s.fret.closeAt := by
  unfold fileEvent
  (repeat' split) <;> simp

@[simp] theorem eventAt_rest (code source stamp : Nat) (args : List Byte) (s : State) :
    (eventAt code source stamp args s).time = s.time ∧ (eventAt code source stamp args s).ptp = s.ptp ∧
    (eventAt code source stamp args s).cfg = s.cfg ∧ (eventAt code source stamp args s).live = s.live ∧
    (eventAt code source stamp args s).fe = s.fe ∧ (eventAt code source stamp args s).streams = s.streams ∧
    (eventAt code source stamp args s).hist = s.hist ∧ (eventAt code source stamp args s).dram = s.dram ∧
    (eventAt code source stamp args s).trig = s.trig ∧ (eventAt code source stamp args s).red = s.red ∧
    (eventAt code source stamp args s).ring = s.ring ∧ (eventAt code source stamp args s).lanes = s.lanes ∧
    (eventAt code source stamp args s).safety = s.safety ∧ (eventAt code source stamp args s).loc = s.loc ∧
    (eventAt code source stamp args s).boot = s.boot ∧ (eventAt code source stamp args s).fresh = s.fresh ∧
    (eventAt code source stamp args s).sent = s.sent ∧ (eventAt code source stamp args s).pending = s.pending ∧
    (eventAt code source stamp args s).host.linkUp = s.host.linkUp ∧ (eventAt code source stamp args s).host.perst = s.host.perst ∧
    (eventAt code source stamp args s).host.ready = s.host.ready ∧ (eventAt code source stamp args s).host.flrSeen = s.host.flrSeen ∧
    (eventAt code source stamp args s).host.dmaErr = s.host.dmaErr ∧ (eventAt code source stamp args s).host.badIdx = s.host.badIdx ∧
    (eventAt code source stamp args s).host.boot = s.host.boot ∧ (eventAt code source stamp args s).host.wbLo = s.host.wbLo ∧
    (eventAt code source stamp args s).host.wbHi = s.host.wbHi ∧ (eventAt code source stamp args s).host.alarmQ = s.host.alarmQ ∧
    (eventAt code source stamp args s).host.logQ = s.host.logQ ∧ (eventAt code source stamp args s).host.traceQ = s.host.traceQ ∧
    (eventAt code source stamp args s).host.scratch = s.host.scratch ∧ (eventAt code source stamp args s).host.reqPcie = s.host.reqPcie ∧
    (eventAt code source stamp args s).host.reqSvc = s.host.reqSvc ∧ (eventAt code source stamp args s).host.reqCtl = s.host.reqCtl ∧
    (eventAt code source stamp args s).host.mask = s.host.mask ∧ (eventAt code source stamp args s).host.map = s.host.map ∧
    (eventAt code source stamp args s).host.aerStatus = s.host.aerStatus ∧
    (eventAt code source stamp args s).host.msixMask = s.host.msixMask ∧ (eventAt code source stamp args s).host.vecMask = s.host.vecMask ∧
    (eventAt code source stamp args s).host.msixTab = s.host.msixTab ∧ (eventAt code source stamp args s).host.waiting = s.host.waiting ∧
    (eventAt code source stamp args s).host.handed = s.host.handed ∧ (eventAt code source stamp args s).host.fetchNext = s.host.fetchNext ∧
    (eventAt code source stamp args s).host.readData = s.host.readData ∧ (eventAt code source stamp args s).host.alarms = s.host.alarms ∧
    (eventAt code source stamp args s).host.trace = s.host.trace ∧ (eventAt code source stamp args s).host.slots = s.host.slots ∧
    (eventAt code source stamp args s).host.orphans = s.host.orphans ∧ (eventAt code source stamp args s).pairs.p0 = s.pairs.p0 ∧
    (eventAt code source stamp args s).pairs.p1 = s.pairs.p1 ∧ (eventAt code source stamp args s).pairs.lastActive = s.pairs.lastActive ∧
    (eventAt code source stamp args s).pairs.lastCause = s.pairs.lastCause ∧
    (eventAt code source stamp args s).pairs.fenceSeen = s.pairs.fenceSeen ∧
    (eventAt code source stamp args s).pairs.stage = s.pairs.stage ∧ (eventAt code source stamp args s).pairs.drillHdr = s.pairs.drillHdr ∧
    (eventAt code source stamp args s).pairs.commitSwap = s.pairs.commitSwap ∧
    (eventAt code source stamp args s).pairs.drillStart = s.pairs.drillStart ∧
    (eventAt code source stamp args s).pairs.drillMicros = s.pairs.drillMicros ∧
    (eventAt code source stamp args s).pairs.startDeadline = s.pairs.startDeadline ∧
    (eventAt code source stamp args s).pairs.failCount = s.pairs.failCount ∧
    (eventAt code source stamp args s).pairs.drills = s.pairs.drills ∧
    (eventAt code source stamp args s).pairs.failovers = s.pairs.failovers ∧
    (eventAt code source stamp args s).pairs.fenceStamp = s.pairs.fenceStamp ∧
    (eventAt code source stamp args s).pairs.fencedAt = s.pairs.fencedAt ∧
    (eventAt code source stamp args s).pairs.ckptNo = s.pairs.ckptNo ∧ (eventAt code source stamp args s).pairs.slotA = s.pairs.slotA ∧
    (eventAt code source stamp args s).pairs.slotB = s.pairs.slotB ∧ (eventAt code source stamp args s).pairs.toSlotB = s.pairs.toSlotB ∧
    (eventAt code source stamp args s).pairs.staging = s.pairs.staging ∧ (eventAt code source stamp args s).fret.idx = s.fret.idx ∧
    (eventAt code source stamp args s).fret.boundary = s.fret.boundary ∧
    (eventAt code source stamp args s).fret.acquiring = s.fret.acquiring ∧
    (eventAt code source stamp args s).fret.startAt = s.fret.startAt ∧ (eventAt code source stamp args s).fret.stopAt = s.fret.stopAt ∧
    (eventAt code source stamp args s).fret.regrid = s.fret.regrid ∧ (eventAt code source stamp args s).fret.holdClose = s.fret.holdClose ∧
    (eventAt code source stamp args s).fret.closing = s.fret.closing ∧
    (eventAt code source stamp args s).fret.atBoundary = s.fret.atBoundary ∧
    (eventAt code source stamp args s).fret.closeStreams = s.fret.closeStreams ∧
    (eventAt code source stamp args s).fret.closeDue = s.fret.closeDue ∧
    (eventAt code source stamp args s).fret.closeAt = s.fret.closeAt := by
  simp [eventAt]

@[simp] theorem event_rest (code source : Nat) (args : List Byte) (s : State) :
    (event code source args s).time = s.time ∧ (event code source args s).ptp = s.ptp ∧ (event code source args s).cfg = s.cfg ∧
    (event code source args s).live = s.live ∧ (event code source args s).fe = s.fe ∧ (event code source args s).streams = s.streams ∧
    (event code source args s).hist = s.hist ∧ (event code source args s).dram = s.dram ∧ (event code source args s).trig = s.trig ∧
    (event code source args s).red = s.red ∧ (event code source args s).ring = s.ring ∧ (event code source args s).lanes = s.lanes ∧
    (event code source args s).safety = s.safety ∧ (event code source args s).loc = s.loc ∧ (event code source args s).boot = s.boot ∧
    (event code source args s).fresh = s.fresh ∧ (event code source args s).sent = s.sent ∧
    (event code source args s).pending = s.pending ∧ (event code source args s).host.linkUp = s.host.linkUp ∧
    (event code source args s).host.perst = s.host.perst ∧ (event code source args s).host.ready = s.host.ready ∧
    (event code source args s).host.flrSeen = s.host.flrSeen ∧ (event code source args s).host.dmaErr = s.host.dmaErr ∧
    (event code source args s).host.badIdx = s.host.badIdx ∧ (event code source args s).host.boot = s.host.boot ∧
    (event code source args s).host.wbLo = s.host.wbLo ∧ (event code source args s).host.wbHi = s.host.wbHi ∧
    (event code source args s).host.alarmQ = s.host.alarmQ ∧ (event code source args s).host.logQ = s.host.logQ ∧
    (event code source args s).host.traceQ = s.host.traceQ ∧ (event code source args s).host.scratch = s.host.scratch ∧
    (event code source args s).host.reqPcie = s.host.reqPcie ∧ (event code source args s).host.reqSvc = s.host.reqSvc ∧
    (event code source args s).host.reqCtl = s.host.reqCtl ∧ (event code source args s).host.mask = s.host.mask ∧
    (event code source args s).host.map = s.host.map ∧ (event code source args s).host.aerStatus = s.host.aerStatus ∧
    (event code source args s).host.msixMask = s.host.msixMask ∧ (event code source args s).host.vecMask = s.host.vecMask ∧
    (event code source args s).host.msixTab = s.host.msixTab ∧ (event code source args s).host.waiting = s.host.waiting ∧
    (event code source args s).host.handed = s.host.handed ∧ (event code source args s).host.fetchNext = s.host.fetchNext ∧
    (event code source args s).host.readData = s.host.readData ∧ (event code source args s).host.alarms = s.host.alarms ∧
    (event code source args s).host.trace = s.host.trace ∧ (event code source args s).host.slots = s.host.slots ∧
    (event code source args s).host.orphans = s.host.orphans ∧ (event code source args s).pairs.p0 = s.pairs.p0 ∧
    (event code source args s).pairs.p1 = s.pairs.p1 ∧ (event code source args s).pairs.lastActive = s.pairs.lastActive ∧
    (event code source args s).pairs.lastCause = s.pairs.lastCause ∧ (event code source args s).pairs.fenceSeen = s.pairs.fenceSeen ∧
    (event code source args s).pairs.stage = s.pairs.stage ∧ (event code source args s).pairs.drillHdr = s.pairs.drillHdr ∧
    (event code source args s).pairs.commitSwap = s.pairs.commitSwap ∧ (event code source args s).pairs.drillStart = s.pairs.drillStart ∧
    (event code source args s).pairs.drillMicros = s.pairs.drillMicros ∧
    (event code source args s).pairs.startDeadline = s.pairs.startDeadline ∧
    (event code source args s).pairs.failCount = s.pairs.failCount ∧ (event code source args s).pairs.drills = s.pairs.drills ∧
    (event code source args s).pairs.failovers = s.pairs.failovers ∧ (event code source args s).pairs.fenceStamp = s.pairs.fenceStamp ∧
    (event code source args s).pairs.fencedAt = s.pairs.fencedAt ∧ (event code source args s).pairs.ckptNo = s.pairs.ckptNo ∧
    (event code source args s).pairs.slotA = s.pairs.slotA ∧ (event code source args s).pairs.slotB = s.pairs.slotB ∧
    (event code source args s).pairs.toSlotB = s.pairs.toSlotB ∧ (event code source args s).pairs.staging = s.pairs.staging ∧
    (event code source args s).fret.idx = s.fret.idx ∧ (event code source args s).fret.boundary = s.fret.boundary ∧
    (event code source args s).fret.acquiring = s.fret.acquiring ∧ (event code source args s).fret.startAt = s.fret.startAt ∧
    (event code source args s).fret.stopAt = s.fret.stopAt ∧ (event code source args s).fret.regrid = s.fret.regrid ∧
    (event code source args s).fret.holdClose = s.fret.holdClose ∧ (event code source args s).fret.closing = s.fret.closing ∧
    (event code source args s).fret.atBoundary = s.fret.atBoundary ∧ (event code source args s).fret.closeStreams = s.fret.closeStreams ∧
    (event code source args s).fret.closeDue = s.fret.closeDue ∧ (event code source args s).fret.closeAt = s.fret.closeAt := by
  simp [event]

@[simp] theorem alarmPin_rest (s : State) :
    (alarmPin s).time = s.time ∧ (alarmPin s).ptp = s.ptp ∧ (alarmPin s).cfg = s.cfg ∧ (alarmPin s).live = s.live ∧
    (alarmPin s).fret = s.fret ∧ (alarmPin s).fe = s.fe ∧ (alarmPin s).streams = s.streams ∧ (alarmPin s).hist = s.hist ∧
    (alarmPin s).dram = s.dram ∧ (alarmPin s).trig = s.trig ∧ (alarmPin s).red = s.red ∧ (alarmPin s).ring = s.ring ∧
    (alarmPin s).lanes = s.lanes ∧ (alarmPin s).host = s.host ∧ (alarmPin s).pairs = s.pairs ∧ (alarmPin s).safety = s.safety ∧
    (alarmPin s).boot = s.boot ∧ (alarmPin s).fresh = s.fresh ∧ (alarmPin s).sent = s.sent ∧ (alarmPin s).pending = s.pending ∧
    (alarmPin s).loc.fp = s.loc.fp ∧ (alarmPin s).loc.partners = s.loc.partners ∧ (alarmPin s).loc.val = s.loc.val ∧
    (alarmPin s).loc.valSet = s.loc.valSet ∧ (alarmPin s).loc.gpio = s.loc.gpio ∧ (alarmPin s).loc.syncIn = s.loc.syncIn ∧
    (alarmPin s).loc.pps = s.loc.pps ∧ (alarmPin s).loc.ppsFall = s.loc.ppsFall ∧ (alarmPin s).loc.reserve = s.loc.reserve ∧
    (alarmPin s).loc.spimRdy = s.loc.spimRdy ∧ (alarmPin s).loc.svcDiscard = s.loc.svcDiscard ∧
    (alarmPin s).loc.svcViolations = s.loc.svcViolations ∧ (alarmPin s).loc.svcDiscards = s.loc.svcDiscards ∧
    (alarmPin s).loc.svcFrames = s.loc.svcFrames ∧ (alarmPin s).loc.ospi = s.loc.ospi ∧
    (alarmPin s).loc.ospiTimeouts = s.loc.ospiTimeouts ∧ (alarmPin s).loc.ospiWriteErrors = s.loc.ospiWriteErrors ∧
    (alarmPin s).loc.ospiLine = s.loc.ospiLine ∧ (alarmPin s).loc.svcOut = s.loc.svcOut := by
  simp [alarmPin]

@[simp] theorem raiseAs_rest (src code source : Nat) (args : List Byte) (s : State) :
    (raiseAs src code source args s).time = s.time ∧ (raiseAs src code source args s).ptp = s.ptp ∧
    (raiseAs src code source args s).cfg = s.cfg ∧ (raiseAs src code source args s).live = s.live ∧
    (raiseAs src code source args s).fret = s.fret ∧ (raiseAs src code source args s).fe = s.fe ∧
    (raiseAs src code source args s).streams = s.streams ∧ (raiseAs src code source args s).hist = s.hist ∧
    (raiseAs src code source args s).dram = s.dram ∧ (raiseAs src code source args s).trig = s.trig ∧
    (raiseAs src code source args s).red = s.red ∧ (raiseAs src code source args s).ring = s.ring ∧
    (raiseAs src code source args s).lanes = s.lanes ∧ (raiseAs src code source args s).pairs = s.pairs ∧
    (raiseAs src code source args s).safety = s.safety ∧ (raiseAs src code source args s).boot = s.boot ∧
    (raiseAs src code source args s).fresh = s.fresh ∧ (raiseAs src code source args s).sent = s.sent ∧
    (raiseAs src code source args s).pending = s.pending ∧ (raiseAs src code source args s).host.linkUp = s.host.linkUp ∧
    (raiseAs src code source args s).host.perst = s.host.perst ∧ (raiseAs src code source args s).host.ready = s.host.ready ∧
    (raiseAs src code source args s).host.flrSeen = s.host.flrSeen ∧ (raiseAs src code source args s).host.dmaErr = s.host.dmaErr ∧
    (raiseAs src code source args s).host.badIdx = s.host.badIdx ∧ (raiseAs src code source args s).host.boot = s.host.boot ∧
    (raiseAs src code source args s).host.wbLo = s.host.wbLo ∧ (raiseAs src code source args s).host.wbHi = s.host.wbHi ∧
    (raiseAs src code source args s).host.logQ = s.host.logQ ∧ (raiseAs src code source args s).host.traceQ = s.host.traceQ ∧
    (raiseAs src code source args s).host.scratch = s.host.scratch ∧ (raiseAs src code source args s).host.reqPcie = s.host.reqPcie ∧
    (raiseAs src code source args s).host.reqSvc = s.host.reqSvc ∧ (raiseAs src code source args s).host.reqCtl = s.host.reqCtl ∧
    (raiseAs src code source args s).host.mask = s.host.mask ∧ (raiseAs src code source args s).host.map = s.host.map ∧
    (raiseAs src code source args s).host.aerStatus = s.host.aerStatus ∧ (raiseAs src code source args s).host.msixMask = s.host.msixMask ∧
    (raiseAs src code source args s).host.vecMask = s.host.vecMask ∧ (raiseAs src code source args s).host.msixTab = s.host.msixTab ∧
    (raiseAs src code source args s).host.waiting = s.host.waiting ∧ (raiseAs src code source args s).host.handed = s.host.handed ∧
    (raiseAs src code source args s).host.fetchNext = s.host.fetchNext ∧ (raiseAs src code source args s).host.readData = s.host.readData ∧
    (raiseAs src code source args s).host.trace = s.host.trace ∧ (raiseAs src code source args s).host.slots = s.host.slots ∧
    (raiseAs src code source args s).host.orphans = s.host.orphans ∧ (raiseAs src code source args s).loc.fp = s.loc.fp ∧
    (raiseAs src code source args s).loc.partners = s.loc.partners ∧ (raiseAs src code source args s).loc.val = s.loc.val ∧
    (raiseAs src code source args s).loc.valSet = s.loc.valSet ∧ (raiseAs src code source args s).loc.gpio = s.loc.gpio ∧
    (raiseAs src code source args s).loc.syncIn = s.loc.syncIn ∧ (raiseAs src code source args s).loc.pps = s.loc.pps ∧
    (raiseAs src code source args s).loc.ppsFall = s.loc.ppsFall ∧ (raiseAs src code source args s).loc.reserve = s.loc.reserve ∧
    (raiseAs src code source args s).loc.spimRdy = s.loc.spimRdy ∧ (raiseAs src code source args s).loc.svcDiscard = s.loc.svcDiscard ∧
    (raiseAs src code source args s).loc.svcViolations = s.loc.svcViolations ∧
    (raiseAs src code source args s).loc.svcDiscards = s.loc.svcDiscards ∧
    (raiseAs src code source args s).loc.svcFrames = s.loc.svcFrames ∧ (raiseAs src code source args s).loc.ospi = s.loc.ospi ∧
    (raiseAs src code source args s).loc.ospiTimeouts = s.loc.ospiTimeouts ∧
    (raiseAs src code source args s).loc.ospiWriteErrors = s.loc.ospiWriteErrors ∧
    (raiseAs src code source args s).loc.ospiLine = s.loc.ospiLine ∧ (raiseAs src code source args s).loc.svcOut = s.loc.svcOut := by
  unfold raiseAs
  (repeat' split) <;> simp

@[simp] theorem endAs_rest (src code source : Nat) (args : List Byte) (s : State) :
    (endAs src code source args s).time = s.time ∧ (endAs src code source args s).ptp = s.ptp ∧
    (endAs src code source args s).cfg = s.cfg ∧ (endAs src code source args s).live = s.live ∧
    (endAs src code source args s).fret = s.fret ∧ (endAs src code source args s).fe = s.fe ∧
    (endAs src code source args s).streams = s.streams ∧ (endAs src code source args s).hist = s.hist ∧
    (endAs src code source args s).dram = s.dram ∧ (endAs src code source args s).trig = s.trig ∧
    (endAs src code source args s).red = s.red ∧ (endAs src code source args s).ring = s.ring ∧
    (endAs src code source args s).lanes = s.lanes ∧ (endAs src code source args s).pairs = s.pairs ∧
    (endAs src code source args s).safety = s.safety ∧ (endAs src code source args s).boot = s.boot ∧
    (endAs src code source args s).fresh = s.fresh ∧ (endAs src code source args s).sent = s.sent ∧
    (endAs src code source args s).pending = s.pending ∧ (endAs src code source args s).host.linkUp = s.host.linkUp ∧
    (endAs src code source args s).host.perst = s.host.perst ∧ (endAs src code source args s).host.ready = s.host.ready ∧
    (endAs src code source args s).host.flrSeen = s.host.flrSeen ∧ (endAs src code source args s).host.dmaErr = s.host.dmaErr ∧
    (endAs src code source args s).host.badIdx = s.host.badIdx ∧ (endAs src code source args s).host.boot = s.host.boot ∧
    (endAs src code source args s).host.wbLo = s.host.wbLo ∧ (endAs src code source args s).host.wbHi = s.host.wbHi ∧
    (endAs src code source args s).host.logQ = s.host.logQ ∧ (endAs src code source args s).host.traceQ = s.host.traceQ ∧
    (endAs src code source args s).host.scratch = s.host.scratch ∧ (endAs src code source args s).host.reqPcie = s.host.reqPcie ∧
    (endAs src code source args s).host.reqSvc = s.host.reqSvc ∧ (endAs src code source args s).host.reqCtl = s.host.reqCtl ∧
    (endAs src code source args s).host.mask = s.host.mask ∧ (endAs src code source args s).host.map = s.host.map ∧
    (endAs src code source args s).host.aerStatus = s.host.aerStatus ∧ (endAs src code source args s).host.msixMask = s.host.msixMask ∧
    (endAs src code source args s).host.vecMask = s.host.vecMask ∧ (endAs src code source args s).host.msixTab = s.host.msixTab ∧
    (endAs src code source args s).host.waiting = s.host.waiting ∧ (endAs src code source args s).host.handed = s.host.handed ∧
    (endAs src code source args s).host.fetchNext = s.host.fetchNext ∧ (endAs src code source args s).host.readData = s.host.readData ∧
    (endAs src code source args s).host.trace = s.host.trace ∧ (endAs src code source args s).host.slots = s.host.slots ∧
    (endAs src code source args s).host.orphans = s.host.orphans ∧ (endAs src code source args s).loc.fp = s.loc.fp ∧
    (endAs src code source args s).loc.partners = s.loc.partners ∧ (endAs src code source args s).loc.val = s.loc.val ∧
    (endAs src code source args s).loc.valSet = s.loc.valSet ∧ (endAs src code source args s).loc.gpio = s.loc.gpio ∧
    (endAs src code source args s).loc.syncIn = s.loc.syncIn ∧ (endAs src code source args s).loc.pps = s.loc.pps ∧
    (endAs src code source args s).loc.ppsFall = s.loc.ppsFall ∧ (endAs src code source args s).loc.reserve = s.loc.reserve ∧
    (endAs src code source args s).loc.spimRdy = s.loc.spimRdy ∧ (endAs src code source args s).loc.svcDiscard = s.loc.svcDiscard ∧
    (endAs src code source args s).loc.svcViolations = s.loc.svcViolations ∧
    (endAs src code source args s).loc.svcDiscards = s.loc.svcDiscards ∧ (endAs src code source args s).loc.svcFrames = s.loc.svcFrames ∧
    (endAs src code source args s).loc.ospi = s.loc.ospi ∧ (endAs src code source args s).loc.ospiTimeouts = s.loc.ospiTimeouts ∧
    (endAs src code source args s).loc.ospiWriteErrors = s.loc.ospiWriteErrors ∧
    (endAs src code source args s).loc.ospiLine = s.loc.ospiLine ∧ (endAs src code source args s).loc.svcOut = s.loc.svcOut := by
  unfold endAs
  (repeat' split) <;> simp

@[simp] theorem raiseAlarm_rest (code source : Nat) (args : List Byte) (s : State) :
    (raiseAlarm code source args s).time = s.time ∧ (raiseAlarm code source args s).ptp = s.ptp ∧
    (raiseAlarm code source args s).cfg = s.cfg ∧ (raiseAlarm code source args s).live = s.live ∧
    (raiseAlarm code source args s).fret = s.fret ∧ (raiseAlarm code source args s).fe = s.fe ∧
    (raiseAlarm code source args s).streams = s.streams ∧ (raiseAlarm code source args s).hist = s.hist ∧
    (raiseAlarm code source args s).dram = s.dram ∧ (raiseAlarm code source args s).trig = s.trig ∧
    (raiseAlarm code source args s).red = s.red ∧ (raiseAlarm code source args s).ring = s.ring ∧
    (raiseAlarm code source args s).lanes = s.lanes ∧ (raiseAlarm code source args s).pairs = s.pairs ∧
    (raiseAlarm code source args s).safety = s.safety ∧ (raiseAlarm code source args s).boot = s.boot ∧
    (raiseAlarm code source args s).fresh = s.fresh ∧ (raiseAlarm code source args s).sent = s.sent ∧
    (raiseAlarm code source args s).pending = s.pending ∧ (raiseAlarm code source args s).host.linkUp = s.host.linkUp ∧
    (raiseAlarm code source args s).host.perst = s.host.perst ∧ (raiseAlarm code source args s).host.ready = s.host.ready ∧
    (raiseAlarm code source args s).host.flrSeen = s.host.flrSeen ∧ (raiseAlarm code source args s).host.dmaErr = s.host.dmaErr ∧
    (raiseAlarm code source args s).host.badIdx = s.host.badIdx ∧ (raiseAlarm code source args s).host.boot = s.host.boot ∧
    (raiseAlarm code source args s).host.wbLo = s.host.wbLo ∧ (raiseAlarm code source args s).host.wbHi = s.host.wbHi ∧
    (raiseAlarm code source args s).host.logQ = s.host.logQ ∧ (raiseAlarm code source args s).host.traceQ = s.host.traceQ ∧
    (raiseAlarm code source args s).host.scratch = s.host.scratch ∧ (raiseAlarm code source args s).host.reqPcie = s.host.reqPcie ∧
    (raiseAlarm code source args s).host.reqSvc = s.host.reqSvc ∧ (raiseAlarm code source args s).host.reqCtl = s.host.reqCtl ∧
    (raiseAlarm code source args s).host.mask = s.host.mask ∧ (raiseAlarm code source args s).host.map = s.host.map ∧
    (raiseAlarm code source args s).host.aerStatus = s.host.aerStatus ∧ (raiseAlarm code source args s).host.msixMask = s.host.msixMask ∧
    (raiseAlarm code source args s).host.vecMask = s.host.vecMask ∧ (raiseAlarm code source args s).host.msixTab = s.host.msixTab ∧
    (raiseAlarm code source args s).host.waiting = s.host.waiting ∧ (raiseAlarm code source args s).host.handed = s.host.handed ∧
    (raiseAlarm code source args s).host.fetchNext = s.host.fetchNext ∧ (raiseAlarm code source args s).host.readData = s.host.readData ∧
    (raiseAlarm code source args s).host.trace = s.host.trace ∧ (raiseAlarm code source args s).host.slots = s.host.slots ∧
    (raiseAlarm code source args s).host.orphans = s.host.orphans ∧ (raiseAlarm code source args s).loc.fp = s.loc.fp ∧
    (raiseAlarm code source args s).loc.partners = s.loc.partners ∧ (raiseAlarm code source args s).loc.val = s.loc.val ∧
    (raiseAlarm code source args s).loc.valSet = s.loc.valSet ∧ (raiseAlarm code source args s).loc.gpio = s.loc.gpio ∧
    (raiseAlarm code source args s).loc.syncIn = s.loc.syncIn ∧ (raiseAlarm code source args s).loc.pps = s.loc.pps ∧
    (raiseAlarm code source args s).loc.ppsFall = s.loc.ppsFall ∧ (raiseAlarm code source args s).loc.reserve = s.loc.reserve ∧
    (raiseAlarm code source args s).loc.spimRdy = s.loc.spimRdy ∧ (raiseAlarm code source args s).loc.svcDiscard = s.loc.svcDiscard ∧
    (raiseAlarm code source args s).loc.svcViolations = s.loc.svcViolations ∧
    (raiseAlarm code source args s).loc.svcDiscards = s.loc.svcDiscards ∧ (raiseAlarm code source args s).loc.svcFrames = s.loc.svcFrames ∧
    (raiseAlarm code source args s).loc.ospi = s.loc.ospi ∧ (raiseAlarm code source args s).loc.ospiTimeouts = s.loc.ospiTimeouts ∧
    (raiseAlarm code source args s).loc.ospiWriteErrors = s.loc.ospiWriteErrors ∧
    (raiseAlarm code source args s).loc.ospiLine = s.loc.ospiLine ∧ (raiseAlarm code source args s).loc.svcOut = s.loc.svcOut := by
  simp [raiseAlarm]

@[simp] theorem endAlarm_rest (code source : Nat) (args : List Byte) (s : State) :
    (endAlarm code source args s).time = s.time ∧ (endAlarm code source args s).ptp = s.ptp ∧ (endAlarm code source args s).cfg = s.cfg ∧
    (endAlarm code source args s).live = s.live ∧ (endAlarm code source args s).fret = s.fret ∧ (endAlarm code source args s).fe = s.fe ∧
    (endAlarm code source args s).streams = s.streams ∧ (endAlarm code source args s).hist = s.hist ∧
    (endAlarm code source args s).dram = s.dram ∧ (endAlarm code source args s).trig = s.trig ∧ (endAlarm code source args s).red = s.red ∧
    (endAlarm code source args s).ring = s.ring ∧ (endAlarm code source args s).lanes = s.lanes ∧
    (endAlarm code source args s).pairs = s.pairs ∧ (endAlarm code source args s).safety = s.safety ∧
    (endAlarm code source args s).boot = s.boot ∧ (endAlarm code source args s).fresh = s.fresh ∧
    (endAlarm code source args s).sent = s.sent ∧ (endAlarm code source args s).pending = s.pending ∧
    (endAlarm code source args s).host.linkUp = s.host.linkUp ∧ (endAlarm code source args s).host.perst = s.host.perst ∧
    (endAlarm code source args s).host.ready = s.host.ready ∧ (endAlarm code source args s).host.flrSeen = s.host.flrSeen ∧
    (endAlarm code source args s).host.dmaErr = s.host.dmaErr ∧ (endAlarm code source args s).host.badIdx = s.host.badIdx ∧
    (endAlarm code source args s).host.boot = s.host.boot ∧ (endAlarm code source args s).host.wbLo = s.host.wbLo ∧
    (endAlarm code source args s).host.wbHi = s.host.wbHi ∧ (endAlarm code source args s).host.logQ = s.host.logQ ∧
    (endAlarm code source args s).host.traceQ = s.host.traceQ ∧ (endAlarm code source args s).host.scratch = s.host.scratch ∧
    (endAlarm code source args s).host.reqPcie = s.host.reqPcie ∧ (endAlarm code source args s).host.reqSvc = s.host.reqSvc ∧
    (endAlarm code source args s).host.reqCtl = s.host.reqCtl ∧ (endAlarm code source args s).host.mask = s.host.mask ∧
    (endAlarm code source args s).host.map = s.host.map ∧ (endAlarm code source args s).host.aerStatus = s.host.aerStatus ∧
    (endAlarm code source args s).host.msixMask = s.host.msixMask ∧ (endAlarm code source args s).host.vecMask = s.host.vecMask ∧
    (endAlarm code source args s).host.msixTab = s.host.msixTab ∧ (endAlarm code source args s).host.waiting = s.host.waiting ∧
    (endAlarm code source args s).host.handed = s.host.handed ∧ (endAlarm code source args s).host.fetchNext = s.host.fetchNext ∧
    (endAlarm code source args s).host.readData = s.host.readData ∧ (endAlarm code source args s).host.trace = s.host.trace ∧
    (endAlarm code source args s).host.slots = s.host.slots ∧ (endAlarm code source args s).host.orphans = s.host.orphans ∧
    (endAlarm code source args s).loc.fp = s.loc.fp ∧ (endAlarm code source args s).loc.partners = s.loc.partners ∧
    (endAlarm code source args s).loc.val = s.loc.val ∧ (endAlarm code source args s).loc.valSet = s.loc.valSet ∧
    (endAlarm code source args s).loc.gpio = s.loc.gpio ∧ (endAlarm code source args s).loc.syncIn = s.loc.syncIn ∧
    (endAlarm code source args s).loc.pps = s.loc.pps ∧ (endAlarm code source args s).loc.ppsFall = s.loc.ppsFall ∧
    (endAlarm code source args s).loc.reserve = s.loc.reserve ∧ (endAlarm code source args s).loc.spimRdy = s.loc.spimRdy ∧
    (endAlarm code source args s).loc.svcDiscard = s.loc.svcDiscard ∧
    (endAlarm code source args s).loc.svcViolations = s.loc.svcViolations ∧
    (endAlarm code source args s).loc.svcDiscards = s.loc.svcDiscards ∧ (endAlarm code source args s).loc.svcFrames = s.loc.svcFrames ∧
    (endAlarm code source args s).loc.ospi = s.loc.ospi ∧ (endAlarm code source args s).loc.ospiTimeouts = s.loc.ospiTimeouts ∧
    (endAlarm code source args s).loc.ospiWriteErrors = s.loc.ospiWriteErrors ∧
    (endAlarm code source args s).loc.ospiLine = s.loc.ospiLine ∧ (endAlarm code source args s).loc.svcOut = s.loc.svcOut := by
  simp [endAlarm]

@[simp] theorem raiseUncoded_rest (src : Nat) (s : State) :
    (raiseUncoded src s).time = s.time ∧ (raiseUncoded src s).ptp = s.ptp ∧ (raiseUncoded src s).cfg = s.cfg ∧
    (raiseUncoded src s).live = s.live ∧ (raiseUncoded src s).fret = s.fret ∧ (raiseUncoded src s).fe = s.fe ∧
    (raiseUncoded src s).streams = s.streams ∧ (raiseUncoded src s).hist = s.hist ∧ (raiseUncoded src s).dram = s.dram ∧
    (raiseUncoded src s).trig = s.trig ∧ (raiseUncoded src s).red = s.red ∧ (raiseUncoded src s).ring = s.ring ∧
    (raiseUncoded src s).lanes = s.lanes ∧ (raiseUncoded src s).pairs = s.pairs ∧ (raiseUncoded src s).safety = s.safety ∧
    (raiseUncoded src s).boot = s.boot ∧ (raiseUncoded src s).fresh = s.fresh ∧ (raiseUncoded src s).sent = s.sent ∧
    (raiseUncoded src s).pending = s.pending ∧ (raiseUncoded src s).host.linkUp = s.host.linkUp ∧
    (raiseUncoded src s).host.perst = s.host.perst ∧ (raiseUncoded src s).host.ready = s.host.ready ∧
    (raiseUncoded src s).host.flrSeen = s.host.flrSeen ∧ (raiseUncoded src s).host.dmaErr = s.host.dmaErr ∧
    (raiseUncoded src s).host.badIdx = s.host.badIdx ∧ (raiseUncoded src s).host.boot = s.host.boot ∧
    (raiseUncoded src s).host.wbLo = s.host.wbLo ∧ (raiseUncoded src s).host.wbHi = s.host.wbHi ∧
    (raiseUncoded src s).host.logQ = s.host.logQ ∧ (raiseUncoded src s).host.traceQ = s.host.traceQ ∧
    (raiseUncoded src s).host.scratch = s.host.scratch ∧ (raiseUncoded src s).host.reqPcie = s.host.reqPcie ∧
    (raiseUncoded src s).host.reqSvc = s.host.reqSvc ∧ (raiseUncoded src s).host.reqCtl = s.host.reqCtl ∧
    (raiseUncoded src s).host.mask = s.host.mask ∧ (raiseUncoded src s).host.map = s.host.map ∧
    (raiseUncoded src s).host.aerStatus = s.host.aerStatus ∧ (raiseUncoded src s).host.msixMask = s.host.msixMask ∧
    (raiseUncoded src s).host.vecMask = s.host.vecMask ∧ (raiseUncoded src s).host.msixTab = s.host.msixTab ∧
    (raiseUncoded src s).host.waiting = s.host.waiting ∧ (raiseUncoded src s).host.handed = s.host.handed ∧
    (raiseUncoded src s).host.fetchNext = s.host.fetchNext ∧ (raiseUncoded src s).host.readData = s.host.readData ∧
    (raiseUncoded src s).host.trace = s.host.trace ∧ (raiseUncoded src s).host.slots = s.host.slots ∧
    (raiseUncoded src s).host.orphans = s.host.orphans ∧ (raiseUncoded src s).loc.fp = s.loc.fp ∧
    (raiseUncoded src s).loc.partners = s.loc.partners ∧ (raiseUncoded src s).loc.val = s.loc.val ∧
    (raiseUncoded src s).loc.valSet = s.loc.valSet ∧ (raiseUncoded src s).loc.gpio = s.loc.gpio ∧
    (raiseUncoded src s).loc.syncIn = s.loc.syncIn ∧ (raiseUncoded src s).loc.pps = s.loc.pps ∧
    (raiseUncoded src s).loc.ppsFall = s.loc.ppsFall ∧ (raiseUncoded src s).loc.reserve = s.loc.reserve ∧
    (raiseUncoded src s).loc.spimRdy = s.loc.spimRdy ∧ (raiseUncoded src s).loc.svcDiscard = s.loc.svcDiscard ∧
    (raiseUncoded src s).loc.svcViolations = s.loc.svcViolations ∧ (raiseUncoded src s).loc.svcDiscards = s.loc.svcDiscards ∧
    (raiseUncoded src s).loc.svcFrames = s.loc.svcFrames ∧ (raiseUncoded src s).loc.ospi = s.loc.ospi ∧
    (raiseUncoded src s).loc.ospiTimeouts = s.loc.ospiTimeouts ∧ (raiseUncoded src s).loc.ospiWriteErrors = s.loc.ospiWriteErrors ∧
    (raiseUncoded src s).loc.ospiLine = s.loc.ospiLine ∧ (raiseUncoded src s).loc.svcOut = s.loc.svcOut := by
  simp [raiseUncoded]

@[simp] theorem endUncoded_rest (src : Nat) (s : State) :
    (endUncoded src s).time = s.time ∧ (endUncoded src s).ptp = s.ptp ∧ (endUncoded src s).cfg = s.cfg ∧ (endUncoded src s).live = s.live ∧
    (endUncoded src s).fret = s.fret ∧ (endUncoded src s).fe = s.fe ∧ (endUncoded src s).streams = s.streams ∧
    (endUncoded src s).hist = s.hist ∧ (endUncoded src s).dram = s.dram ∧ (endUncoded src s).trig = s.trig ∧
    (endUncoded src s).red = s.red ∧ (endUncoded src s).ring = s.ring ∧ (endUncoded src s).lanes = s.lanes ∧
    (endUncoded src s).pairs = s.pairs ∧ (endUncoded src s).safety = s.safety ∧ (endUncoded src s).boot = s.boot ∧
    (endUncoded src s).fresh = s.fresh ∧ (endUncoded src s).sent = s.sent ∧ (endUncoded src s).pending = s.pending ∧
    (endUncoded src s).host.linkUp = s.host.linkUp ∧ (endUncoded src s).host.perst = s.host.perst ∧
    (endUncoded src s).host.ready = s.host.ready ∧ (endUncoded src s).host.flrSeen = s.host.flrSeen ∧
    (endUncoded src s).host.dmaErr = s.host.dmaErr ∧ (endUncoded src s).host.badIdx = s.host.badIdx ∧
    (endUncoded src s).host.boot = s.host.boot ∧ (endUncoded src s).host.wbLo = s.host.wbLo ∧ (endUncoded src s).host.wbHi = s.host.wbHi ∧
    (endUncoded src s).host.logQ = s.host.logQ ∧ (endUncoded src s).host.traceQ = s.host.traceQ ∧
    (endUncoded src s).host.scratch = s.host.scratch ∧ (endUncoded src s).host.reqPcie = s.host.reqPcie ∧
    (endUncoded src s).host.reqSvc = s.host.reqSvc ∧ (endUncoded src s).host.reqCtl = s.host.reqCtl ∧
    (endUncoded src s).host.mask = s.host.mask ∧ (endUncoded src s).host.map = s.host.map ∧
    (endUncoded src s).host.aerStatus = s.host.aerStatus ∧ (endUncoded src s).host.msixMask = s.host.msixMask ∧
    (endUncoded src s).host.vecMask = s.host.vecMask ∧ (endUncoded src s).host.msixTab = s.host.msixTab ∧
    (endUncoded src s).host.waiting = s.host.waiting ∧ (endUncoded src s).host.handed = s.host.handed ∧
    (endUncoded src s).host.fetchNext = s.host.fetchNext ∧ (endUncoded src s).host.readData = s.host.readData ∧
    (endUncoded src s).host.trace = s.host.trace ∧ (endUncoded src s).host.slots = s.host.slots ∧
    (endUncoded src s).host.orphans = s.host.orphans ∧ (endUncoded src s).loc.fp = s.loc.fp ∧
    (endUncoded src s).loc.partners = s.loc.partners ∧ (endUncoded src s).loc.val = s.loc.val ∧
    (endUncoded src s).loc.valSet = s.loc.valSet ∧ (endUncoded src s).loc.gpio = s.loc.gpio ∧
    (endUncoded src s).loc.syncIn = s.loc.syncIn ∧ (endUncoded src s).loc.pps = s.loc.pps ∧
    (endUncoded src s).loc.ppsFall = s.loc.ppsFall ∧ (endUncoded src s).loc.reserve = s.loc.reserve ∧
    (endUncoded src s).loc.spimRdy = s.loc.spimRdy ∧ (endUncoded src s).loc.svcDiscard = s.loc.svcDiscard ∧
    (endUncoded src s).loc.svcViolations = s.loc.svcViolations ∧ (endUncoded src s).loc.svcDiscards = s.loc.svcDiscards ∧
    (endUncoded src s).loc.svcFrames = s.loc.svcFrames ∧ (endUncoded src s).loc.ospi = s.loc.ospi ∧
    (endUncoded src s).loc.ospiTimeouts = s.loc.ospiTimeouts ∧ (endUncoded src s).loc.ospiWriteErrors = s.loc.ospiWriteErrors ∧
    (endUncoded src s).loc.ospiLine = s.loc.ospiLine ∧ (endUncoded src s).loc.svcOut = s.loc.svcOut := by
  simp [endUncoded]

@[simp] theorem countFull_rest (p : Port) (cls : Nat) (s : State) :
    (countFull p cls s).time = s.time ∧ (countFull p cls s).ptp = s.ptp ∧ (countFull p cls s).cfg = s.cfg ∧
    (countFull p cls s).live = s.live ∧ (countFull p cls s).fret = s.fret ∧ (countFull p cls s).fe = s.fe ∧
    (countFull p cls s).streams = s.streams ∧ (countFull p cls s).hist = s.hist ∧ (countFull p cls s).dram = s.dram ∧
    (countFull p cls s).trig = s.trig ∧ (countFull p cls s).red = s.red ∧ (countFull p cls s).lanes = s.lanes ∧
    (countFull p cls s).host = s.host ∧ (countFull p cls s).pairs = s.pairs ∧ (countFull p cls s).safety = s.safety ∧
    (countFull p cls s).loc = s.loc ∧ (countFull p cls s).boot = s.boot ∧ (countFull p cls s).fresh = s.fresh ∧
    (countFull p cls s).sent = s.sent ∧ (countFull p cls s).pending = s.pending ∧ (countFull p cls s).ring.state = s.ring.state ∧
    (countFull p cls s).ring.joinHdr = s.ring.joinHdr ∧ (countFull p cls s).ring.leaving = s.ring.leaving ∧
    (countFull p cls s).ring.autoJoin = s.ring.autoJoin ∧ (countFull p cls s).ring.listenEnd = s.ring.listenEnd ∧
    (countFull p cls s).ring.refusedBy = s.ring.refusedBy ∧ (countFull p cls s).ring.linkA = s.ring.linkA ∧
    (countFull p cls s).ring.linkB = s.ring.linkB ∧ (countFull p cls s).ring.hsrSeq = s.ring.hsrSeq ∧
    (countFull p cls s).ring.dups = s.ring.dups ∧ (countFull p cls s).ring.nodes = s.ring.nodes ∧
    (countFull p cls s).ring.egressA = s.ring.egressA ∧ (countFull p cls s).ring.egressB = s.ring.egressB ∧
    (countFull p cls s).ring.reasm = s.ring.reasm ∧ (countFull p cls s).ring.arrived = s.ring.arrived ∧
    (countFull p cls s).ring.recv = s.ring.recv ∧ (countFull p cls s).ring.retrieveTo = s.ring.retrieveTo ∧
    (countFull p cls s).ring.parked = s.ring.parked ∧ (countFull p cls s).ring.topo = s.ring.topo ∧
    (countFull p cls s).ring.gateway = s.ring.gateway ∧ (countFull p cls s).ring.arbiter = s.ring.arbiter ∧
    (countFull p cls s).ring.ledger = s.ring.ledger ∧ (countFull p cls s).ring.ledgerReady = s.ring.ledgerReady ∧
    (countFull p cls s).ring.ledgerHeard = s.ring.ledgerHeard ∧ (countFull p cls s).ring.budgetQ = s.ring.budgetQ ∧
    (countFull p cls s).ring.grants = s.ring.grants ∧ (countFull p cls s).ring.asks = s.ring.asks ∧
    (countFull p cls s).ring.credit = s.ring.credit ∧ (countFull p cls s).ring.granted = s.ring.granted ∧
    (countFull p cls s).ring.creditDue = s.ring.creditDue ∧ (countFull p cls s).ring.creditors = s.ring.creditors ∧
    (countFull p cls s).ring.retrieval = s.ring.retrieval ∧ (countFull p cls s).ring.forwarded = s.ring.forwarded ∧
    (countFull p cls s).ring.tags = s.ring.tags ∧ (countFull p cls s).ring.running = s.ring.running ∧
    (countFull p cls s).ring.supervisions = s.ring.supervisions ∧ (countFull p cls s).ring.supervisionDue = s.ring.supervisionDue ∧
    (countFull p cls s).ring.beaconDue = s.ring.beaconDue ∧ (countFull p cls s).ring.controlAt = s.ring.controlAt ∧
    (countFull p cls s).ring.splitAlarm = s.ring.splitAlarm := by
  unfold countFull
  (repeat' split) <;> simp

@[simp] theorem egressPut_rest (p : Port) (w : Waiting) (s : State) :
    (egressPut p w s).time = s.time ∧ (egressPut p w s).ptp = s.ptp ∧ (egressPut p w s).cfg = s.cfg ∧ (egressPut p w s).live = s.live ∧
    (egressPut p w s).fret = s.fret ∧ (egressPut p w s).fe = s.fe ∧ (egressPut p w s).streams = s.streams ∧
    (egressPut p w s).hist = s.hist ∧ (egressPut p w s).dram = s.dram ∧ (egressPut p w s).trig = s.trig ∧ (egressPut p w s).red = s.red ∧
    (egressPut p w s).lanes = s.lanes ∧ (egressPut p w s).pairs = s.pairs ∧ (egressPut p w s).safety = s.safety ∧
    (egressPut p w s).boot = s.boot ∧ (egressPut p w s).fresh = s.fresh ∧ (egressPut p w s).sent = s.sent ∧
    (egressPut p w s).pending = s.pending ∧ (egressPut p w s).host.linkUp = s.host.linkUp ∧ (egressPut p w s).host.perst = s.host.perst ∧
    (egressPut p w s).host.ready = s.host.ready ∧ (egressPut p w s).host.flrSeen = s.host.flrSeen ∧
    (egressPut p w s).host.dmaErr = s.host.dmaErr ∧ (egressPut p w s).host.badIdx = s.host.badIdx ∧
    (egressPut p w s).host.boot = s.host.boot ∧ (egressPut p w s).host.wbLo = s.host.wbLo ∧ (egressPut p w s).host.wbHi = s.host.wbHi ∧
    (egressPut p w s).host.logQ = s.host.logQ ∧ (egressPut p w s).host.traceQ = s.host.traceQ ∧
    (egressPut p w s).host.scratch = s.host.scratch ∧ (egressPut p w s).host.reqPcie = s.host.reqPcie ∧
    (egressPut p w s).host.reqSvc = s.host.reqSvc ∧ (egressPut p w s).host.reqCtl = s.host.reqCtl ∧
    (egressPut p w s).host.mask = s.host.mask ∧ (egressPut p w s).host.map = s.host.map ∧
    (egressPut p w s).host.aerStatus = s.host.aerStatus ∧ (egressPut p w s).host.msixMask = s.host.msixMask ∧
    (egressPut p w s).host.vecMask = s.host.vecMask ∧ (egressPut p w s).host.msixTab = s.host.msixTab ∧
    (egressPut p w s).host.waiting = s.host.waiting ∧ (egressPut p w s).host.handed = s.host.handed ∧
    (egressPut p w s).host.fetchNext = s.host.fetchNext ∧ (egressPut p w s).host.readData = s.host.readData ∧
    (egressPut p w s).host.trace = s.host.trace ∧ (egressPut p w s).host.slots = s.host.slots ∧
    (egressPut p w s).host.orphans = s.host.orphans ∧ (egressPut p w s).loc.fp = s.loc.fp ∧
    (egressPut p w s).loc.partners = s.loc.partners ∧ (egressPut p w s).loc.val = s.loc.val ∧ (egressPut p w s).loc.valSet = s.loc.valSet ∧
    (egressPut p w s).loc.gpio = s.loc.gpio ∧ (egressPut p w s).loc.syncIn = s.loc.syncIn ∧ (egressPut p w s).loc.pps = s.loc.pps ∧
    (egressPut p w s).loc.ppsFall = s.loc.ppsFall ∧ (egressPut p w s).loc.reserve = s.loc.reserve ∧
    (egressPut p w s).loc.spimRdy = s.loc.spimRdy ∧ (egressPut p w s).loc.svcDiscard = s.loc.svcDiscard ∧
    (egressPut p w s).loc.svcViolations = s.loc.svcViolations ∧ (egressPut p w s).loc.svcDiscards = s.loc.svcDiscards ∧
    (egressPut p w s).loc.svcFrames = s.loc.svcFrames ∧ (egressPut p w s).loc.ospi = s.loc.ospi ∧
    (egressPut p w s).loc.ospiTimeouts = s.loc.ospiTimeouts ∧ (egressPut p w s).loc.ospiWriteErrors = s.loc.ospiWriteErrors ∧
    (egressPut p w s).loc.ospiLine = s.loc.ospiLine ∧ (egressPut p w s).loc.svcOut = s.loc.svcOut ∧
    (egressPut p w s).ring.state = s.ring.state ∧ (egressPut p w s).ring.joinHdr = s.ring.joinHdr ∧
    (egressPut p w s).ring.leaving = s.ring.leaving ∧ (egressPut p w s).ring.autoJoin = s.ring.autoJoin ∧
    (egressPut p w s).ring.listenEnd = s.ring.listenEnd ∧ (egressPut p w s).ring.refusedBy = s.ring.refusedBy ∧
    (egressPut p w s).ring.linkA = s.ring.linkA ∧ (egressPut p w s).ring.linkB = s.ring.linkB ∧ (egressPut p w s).ring.dups = s.ring.dups ∧
    (egressPut p w s).ring.nodes = s.ring.nodes ∧ (egressPut p w s).ring.reasm = s.ring.reasm ∧
    (egressPut p w s).ring.arrived = s.ring.arrived ∧ (egressPut p w s).ring.recv = s.ring.recv ∧
    (egressPut p w s).ring.retrieveTo = s.ring.retrieveTo ∧ (egressPut p w s).ring.parked = s.ring.parked ∧
    (egressPut p w s).ring.topo = s.ring.topo ∧ (egressPut p w s).ring.gateway = s.ring.gateway ∧
    (egressPut p w s).ring.arbiter = s.ring.arbiter ∧ (egressPut p w s).ring.ledger = s.ring.ledger ∧
    (egressPut p w s).ring.ledgerReady = s.ring.ledgerReady ∧ (egressPut p w s).ring.ledgerHeard = s.ring.ledgerHeard ∧
    (egressPut p w s).ring.budgetQ = s.ring.budgetQ ∧ (egressPut p w s).ring.grants = s.ring.grants ∧
    (egressPut p w s).ring.asks = s.ring.asks ∧ (egressPut p w s).ring.credit = s.ring.credit ∧
    (egressPut p w s).ring.granted = s.ring.granted ∧ (egressPut p w s).ring.creditDue = s.ring.creditDue ∧
    (egressPut p w s).ring.creditors = s.ring.creditors ∧ (egressPut p w s).ring.retrieval = s.ring.retrieval ∧
    (egressPut p w s).ring.forwarded = s.ring.forwarded ∧ (egressPut p w s).ring.tags = s.ring.tags ∧
    (egressPut p w s).ring.running = s.ring.running ∧ (egressPut p w s).ring.supervisions = s.ring.supervisions ∧
    (egressPut p w s).ring.supervisionDue = s.ring.supervisionDue ∧ (egressPut p w s).ring.beaconDue = s.ring.beaconDue ∧
    (egressPut p w s).ring.controlAt = s.ring.controlAt ∧ (egressPut p w s).ring.splitAlarm = s.ring.splitAlarm := by
  unfold egressPut
  (repeat' split) <;> simp

@[simp] theorem sendFrame_rest (cls bytes delay da : Nat) (head : List Byte) (msg : WireMsg) (s : State) :
    (sendFrame cls bytes delay da head msg s).time = s.time ∧ (sendFrame cls bytes delay da head msg s).ptp = s.ptp ∧
    (sendFrame cls bytes delay da head msg s).cfg = s.cfg ∧ (sendFrame cls bytes delay da head msg s).live = s.live ∧
    (sendFrame cls bytes delay da head msg s).fret = s.fret ∧ (sendFrame cls bytes delay da head msg s).fe = s.fe ∧
    (sendFrame cls bytes delay da head msg s).streams = s.streams ∧ (sendFrame cls bytes delay da head msg s).hist = s.hist ∧
    (sendFrame cls bytes delay da head msg s).dram = s.dram ∧ (sendFrame cls bytes delay da head msg s).trig = s.trig ∧
    (sendFrame cls bytes delay da head msg s).red = s.red ∧ (sendFrame cls bytes delay da head msg s).lanes = s.lanes ∧
    (sendFrame cls bytes delay da head msg s).pairs = s.pairs ∧ (sendFrame cls bytes delay da head msg s).safety = s.safety ∧
    (sendFrame cls bytes delay da head msg s).boot = s.boot ∧ (sendFrame cls bytes delay da head msg s).fresh = s.fresh ∧
    (sendFrame cls bytes delay da head msg s).sent = s.sent ∧ (sendFrame cls bytes delay da head msg s).pending = s.pending ∧
    (sendFrame cls bytes delay da head msg s).host.linkUp = s.host.linkUp ∧
    (sendFrame cls bytes delay da head msg s).host.perst = s.host.perst ∧
    (sendFrame cls bytes delay da head msg s).host.ready = s.host.ready ∧
    (sendFrame cls bytes delay da head msg s).host.flrSeen = s.host.flrSeen ∧
    (sendFrame cls bytes delay da head msg s).host.dmaErr = s.host.dmaErr ∧
    (sendFrame cls bytes delay da head msg s).host.badIdx = s.host.badIdx ∧
    (sendFrame cls bytes delay da head msg s).host.boot = s.host.boot ∧ (sendFrame cls bytes delay da head msg s).host.wbLo = s.host.wbLo ∧
    (sendFrame cls bytes delay da head msg s).host.wbHi = s.host.wbHi ∧ (sendFrame cls bytes delay da head msg s).host.logQ = s.host.logQ ∧
    (sendFrame cls bytes delay da head msg s).host.traceQ = s.host.traceQ ∧
    (sendFrame cls bytes delay da head msg s).host.scratch = s.host.scratch ∧
    (sendFrame cls bytes delay da head msg s).host.reqPcie = s.host.reqPcie ∧
    (sendFrame cls bytes delay da head msg s).host.reqSvc = s.host.reqSvc ∧
    (sendFrame cls bytes delay da head msg s).host.reqCtl = s.host.reqCtl ∧
    (sendFrame cls bytes delay da head msg s).host.mask = s.host.mask ∧ (sendFrame cls bytes delay da head msg s).host.map = s.host.map ∧
    (sendFrame cls bytes delay da head msg s).host.aerStatus = s.host.aerStatus ∧
    (sendFrame cls bytes delay da head msg s).host.msixMask = s.host.msixMask ∧
    (sendFrame cls bytes delay da head msg s).host.vecMask = s.host.vecMask ∧
    (sendFrame cls bytes delay da head msg s).host.msixTab = s.host.msixTab ∧
    (sendFrame cls bytes delay da head msg s).host.waiting = s.host.waiting ∧
    (sendFrame cls bytes delay da head msg s).host.handed = s.host.handed ∧
    (sendFrame cls bytes delay da head msg s).host.fetchNext = s.host.fetchNext ∧
    (sendFrame cls bytes delay da head msg s).host.readData = s.host.readData ∧
    (sendFrame cls bytes delay da head msg s).host.trace = s.host.trace ∧
    (sendFrame cls bytes delay da head msg s).host.slots = s.host.slots ∧
    (sendFrame cls bytes delay da head msg s).host.orphans = s.host.orphans ∧ (sendFrame cls bytes delay da head msg s).loc.fp = s.loc.fp ∧
    (sendFrame cls bytes delay da head msg s).loc.partners = s.loc.partners ∧
    (sendFrame cls bytes delay da head msg s).loc.val = s.loc.val ∧ (sendFrame cls bytes delay da head msg s).loc.valSet = s.loc.valSet ∧
    (sendFrame cls bytes delay da head msg s).loc.gpio = s.loc.gpio ∧ (sendFrame cls bytes delay da head msg s).loc.syncIn = s.loc.syncIn ∧
    (sendFrame cls bytes delay da head msg s).loc.pps = s.loc.pps ∧ (sendFrame cls bytes delay da head msg s).loc.ppsFall = s.loc.ppsFall ∧
    (sendFrame cls bytes delay da head msg s).loc.reserve = s.loc.reserve ∧
    (sendFrame cls bytes delay da head msg s).loc.spimRdy = s.loc.spimRdy ∧
    (sendFrame cls bytes delay da head msg s).loc.svcDiscard = s.loc.svcDiscard ∧
    (sendFrame cls bytes delay da head msg s).loc.svcViolations = s.loc.svcViolations ∧
    (sendFrame cls bytes delay da head msg s).loc.svcDiscards = s.loc.svcDiscards ∧
    (sendFrame cls bytes delay da head msg s).loc.svcFrames = s.loc.svcFrames ∧
    (sendFrame cls bytes delay da head msg s).loc.ospi = s.loc.ospi ∧
    (sendFrame cls bytes delay da head msg s).loc.ospiTimeouts = s.loc.ospiTimeouts ∧
    (sendFrame cls bytes delay da head msg s).loc.ospiWriteErrors = s.loc.ospiWriteErrors ∧
    (sendFrame cls bytes delay da head msg s).loc.ospiLine = s.loc.ospiLine ∧
    (sendFrame cls bytes delay da head msg s).loc.svcOut = s.loc.svcOut ∧
    (sendFrame cls bytes delay da head msg s).ring.state = s.ring.state ∧
    (sendFrame cls bytes delay da head msg s).ring.joinHdr = s.ring.joinHdr ∧
    (sendFrame cls bytes delay da head msg s).ring.leaving = s.ring.leaving ∧
    (sendFrame cls bytes delay da head msg s).ring.autoJoin = s.ring.autoJoin ∧
    (sendFrame cls bytes delay da head msg s).ring.listenEnd = s.ring.listenEnd ∧
    (sendFrame cls bytes delay da head msg s).ring.refusedBy = s.ring.refusedBy ∧
    (sendFrame cls bytes delay da head msg s).ring.linkA = s.ring.linkA ∧
    (sendFrame cls bytes delay da head msg s).ring.linkB = s.ring.linkB ∧
    (sendFrame cls bytes delay da head msg s).ring.dups = s.ring.dups ∧
    (sendFrame cls bytes delay da head msg s).ring.nodes = s.ring.nodes ∧
    (sendFrame cls bytes delay da head msg s).ring.reasm = s.ring.reasm ∧
    (sendFrame cls bytes delay da head msg s).ring.arrived = s.ring.arrived ∧
    (sendFrame cls bytes delay da head msg s).ring.recv = s.ring.recv ∧
    (sendFrame cls bytes delay da head msg s).ring.retrieveTo = s.ring.retrieveTo ∧
    (sendFrame cls bytes delay da head msg s).ring.parked = s.ring.parked ∧
    (sendFrame cls bytes delay da head msg s).ring.topo = s.ring.topo ∧
    (sendFrame cls bytes delay da head msg s).ring.gateway = s.ring.gateway ∧
    (sendFrame cls bytes delay da head msg s).ring.arbiter = s.ring.arbiter ∧
    (sendFrame cls bytes delay da head msg s).ring.ledger = s.ring.ledger ∧
    (sendFrame cls bytes delay da head msg s).ring.ledgerReady = s.ring.ledgerReady ∧
    (sendFrame cls bytes delay da head msg s).ring.ledgerHeard = s.ring.ledgerHeard ∧
    (sendFrame cls bytes delay da head msg s).ring.budgetQ = s.ring.budgetQ ∧
    (sendFrame cls bytes delay da head msg s).ring.grants = s.ring.grants ∧
    (sendFrame cls bytes delay da head msg s).ring.asks = s.ring.asks ∧
    (sendFrame cls bytes delay da head msg s).ring.credit = s.ring.credit ∧
    (sendFrame cls bytes delay da head msg s).ring.granted = s.ring.granted ∧
    (sendFrame cls bytes delay da head msg s).ring.creditDue = s.ring.creditDue ∧
    (sendFrame cls bytes delay da head msg s).ring.creditors = s.ring.creditors ∧
    (sendFrame cls bytes delay da head msg s).ring.retrieval = s.ring.retrieval ∧
    (sendFrame cls bytes delay da head msg s).ring.forwarded = s.ring.forwarded ∧
    (sendFrame cls bytes delay da head msg s).ring.tags = s.ring.tags ∧
    (sendFrame cls bytes delay da head msg s).ring.running = s.ring.running ∧
    (sendFrame cls bytes delay da head msg s).ring.supervisions = s.ring.supervisions ∧
    (sendFrame cls bytes delay da head msg s).ring.supervisionDue = s.ring.supervisionDue ∧
    (sendFrame cls bytes delay da head msg s).ring.beaconDue = s.ring.beaconDue ∧
    (sendFrame cls bytes delay da head msg s).ring.controlAt = s.ring.controlAt ∧
    (sendFrame cls bytes delay da head msg s).ring.splitAlarm = s.ring.splitAlarm := by
  simp [sendFrame]

@[simp] theorem sendJorva_rest (cls p delay : Nat) (dst : Option Nat) (frag : Nat) (last : Bool) (msg : WireMsg) (s : State) :
    (sendJorva cls p delay dst frag last msg s).time = s.time ∧ (sendJorva cls p delay dst frag last msg s).ptp = s.ptp ∧
    (sendJorva cls p delay dst frag last msg s).cfg = s.cfg ∧ (sendJorva cls p delay dst frag last msg s).live = s.live ∧
    (sendJorva cls p delay dst frag last msg s).fret = s.fret ∧ (sendJorva cls p delay dst frag last msg s).fe = s.fe ∧
    (sendJorva cls p delay dst frag last msg s).streams = s.streams ∧ (sendJorva cls p delay dst frag last msg s).hist = s.hist ∧
    (sendJorva cls p delay dst frag last msg s).dram = s.dram ∧ (sendJorva cls p delay dst frag last msg s).trig = s.trig ∧
    (sendJorva cls p delay dst frag last msg s).red = s.red ∧ (sendJorva cls p delay dst frag last msg s).lanes = s.lanes ∧
    (sendJorva cls p delay dst frag last msg s).pairs = s.pairs ∧ (sendJorva cls p delay dst frag last msg s).safety = s.safety ∧
    (sendJorva cls p delay dst frag last msg s).boot = s.boot ∧ (sendJorva cls p delay dst frag last msg s).fresh = s.fresh ∧
    (sendJorva cls p delay dst frag last msg s).sent = s.sent ∧ (sendJorva cls p delay dst frag last msg s).pending = s.pending ∧
    (sendJorva cls p delay dst frag last msg s).host.linkUp = s.host.linkUp ∧
    (sendJorva cls p delay dst frag last msg s).host.perst = s.host.perst ∧
    (sendJorva cls p delay dst frag last msg s).host.ready = s.host.ready ∧
    (sendJorva cls p delay dst frag last msg s).host.flrSeen = s.host.flrSeen ∧
    (sendJorva cls p delay dst frag last msg s).host.dmaErr = s.host.dmaErr ∧
    (sendJorva cls p delay dst frag last msg s).host.badIdx = s.host.badIdx ∧
    (sendJorva cls p delay dst frag last msg s).host.boot = s.host.boot ∧
    (sendJorva cls p delay dst frag last msg s).host.wbLo = s.host.wbLo ∧
    (sendJorva cls p delay dst frag last msg s).host.wbHi = s.host.wbHi ∧
    (sendJorva cls p delay dst frag last msg s).host.logQ = s.host.logQ ∧
    (sendJorva cls p delay dst frag last msg s).host.traceQ = s.host.traceQ ∧
    (sendJorva cls p delay dst frag last msg s).host.scratch = s.host.scratch ∧
    (sendJorva cls p delay dst frag last msg s).host.reqPcie = s.host.reqPcie ∧
    (sendJorva cls p delay dst frag last msg s).host.reqSvc = s.host.reqSvc ∧
    (sendJorva cls p delay dst frag last msg s).host.reqCtl = s.host.reqCtl ∧
    (sendJorva cls p delay dst frag last msg s).host.mask = s.host.mask ∧
    (sendJorva cls p delay dst frag last msg s).host.map = s.host.map ∧
    (sendJorva cls p delay dst frag last msg s).host.aerStatus = s.host.aerStatus ∧
    (sendJorva cls p delay dst frag last msg s).host.msixMask = s.host.msixMask ∧
    (sendJorva cls p delay dst frag last msg s).host.vecMask = s.host.vecMask ∧
    (sendJorva cls p delay dst frag last msg s).host.msixTab = s.host.msixTab ∧
    (sendJorva cls p delay dst frag last msg s).host.waiting = s.host.waiting ∧
    (sendJorva cls p delay dst frag last msg s).host.handed = s.host.handed ∧
    (sendJorva cls p delay dst frag last msg s).host.fetchNext = s.host.fetchNext ∧
    (sendJorva cls p delay dst frag last msg s).host.readData = s.host.readData ∧
    (sendJorva cls p delay dst frag last msg s).host.trace = s.host.trace ∧
    (sendJorva cls p delay dst frag last msg s).host.slots = s.host.slots ∧
    (sendJorva cls p delay dst frag last msg s).host.orphans = s.host.orphans ∧
    (sendJorva cls p delay dst frag last msg s).loc.fp = s.loc.fp ∧
    (sendJorva cls p delay dst frag last msg s).loc.partners = s.loc.partners ∧
    (sendJorva cls p delay dst frag last msg s).loc.val = s.loc.val ∧
    (sendJorva cls p delay dst frag last msg s).loc.valSet = s.loc.valSet ∧
    (sendJorva cls p delay dst frag last msg s).loc.gpio = s.loc.gpio ∧
    (sendJorva cls p delay dst frag last msg s).loc.syncIn = s.loc.syncIn ∧
    (sendJorva cls p delay dst frag last msg s).loc.pps = s.loc.pps ∧
    (sendJorva cls p delay dst frag last msg s).loc.ppsFall = s.loc.ppsFall ∧
    (sendJorva cls p delay dst frag last msg s).loc.reserve = s.loc.reserve ∧
    (sendJorva cls p delay dst frag last msg s).loc.spimRdy = s.loc.spimRdy ∧
    (sendJorva cls p delay dst frag last msg s).loc.svcDiscard = s.loc.svcDiscard ∧
    (sendJorva cls p delay dst frag last msg s).loc.svcViolations = s.loc.svcViolations ∧
    (sendJorva cls p delay dst frag last msg s).loc.svcDiscards = s.loc.svcDiscards ∧
    (sendJorva cls p delay dst frag last msg s).loc.svcFrames = s.loc.svcFrames ∧
    (sendJorva cls p delay dst frag last msg s).loc.ospi = s.loc.ospi ∧
    (sendJorva cls p delay dst frag last msg s).loc.ospiTimeouts = s.loc.ospiTimeouts ∧
    (sendJorva cls p delay dst frag last msg s).loc.ospiWriteErrors = s.loc.ospiWriteErrors ∧
    (sendJorva cls p delay dst frag last msg s).loc.ospiLine = s.loc.ospiLine ∧
    (sendJorva cls p delay dst frag last msg s).loc.svcOut = s.loc.svcOut ∧
    (sendJorva cls p delay dst frag last msg s).ring.state = s.ring.state ∧
    (sendJorva cls p delay dst frag last msg s).ring.joinHdr = s.ring.joinHdr ∧
    (sendJorva cls p delay dst frag last msg s).ring.leaving = s.ring.leaving ∧
    (sendJorva cls p delay dst frag last msg s).ring.autoJoin = s.ring.autoJoin ∧
    (sendJorva cls p delay dst frag last msg s).ring.listenEnd = s.ring.listenEnd ∧
    (sendJorva cls p delay dst frag last msg s).ring.refusedBy = s.ring.refusedBy ∧
    (sendJorva cls p delay dst frag last msg s).ring.linkA = s.ring.linkA ∧
    (sendJorva cls p delay dst frag last msg s).ring.linkB = s.ring.linkB ∧
    (sendJorva cls p delay dst frag last msg s).ring.dups = s.ring.dups ∧
    (sendJorva cls p delay dst frag last msg s).ring.nodes = s.ring.nodes ∧
    (sendJorva cls p delay dst frag last msg s).ring.reasm = s.ring.reasm ∧
    (sendJorva cls p delay dst frag last msg s).ring.arrived = s.ring.arrived ∧
    (sendJorva cls p delay dst frag last msg s).ring.recv = s.ring.recv ∧
    (sendJorva cls p delay dst frag last msg s).ring.retrieveTo = s.ring.retrieveTo ∧
    (sendJorva cls p delay dst frag last msg s).ring.parked = s.ring.parked ∧
    (sendJorva cls p delay dst frag last msg s).ring.topo = s.ring.topo ∧
    (sendJorva cls p delay dst frag last msg s).ring.gateway = s.ring.gateway ∧
    (sendJorva cls p delay dst frag last msg s).ring.arbiter = s.ring.arbiter ∧
    (sendJorva cls p delay dst frag last msg s).ring.ledger = s.ring.ledger ∧
    (sendJorva cls p delay dst frag last msg s).ring.ledgerReady = s.ring.ledgerReady ∧
    (sendJorva cls p delay dst frag last msg s).ring.ledgerHeard = s.ring.ledgerHeard ∧
    (sendJorva cls p delay dst frag last msg s).ring.budgetQ = s.ring.budgetQ ∧
    (sendJorva cls p delay dst frag last msg s).ring.grants = s.ring.grants ∧
    (sendJorva cls p delay dst frag last msg s).ring.asks = s.ring.asks ∧
    (sendJorva cls p delay dst frag last msg s).ring.credit = s.ring.credit ∧
    (sendJorva cls p delay dst frag last msg s).ring.granted = s.ring.granted ∧
    (sendJorva cls p delay dst frag last msg s).ring.creditDue = s.ring.creditDue ∧
    (sendJorva cls p delay dst frag last msg s).ring.creditors = s.ring.creditors ∧
    (sendJorva cls p delay dst frag last msg s).ring.retrieval = s.ring.retrieval ∧
    (sendJorva cls p delay dst frag last msg s).ring.forwarded = s.ring.forwarded ∧
    (sendJorva cls p delay dst frag last msg s).ring.tags = s.ring.tags ∧
    (sendJorva cls p delay dst frag last msg s).ring.running = s.ring.running ∧
    (sendJorva cls p delay dst frag last msg s).ring.supervisions = s.ring.supervisions ∧
    (sendJorva cls p delay dst frag last msg s).ring.supervisionDue = s.ring.supervisionDue ∧
    (sendJorva cls p delay dst frag last msg s).ring.beaconDue = s.ring.beaconDue ∧
    (sendJorva cls p delay dst frag last msg s).ring.controlAt = s.ring.controlAt ∧
    (sendJorva cls p delay dst frag last msg s).ring.splitAlarm = s.ring.splitAlarm := by
  simp [sendJorva]

@[simp] theorem controlFrame_rest (p : Nat) (dst : Option Nat) (frag : Nat) (last : Bool) (msg : WireMsg) (s : State) :
    (controlFrame p dst frag last msg s).time = s.time ∧ (controlFrame p dst frag last msg s).ptp = s.ptp ∧
    (controlFrame p dst frag last msg s).cfg = s.cfg ∧ (controlFrame p dst frag last msg s).live = s.live ∧
    (controlFrame p dst frag last msg s).fret = s.fret ∧ (controlFrame p dst frag last msg s).fe = s.fe ∧
    (controlFrame p dst frag last msg s).streams = s.streams ∧ (controlFrame p dst frag last msg s).hist = s.hist ∧
    (controlFrame p dst frag last msg s).dram = s.dram ∧ (controlFrame p dst frag last msg s).trig = s.trig ∧
    (controlFrame p dst frag last msg s).red = s.red ∧ (controlFrame p dst frag last msg s).lanes = s.lanes ∧
    (controlFrame p dst frag last msg s).pairs = s.pairs ∧ (controlFrame p dst frag last msg s).safety = s.safety ∧
    (controlFrame p dst frag last msg s).boot = s.boot ∧ (controlFrame p dst frag last msg s).fresh = s.fresh ∧
    (controlFrame p dst frag last msg s).sent = s.sent ∧ (controlFrame p dst frag last msg s).pending = s.pending ∧
    (controlFrame p dst frag last msg s).host.linkUp = s.host.linkUp ∧ (controlFrame p dst frag last msg s).host.perst = s.host.perst ∧
    (controlFrame p dst frag last msg s).host.ready = s.host.ready ∧ (controlFrame p dst frag last msg s).host.flrSeen = s.host.flrSeen ∧
    (controlFrame p dst frag last msg s).host.dmaErr = s.host.dmaErr ∧ (controlFrame p dst frag last msg s).host.badIdx = s.host.badIdx ∧
    (controlFrame p dst frag last msg s).host.boot = s.host.boot ∧ (controlFrame p dst frag last msg s).host.wbLo = s.host.wbLo ∧
    (controlFrame p dst frag last msg s).host.wbHi = s.host.wbHi ∧ (controlFrame p dst frag last msg s).host.logQ = s.host.logQ ∧
    (controlFrame p dst frag last msg s).host.traceQ = s.host.traceQ ∧ (controlFrame p dst frag last msg s).host.scratch = s.host.scratch ∧
    (controlFrame p dst frag last msg s).host.reqPcie = s.host.reqPcie ∧ (controlFrame p dst frag last msg s).host.reqSvc = s.host.reqSvc ∧
    (controlFrame p dst frag last msg s).host.reqCtl = s.host.reqCtl ∧ (controlFrame p dst frag last msg s).host.mask = s.host.mask ∧
    (controlFrame p dst frag last msg s).host.map = s.host.map ∧ (controlFrame p dst frag last msg s).host.aerStatus = s.host.aerStatus ∧
    (controlFrame p dst frag last msg s).host.msixMask = s.host.msixMask ∧
    (controlFrame p dst frag last msg s).host.vecMask = s.host.vecMask ∧
    (controlFrame p dst frag last msg s).host.msixTab = s.host.msixTab ∧
    (controlFrame p dst frag last msg s).host.waiting = s.host.waiting ∧ (controlFrame p dst frag last msg s).host.handed = s.host.handed ∧
    (controlFrame p dst frag last msg s).host.fetchNext = s.host.fetchNext ∧
    (controlFrame p dst frag last msg s).host.readData = s.host.readData ∧ (controlFrame p dst frag last msg s).host.trace = s.host.trace ∧
    (controlFrame p dst frag last msg s).host.slots = s.host.slots ∧ (controlFrame p dst frag last msg s).host.orphans = s.host.orphans ∧
    (controlFrame p dst frag last msg s).loc.fp = s.loc.fp ∧ (controlFrame p dst frag last msg s).loc.partners = s.loc.partners ∧
    (controlFrame p dst frag last msg s).loc.val = s.loc.val ∧ (controlFrame p dst frag last msg s).loc.valSet = s.loc.valSet ∧
    (controlFrame p dst frag last msg s).loc.gpio = s.loc.gpio ∧ (controlFrame p dst frag last msg s).loc.syncIn = s.loc.syncIn ∧
    (controlFrame p dst frag last msg s).loc.pps = s.loc.pps ∧ (controlFrame p dst frag last msg s).loc.ppsFall = s.loc.ppsFall ∧
    (controlFrame p dst frag last msg s).loc.reserve = s.loc.reserve ∧ (controlFrame p dst frag last msg s).loc.spimRdy = s.loc.spimRdy ∧
    (controlFrame p dst frag last msg s).loc.svcDiscard = s.loc.svcDiscard ∧
    (controlFrame p dst frag last msg s).loc.svcViolations = s.loc.svcViolations ∧
    (controlFrame p dst frag last msg s).loc.svcDiscards = s.loc.svcDiscards ∧
    (controlFrame p dst frag last msg s).loc.svcFrames = s.loc.svcFrames ∧ (controlFrame p dst frag last msg s).loc.ospi = s.loc.ospi ∧
    (controlFrame p dst frag last msg s).loc.ospiTimeouts = s.loc.ospiTimeouts ∧
    (controlFrame p dst frag last msg s).loc.ospiWriteErrors = s.loc.ospiWriteErrors ∧
    (controlFrame p dst frag last msg s).loc.ospiLine = s.loc.ospiLine ∧ (controlFrame p dst frag last msg s).loc.svcOut = s.loc.svcOut ∧
    (controlFrame p dst frag last msg s).ring.state = s.ring.state ∧ (controlFrame p dst frag last msg s).ring.joinHdr = s.ring.joinHdr ∧
    (controlFrame p dst frag last msg s).ring.leaving = s.ring.leaving ∧
    (controlFrame p dst frag last msg s).ring.autoJoin = s.ring.autoJoin ∧
    (controlFrame p dst frag last msg s).ring.listenEnd = s.ring.listenEnd ∧
    (controlFrame p dst frag last msg s).ring.refusedBy = s.ring.refusedBy ∧
    (controlFrame p dst frag last msg s).ring.linkA = s.ring.linkA ∧ (controlFrame p dst frag last msg s).ring.linkB = s.ring.linkB ∧
    (controlFrame p dst frag last msg s).ring.dups = s.ring.dups ∧ (controlFrame p dst frag last msg s).ring.nodes = s.ring.nodes ∧
    (controlFrame p dst frag last msg s).ring.reasm = s.ring.reasm ∧ (controlFrame p dst frag last msg s).ring.arrived = s.ring.arrived ∧
    (controlFrame p dst frag last msg s).ring.recv = s.ring.recv ∧
    (controlFrame p dst frag last msg s).ring.retrieveTo = s.ring.retrieveTo ∧
    (controlFrame p dst frag last msg s).ring.parked = s.ring.parked ∧ (controlFrame p dst frag last msg s).ring.topo = s.ring.topo ∧
    (controlFrame p dst frag last msg s).ring.gateway = s.ring.gateway ∧
    (controlFrame p dst frag last msg s).ring.arbiter = s.ring.arbiter ∧ (controlFrame p dst frag last msg s).ring.ledger = s.ring.ledger ∧
    (controlFrame p dst frag last msg s).ring.ledgerReady = s.ring.ledgerReady ∧
    (controlFrame p dst frag last msg s).ring.ledgerHeard = s.ring.ledgerHeard ∧
    (controlFrame p dst frag last msg s).ring.budgetQ = s.ring.budgetQ ∧ (controlFrame p dst frag last msg s).ring.grants = s.ring.grants ∧
    (controlFrame p dst frag last msg s).ring.asks = s.ring.asks ∧ (controlFrame p dst frag last msg s).ring.credit = s.ring.credit ∧
    (controlFrame p dst frag last msg s).ring.granted = s.ring.granted ∧
    (controlFrame p dst frag last msg s).ring.creditDue = s.ring.creditDue ∧
    (controlFrame p dst frag last msg s).ring.creditors = s.ring.creditors ∧
    (controlFrame p dst frag last msg s).ring.retrieval = s.ring.retrieval ∧
    (controlFrame p dst frag last msg s).ring.forwarded = s.ring.forwarded ∧ (controlFrame p dst frag last msg s).ring.tags = s.ring.tags ∧
    (controlFrame p dst frag last msg s).ring.running = s.ring.running ∧
    (controlFrame p dst frag last msg s).ring.supervisions = s.ring.supervisions ∧
    (controlFrame p dst frag last msg s).ring.supervisionDue = s.ring.supervisionDue ∧
    (controlFrame p dst frag last msg s).ring.beaconDue = s.ring.beaconDue ∧
    (controlFrame p dst frag last msg s).ring.splitAlarm = s.ring.splitAlarm := by
  simp [controlFrame]

@[simp] theorem controlFrames_rest (p k : Nat) (dst : Option Nat) (msg : WireMsg) (l : List Nat) (s : State) :
    (l.foldl (fun t i => controlFrame (min 1472 (p - 1472 * i)) dst i (decide (i + 1 = k)) msg t) s).time = s.time ∧
    (l.foldl (fun t i => controlFrame (min 1472 (p - 1472 * i)) dst i (decide (i + 1 = k)) msg t) s).ptp = s.ptp ∧
    (l.foldl (fun t i => controlFrame (min 1472 (p - 1472 * i)) dst i (decide (i + 1 = k)) msg t) s).cfg = s.cfg ∧
    (l.foldl (fun t i => controlFrame (min 1472 (p - 1472 * i)) dst i (decide (i + 1 = k)) msg t) s).live = s.live ∧
    (l.foldl (fun t i => controlFrame (min 1472 (p - 1472 * i)) dst i (decide (i + 1 = k)) msg t) s).fret = s.fret ∧
    (l.foldl (fun t i => controlFrame (min 1472 (p - 1472 * i)) dst i (decide (i + 1 = k)) msg t) s).fe = s.fe ∧
    (l.foldl (fun t i => controlFrame (min 1472 (p - 1472 * i)) dst i (decide (i + 1 = k)) msg t) s).streams = s.streams ∧
    (l.foldl (fun t i => controlFrame (min 1472 (p - 1472 * i)) dst i (decide (i + 1 = k)) msg t) s).hist = s.hist ∧
    (l.foldl (fun t i => controlFrame (min 1472 (p - 1472 * i)) dst i (decide (i + 1 = k)) msg t) s).dram = s.dram ∧
    (l.foldl (fun t i => controlFrame (min 1472 (p - 1472 * i)) dst i (decide (i + 1 = k)) msg t) s).trig = s.trig ∧
    (l.foldl (fun t i => controlFrame (min 1472 (p - 1472 * i)) dst i (decide (i + 1 = k)) msg t) s).red = s.red ∧
    (l.foldl (fun t i => controlFrame (min 1472 (p - 1472 * i)) dst i (decide (i + 1 = k)) msg t) s).lanes = s.lanes ∧
    (l.foldl (fun t i => controlFrame (min 1472 (p - 1472 * i)) dst i (decide (i + 1 = k)) msg t) s).pairs = s.pairs ∧
    (l.foldl (fun t i => controlFrame (min 1472 (p - 1472 * i)) dst i (decide (i + 1 = k)) msg t) s).safety = s.safety ∧
    (l.foldl (fun t i => controlFrame (min 1472 (p - 1472 * i)) dst i (decide (i + 1 = k)) msg t) s).boot = s.boot ∧
    (l.foldl (fun t i => controlFrame (min 1472 (p - 1472 * i)) dst i (decide (i + 1 = k)) msg t) s).fresh = s.fresh ∧
    (l.foldl (fun t i => controlFrame (min 1472 (p - 1472 * i)) dst i (decide (i + 1 = k)) msg t) s).sent = s.sent ∧
    (l.foldl (fun t i => controlFrame (min 1472 (p - 1472 * i)) dst i (decide (i + 1 = k)) msg t) s).pending = s.pending ∧
    (l.foldl (fun t i => controlFrame (min 1472 (p - 1472 * i)) dst i (decide (i + 1 = k)) msg t) s).host.linkUp = s.host.linkUp ∧
    (l.foldl (fun t i => controlFrame (min 1472 (p - 1472 * i)) dst i (decide (i + 1 = k)) msg t) s).host.perst = s.host.perst ∧
    (l.foldl (fun t i => controlFrame (min 1472 (p - 1472 * i)) dst i (decide (i + 1 = k)) msg t) s).host.ready = s.host.ready ∧
    (l.foldl (fun t i => controlFrame (min 1472 (p - 1472 * i)) dst i (decide (i + 1 = k)) msg t) s).host.flrSeen = s.host.flrSeen ∧
    (l.foldl (fun t i => controlFrame (min 1472 (p - 1472 * i)) dst i (decide (i + 1 = k)) msg t) s).host.dmaErr = s.host.dmaErr ∧
    (l.foldl (fun t i => controlFrame (min 1472 (p - 1472 * i)) dst i (decide (i + 1 = k)) msg t) s).host.badIdx = s.host.badIdx ∧
    (l.foldl (fun t i => controlFrame (min 1472 (p - 1472 * i)) dst i (decide (i + 1 = k)) msg t) s).host.boot = s.host.boot ∧
    (l.foldl (fun t i => controlFrame (min 1472 (p - 1472 * i)) dst i (decide (i + 1 = k)) msg t) s).host.wbLo = s.host.wbLo ∧
    (l.foldl (fun t i => controlFrame (min 1472 (p - 1472 * i)) dst i (decide (i + 1 = k)) msg t) s).host.wbHi = s.host.wbHi ∧
    (l.foldl (fun t i => controlFrame (min 1472 (p - 1472 * i)) dst i (decide (i + 1 = k)) msg t) s).host.logQ = s.host.logQ ∧
    (l.foldl (fun t i => controlFrame (min 1472 (p - 1472 * i)) dst i (decide (i + 1 = k)) msg t) s).host.traceQ = s.host.traceQ ∧
    (l.foldl (fun t i => controlFrame (min 1472 (p - 1472 * i)) dst i (decide (i + 1 = k)) msg t) s).host.scratch = s.host.scratch ∧
    (l.foldl (fun t i => controlFrame (min 1472 (p - 1472 * i)) dst i (decide (i + 1 = k)) msg t) s).host.reqPcie = s.host.reqPcie ∧
    (l.foldl (fun t i => controlFrame (min 1472 (p - 1472 * i)) dst i (decide (i + 1 = k)) msg t) s).host.reqSvc = s.host.reqSvc ∧
    (l.foldl (fun t i => controlFrame (min 1472 (p - 1472 * i)) dst i (decide (i + 1 = k)) msg t) s).host.reqCtl = s.host.reqCtl ∧
    (l.foldl (fun t i => controlFrame (min 1472 (p - 1472 * i)) dst i (decide (i + 1 = k)) msg t) s).host.mask = s.host.mask ∧
    (l.foldl (fun t i => controlFrame (min 1472 (p - 1472 * i)) dst i (decide (i + 1 = k)) msg t) s).host.map = s.host.map ∧
    (l.foldl (fun t i => controlFrame (min 1472 (p - 1472 * i)) dst i (decide (i + 1 = k)) msg t) s).host.aerStatus = s.host.aerStatus ∧
    (l.foldl (fun t i => controlFrame (min 1472 (p - 1472 * i)) dst i (decide (i + 1 = k)) msg t) s).host.msixMask = s.host.msixMask ∧
    (l.foldl (fun t i => controlFrame (min 1472 (p - 1472 * i)) dst i (decide (i + 1 = k)) msg t) s).host.vecMask = s.host.vecMask ∧
    (l.foldl (fun t i => controlFrame (min 1472 (p - 1472 * i)) dst i (decide (i + 1 = k)) msg t) s).host.msixTab = s.host.msixTab ∧
    (l.foldl (fun t i => controlFrame (min 1472 (p - 1472 * i)) dst i (decide (i + 1 = k)) msg t) s).host.waiting = s.host.waiting ∧
    (l.foldl (fun t i => controlFrame (min 1472 (p - 1472 * i)) dst i (decide (i + 1 = k)) msg t) s).host.handed = s.host.handed ∧
    (l.foldl (fun t i => controlFrame (min 1472 (p - 1472 * i)) dst i (decide (i + 1 = k)) msg t) s).host.fetchNext = s.host.fetchNext ∧
    (l.foldl (fun t i => controlFrame (min 1472 (p - 1472 * i)) dst i (decide (i + 1 = k)) msg t) s).host.readData = s.host.readData ∧
    (l.foldl (fun t i => controlFrame (min 1472 (p - 1472 * i)) dst i (decide (i + 1 = k)) msg t) s).host.trace = s.host.trace ∧
    (l.foldl (fun t i => controlFrame (min 1472 (p - 1472 * i)) dst i (decide (i + 1 = k)) msg t) s).host.slots = s.host.slots ∧
    (l.foldl (fun t i => controlFrame (min 1472 (p - 1472 * i)) dst i (decide (i + 1 = k)) msg t) s).host.orphans = s.host.orphans ∧
    (l.foldl (fun t i => controlFrame (min 1472 (p - 1472 * i)) dst i (decide (i + 1 = k)) msg t) s).loc.fp = s.loc.fp ∧
    (l.foldl (fun t i => controlFrame (min 1472 (p - 1472 * i)) dst i (decide (i + 1 = k)) msg t) s).loc.partners = s.loc.partners ∧
    (l.foldl (fun t i => controlFrame (min 1472 (p - 1472 * i)) dst i (decide (i + 1 = k)) msg t) s).loc.val = s.loc.val ∧
    (l.foldl (fun t i => controlFrame (min 1472 (p - 1472 * i)) dst i (decide (i + 1 = k)) msg t) s).loc.valSet = s.loc.valSet ∧
    (l.foldl (fun t i => controlFrame (min 1472 (p - 1472 * i)) dst i (decide (i + 1 = k)) msg t) s).loc.gpio = s.loc.gpio ∧
    (l.foldl (fun t i => controlFrame (min 1472 (p - 1472 * i)) dst i (decide (i + 1 = k)) msg t) s).loc.syncIn = s.loc.syncIn ∧
    (l.foldl (fun t i => controlFrame (min 1472 (p - 1472 * i)) dst i (decide (i + 1 = k)) msg t) s).loc.pps = s.loc.pps ∧
    (l.foldl (fun t i => controlFrame (min 1472 (p - 1472 * i)) dst i (decide (i + 1 = k)) msg t) s).loc.ppsFall = s.loc.ppsFall ∧
    (l.foldl (fun t i => controlFrame (min 1472 (p - 1472 * i)) dst i (decide (i + 1 = k)) msg t) s).loc.reserve = s.loc.reserve ∧
    (l.foldl (fun t i => controlFrame (min 1472 (p - 1472 * i)) dst i (decide (i + 1 = k)) msg t) s).loc.spimRdy = s.loc.spimRdy ∧
    (l.foldl (fun t i => controlFrame (min 1472 (p - 1472 * i)) dst i (decide (i + 1 = k)) msg t) s).loc.svcDiscard = s.loc.svcDiscard ∧
    (l.foldl (fun t i => controlFrame (min 1472 (p - 1472 * i)) dst i (decide (i + 1 = k)) msg t) s).loc.svcViolations = s.loc.svcViolations ∧
    (l.foldl (fun t i => controlFrame (min 1472 (p - 1472 * i)) dst i (decide (i + 1 = k)) msg t) s).loc.svcDiscards = s.loc.svcDiscards ∧
    (l.foldl (fun t i => controlFrame (min 1472 (p - 1472 * i)) dst i (decide (i + 1 = k)) msg t) s).loc.svcFrames = s.loc.svcFrames ∧
    (l.foldl (fun t i => controlFrame (min 1472 (p - 1472 * i)) dst i (decide (i + 1 = k)) msg t) s).loc.ospi = s.loc.ospi ∧
    (l.foldl (fun t i => controlFrame (min 1472 (p - 1472 * i)) dst i (decide (i + 1 = k)) msg t) s).loc.ospiTimeouts = s.loc.ospiTimeouts ∧
    (l.foldl (fun t i => controlFrame (min 1472 (p - 1472 * i)) dst i (decide (i + 1 = k)) msg t) s).loc.ospiWriteErrors = s.loc.ospiWriteErrors ∧
    (l.foldl (fun t i => controlFrame (min 1472 (p - 1472 * i)) dst i (decide (i + 1 = k)) msg t) s).loc.ospiLine = s.loc.ospiLine ∧
    (l.foldl (fun t i => controlFrame (min 1472 (p - 1472 * i)) dst i (decide (i + 1 = k)) msg t) s).loc.svcOut = s.loc.svcOut ∧
    (l.foldl (fun t i => controlFrame (min 1472 (p - 1472 * i)) dst i (decide (i + 1 = k)) msg t) s).ring.state = s.ring.state ∧
    (l.foldl (fun t i => controlFrame (min 1472 (p - 1472 * i)) dst i (decide (i + 1 = k)) msg t) s).ring.joinHdr = s.ring.joinHdr ∧
    (l.foldl (fun t i => controlFrame (min 1472 (p - 1472 * i)) dst i (decide (i + 1 = k)) msg t) s).ring.leaving = s.ring.leaving ∧
    (l.foldl (fun t i => controlFrame (min 1472 (p - 1472 * i)) dst i (decide (i + 1 = k)) msg t) s).ring.autoJoin = s.ring.autoJoin ∧
    (l.foldl (fun t i => controlFrame (min 1472 (p - 1472 * i)) dst i (decide (i + 1 = k)) msg t) s).ring.listenEnd = s.ring.listenEnd ∧
    (l.foldl (fun t i => controlFrame (min 1472 (p - 1472 * i)) dst i (decide (i + 1 = k)) msg t) s).ring.refusedBy = s.ring.refusedBy ∧
    (l.foldl (fun t i => controlFrame (min 1472 (p - 1472 * i)) dst i (decide (i + 1 = k)) msg t) s).ring.linkA = s.ring.linkA ∧
    (l.foldl (fun t i => controlFrame (min 1472 (p - 1472 * i)) dst i (decide (i + 1 = k)) msg t) s).ring.linkB = s.ring.linkB ∧
    (l.foldl (fun t i => controlFrame (min 1472 (p - 1472 * i)) dst i (decide (i + 1 = k)) msg t) s).ring.dups = s.ring.dups ∧
    (l.foldl (fun t i => controlFrame (min 1472 (p - 1472 * i)) dst i (decide (i + 1 = k)) msg t) s).ring.nodes = s.ring.nodes ∧
    (l.foldl (fun t i => controlFrame (min 1472 (p - 1472 * i)) dst i (decide (i + 1 = k)) msg t) s).ring.reasm = s.ring.reasm ∧
    (l.foldl (fun t i => controlFrame (min 1472 (p - 1472 * i)) dst i (decide (i + 1 = k)) msg t) s).ring.arrived = s.ring.arrived ∧
    (l.foldl (fun t i => controlFrame (min 1472 (p - 1472 * i)) dst i (decide (i + 1 = k)) msg t) s).ring.recv = s.ring.recv ∧
    (l.foldl (fun t i => controlFrame (min 1472 (p - 1472 * i)) dst i (decide (i + 1 = k)) msg t) s).ring.retrieveTo = s.ring.retrieveTo ∧
    (l.foldl (fun t i => controlFrame (min 1472 (p - 1472 * i)) dst i (decide (i + 1 = k)) msg t) s).ring.parked = s.ring.parked ∧
    (l.foldl (fun t i => controlFrame (min 1472 (p - 1472 * i)) dst i (decide (i + 1 = k)) msg t) s).ring.topo = s.ring.topo ∧
    (l.foldl (fun t i => controlFrame (min 1472 (p - 1472 * i)) dst i (decide (i + 1 = k)) msg t) s).ring.gateway = s.ring.gateway ∧
    (l.foldl (fun t i => controlFrame (min 1472 (p - 1472 * i)) dst i (decide (i + 1 = k)) msg t) s).ring.arbiter = s.ring.arbiter ∧
    (l.foldl (fun t i => controlFrame (min 1472 (p - 1472 * i)) dst i (decide (i + 1 = k)) msg t) s).ring.ledger = s.ring.ledger ∧
    (l.foldl (fun t i => controlFrame (min 1472 (p - 1472 * i)) dst i (decide (i + 1 = k)) msg t) s).ring.ledgerReady = s.ring.ledgerReady ∧
    (l.foldl (fun t i => controlFrame (min 1472 (p - 1472 * i)) dst i (decide (i + 1 = k)) msg t) s).ring.ledgerHeard = s.ring.ledgerHeard ∧
    (l.foldl (fun t i => controlFrame (min 1472 (p - 1472 * i)) dst i (decide (i + 1 = k)) msg t) s).ring.budgetQ = s.ring.budgetQ ∧
    (l.foldl (fun t i => controlFrame (min 1472 (p - 1472 * i)) dst i (decide (i + 1 = k)) msg t) s).ring.grants = s.ring.grants ∧
    (l.foldl (fun t i => controlFrame (min 1472 (p - 1472 * i)) dst i (decide (i + 1 = k)) msg t) s).ring.asks = s.ring.asks ∧
    (l.foldl (fun t i => controlFrame (min 1472 (p - 1472 * i)) dst i (decide (i + 1 = k)) msg t) s).ring.credit = s.ring.credit ∧
    (l.foldl (fun t i => controlFrame (min 1472 (p - 1472 * i)) dst i (decide (i + 1 = k)) msg t) s).ring.granted = s.ring.granted ∧
    (l.foldl (fun t i => controlFrame (min 1472 (p - 1472 * i)) dst i (decide (i + 1 = k)) msg t) s).ring.creditDue = s.ring.creditDue ∧
    (l.foldl (fun t i => controlFrame (min 1472 (p - 1472 * i)) dst i (decide (i + 1 = k)) msg t) s).ring.creditors = s.ring.creditors ∧
    (l.foldl (fun t i => controlFrame (min 1472 (p - 1472 * i)) dst i (decide (i + 1 = k)) msg t) s).ring.retrieval = s.ring.retrieval ∧
    (l.foldl (fun t i => controlFrame (min 1472 (p - 1472 * i)) dst i (decide (i + 1 = k)) msg t) s).ring.forwarded = s.ring.forwarded ∧
    (l.foldl (fun t i => controlFrame (min 1472 (p - 1472 * i)) dst i (decide (i + 1 = k)) msg t) s).ring.tags = s.ring.tags ∧
    (l.foldl (fun t i => controlFrame (min 1472 (p - 1472 * i)) dst i (decide (i + 1 = k)) msg t) s).ring.running = s.ring.running ∧
    (l.foldl (fun t i => controlFrame (min 1472 (p - 1472 * i)) dst i (decide (i + 1 = k)) msg t) s).ring.supervisions = s.ring.supervisions ∧
    (l.foldl (fun t i => controlFrame (min 1472 (p - 1472 * i)) dst i (decide (i + 1 = k)) msg t) s).ring.supervisionDue = s.ring.supervisionDue ∧
    (l.foldl (fun t i => controlFrame (min 1472 (p - 1472 * i)) dst i (decide (i + 1 = k)) msg t) s).ring.beaconDue = s.ring.beaconDue ∧
    (l.foldl (fun t i => controlFrame (min 1472 (p - 1472 * i)) dst i (decide (i + 1 = k)) msg t) s).ring.splitAlarm = s.ring.splitAlarm := by
  induction l generalizing s with
  | nil => simp
  | cons r l ih => simp [ih]

@[simp] theorem sendControl_rest (p : Nat) (dst : Option Nat) (msg : WireMsg) (s : State) :
    (sendControl p dst msg s).time = s.time ∧ (sendControl p dst msg s).ptp = s.ptp ∧ (sendControl p dst msg s).cfg = s.cfg ∧
    (sendControl p dst msg s).live = s.live ∧ (sendControl p dst msg s).fret = s.fret ∧ (sendControl p dst msg s).fe = s.fe ∧
    (sendControl p dst msg s).streams = s.streams ∧ (sendControl p dst msg s).hist = s.hist ∧ (sendControl p dst msg s).dram = s.dram ∧
    (sendControl p dst msg s).trig = s.trig ∧ (sendControl p dst msg s).red = s.red ∧ (sendControl p dst msg s).lanes = s.lanes ∧
    (sendControl p dst msg s).pairs = s.pairs ∧ (sendControl p dst msg s).safety = s.safety ∧ (sendControl p dst msg s).boot = s.boot ∧
    (sendControl p dst msg s).fresh = s.fresh ∧ (sendControl p dst msg s).sent = s.sent ∧ (sendControl p dst msg s).pending = s.pending ∧
    (sendControl p dst msg s).host.linkUp = s.host.linkUp ∧ (sendControl p dst msg s).host.perst = s.host.perst ∧
    (sendControl p dst msg s).host.ready = s.host.ready ∧ (sendControl p dst msg s).host.flrSeen = s.host.flrSeen ∧
    (sendControl p dst msg s).host.dmaErr = s.host.dmaErr ∧ (sendControl p dst msg s).host.badIdx = s.host.badIdx ∧
    (sendControl p dst msg s).host.boot = s.host.boot ∧ (sendControl p dst msg s).host.wbLo = s.host.wbLo ∧
    (sendControl p dst msg s).host.wbHi = s.host.wbHi ∧ (sendControl p dst msg s).host.logQ = s.host.logQ ∧
    (sendControl p dst msg s).host.traceQ = s.host.traceQ ∧ (sendControl p dst msg s).host.scratch = s.host.scratch ∧
    (sendControl p dst msg s).host.reqPcie = s.host.reqPcie ∧ (sendControl p dst msg s).host.reqSvc = s.host.reqSvc ∧
    (sendControl p dst msg s).host.reqCtl = s.host.reqCtl ∧ (sendControl p dst msg s).host.mask = s.host.mask ∧
    (sendControl p dst msg s).host.map = s.host.map ∧ (sendControl p dst msg s).host.aerStatus = s.host.aerStatus ∧
    (sendControl p dst msg s).host.msixMask = s.host.msixMask ∧ (sendControl p dst msg s).host.vecMask = s.host.vecMask ∧
    (sendControl p dst msg s).host.msixTab = s.host.msixTab ∧ (sendControl p dst msg s).host.waiting = s.host.waiting ∧
    (sendControl p dst msg s).host.handed = s.host.handed ∧ (sendControl p dst msg s).host.fetchNext = s.host.fetchNext ∧
    (sendControl p dst msg s).host.readData = s.host.readData ∧ (sendControl p dst msg s).host.trace = s.host.trace ∧
    (sendControl p dst msg s).host.slots = s.host.slots ∧ (sendControl p dst msg s).host.orphans = s.host.orphans ∧
    (sendControl p dst msg s).loc.fp = s.loc.fp ∧ (sendControl p dst msg s).loc.partners = s.loc.partners ∧
    (sendControl p dst msg s).loc.val = s.loc.val ∧ (sendControl p dst msg s).loc.valSet = s.loc.valSet ∧
    (sendControl p dst msg s).loc.gpio = s.loc.gpio ∧ (sendControl p dst msg s).loc.syncIn = s.loc.syncIn ∧
    (sendControl p dst msg s).loc.pps = s.loc.pps ∧ (sendControl p dst msg s).loc.ppsFall = s.loc.ppsFall ∧
    (sendControl p dst msg s).loc.reserve = s.loc.reserve ∧ (sendControl p dst msg s).loc.spimRdy = s.loc.spimRdy ∧
    (sendControl p dst msg s).loc.svcDiscard = s.loc.svcDiscard ∧ (sendControl p dst msg s).loc.svcViolations = s.loc.svcViolations ∧
    (sendControl p dst msg s).loc.svcDiscards = s.loc.svcDiscards ∧ (sendControl p dst msg s).loc.svcFrames = s.loc.svcFrames ∧
    (sendControl p dst msg s).loc.ospi = s.loc.ospi ∧ (sendControl p dst msg s).loc.ospiTimeouts = s.loc.ospiTimeouts ∧
    (sendControl p dst msg s).loc.ospiWriteErrors = s.loc.ospiWriteErrors ∧ (sendControl p dst msg s).loc.ospiLine = s.loc.ospiLine ∧
    (sendControl p dst msg s).loc.svcOut = s.loc.svcOut ∧ (sendControl p dst msg s).ring.state = s.ring.state ∧
    (sendControl p dst msg s).ring.joinHdr = s.ring.joinHdr ∧ (sendControl p dst msg s).ring.leaving = s.ring.leaving ∧
    (sendControl p dst msg s).ring.autoJoin = s.ring.autoJoin ∧ (sendControl p dst msg s).ring.listenEnd = s.ring.listenEnd ∧
    (sendControl p dst msg s).ring.refusedBy = s.ring.refusedBy ∧ (sendControl p dst msg s).ring.linkA = s.ring.linkA ∧
    (sendControl p dst msg s).ring.linkB = s.ring.linkB ∧ (sendControl p dst msg s).ring.dups = s.ring.dups ∧
    (sendControl p dst msg s).ring.nodes = s.ring.nodes ∧ (sendControl p dst msg s).ring.reasm = s.ring.reasm ∧
    (sendControl p dst msg s).ring.arrived = s.ring.arrived ∧ (sendControl p dst msg s).ring.recv = s.ring.recv ∧
    (sendControl p dst msg s).ring.retrieveTo = s.ring.retrieveTo ∧ (sendControl p dst msg s).ring.parked = s.ring.parked ∧
    (sendControl p dst msg s).ring.topo = s.ring.topo ∧ (sendControl p dst msg s).ring.gateway = s.ring.gateway ∧
    (sendControl p dst msg s).ring.arbiter = s.ring.arbiter ∧ (sendControl p dst msg s).ring.ledger = s.ring.ledger ∧
    (sendControl p dst msg s).ring.ledgerReady = s.ring.ledgerReady ∧ (sendControl p dst msg s).ring.ledgerHeard = s.ring.ledgerHeard ∧
    (sendControl p dst msg s).ring.budgetQ = s.ring.budgetQ ∧ (sendControl p dst msg s).ring.grants = s.ring.grants ∧
    (sendControl p dst msg s).ring.asks = s.ring.asks ∧ (sendControl p dst msg s).ring.credit = s.ring.credit ∧
    (sendControl p dst msg s).ring.granted = s.ring.granted ∧ (sendControl p dst msg s).ring.creditDue = s.ring.creditDue ∧
    (sendControl p dst msg s).ring.creditors = s.ring.creditors ∧ (sendControl p dst msg s).ring.retrieval = s.ring.retrieval ∧
    (sendControl p dst msg s).ring.forwarded = s.ring.forwarded ∧ (sendControl p dst msg s).ring.tags = s.ring.tags ∧
    (sendControl p dst msg s).ring.running = s.ring.running ∧ (sendControl p dst msg s).ring.supervisions = s.ring.supervisions ∧
    (sendControl p dst msg s).ring.supervisionDue = s.ring.supervisionDue ∧ (sendControl p dst msg s).ring.beaconDue = s.ring.beaconDue ∧
    (sendControl p dst msg s).ring.splitAlarm = s.ring.splitAlarm := by
  simp [sendControl]

@[simp] theorem deliverCompletion_rest (h : CmdHdr) (c : Completion) (s : State) :
    (deliverCompletion h c s).time = s.time ∧ (deliverCompletion h c s).ptp = s.ptp ∧ (deliverCompletion h c s).cfg = s.cfg ∧
    (deliverCompletion h c s).live = s.live ∧ (deliverCompletion h c s).fret = s.fret ∧ (deliverCompletion h c s).fe = s.fe ∧
    (deliverCompletion h c s).streams = s.streams ∧ (deliverCompletion h c s).hist = s.hist ∧ (deliverCompletion h c s).dram = s.dram ∧
    (deliverCompletion h c s).trig = s.trig ∧ (deliverCompletion h c s).red = s.red ∧ (deliverCompletion h c s).lanes = s.lanes ∧
    (deliverCompletion h c s).pairs = s.pairs ∧ (deliverCompletion h c s).safety = s.safety ∧ (deliverCompletion h c s).boot = s.boot ∧
    (deliverCompletion h c s).fresh = s.fresh ∧ (deliverCompletion h c s).sent = s.sent ∧ (deliverCompletion h c s).pending = s.pending ∧
    (deliverCompletion h c s).host.linkUp = s.host.linkUp ∧ (deliverCompletion h c s).host.perst = s.host.perst ∧
    (deliverCompletion h c s).host.ready = s.host.ready ∧ (deliverCompletion h c s).host.flrSeen = s.host.flrSeen ∧
    (deliverCompletion h c s).host.dmaErr = s.host.dmaErr ∧ (deliverCompletion h c s).host.badIdx = s.host.badIdx ∧
    (deliverCompletion h c s).host.boot = s.host.boot ∧ (deliverCompletion h c s).host.wbLo = s.host.wbLo ∧
    (deliverCompletion h c s).host.wbHi = s.host.wbHi ∧ (deliverCompletion h c s).host.logQ = s.host.logQ ∧
    (deliverCompletion h c s).host.traceQ = s.host.traceQ ∧ (deliverCompletion h c s).host.scratch = s.host.scratch ∧
    (deliverCompletion h c s).host.reqPcie = s.host.reqPcie ∧ (deliverCompletion h c s).host.reqSvc = s.host.reqSvc ∧
    (deliverCompletion h c s).host.reqCtl = s.host.reqCtl ∧ (deliverCompletion h c s).host.mask = s.host.mask ∧
    (deliverCompletion h c s).host.map = s.host.map ∧ (deliverCompletion h c s).host.aerStatus = s.host.aerStatus ∧
    (deliverCompletion h c s).host.msixMask = s.host.msixMask ∧ (deliverCompletion h c s).host.vecMask = s.host.vecMask ∧
    (deliverCompletion h c s).host.msixTab = s.host.msixTab ∧ (deliverCompletion h c s).host.fetchNext = s.host.fetchNext ∧
    (deliverCompletion h c s).host.readData = s.host.readData ∧ (deliverCompletion h c s).host.trace = s.host.trace ∧
    (deliverCompletion h c s).host.slots = s.host.slots ∧ (deliverCompletion h c s).loc.fp = s.loc.fp ∧
    (deliverCompletion h c s).loc.partners = s.loc.partners ∧ (deliverCompletion h c s).loc.val = s.loc.val ∧
    (deliverCompletion h c s).loc.valSet = s.loc.valSet ∧ (deliverCompletion h c s).loc.gpio = s.loc.gpio ∧
    (deliverCompletion h c s).loc.syncIn = s.loc.syncIn ∧ (deliverCompletion h c s).loc.pps = s.loc.pps ∧
    (deliverCompletion h c s).loc.ppsFall = s.loc.ppsFall ∧ (deliverCompletion h c s).loc.reserve = s.loc.reserve ∧
    (deliverCompletion h c s).loc.spimRdy = s.loc.spimRdy ∧ (deliverCompletion h c s).loc.svcDiscard = s.loc.svcDiscard ∧
    (deliverCompletion h c s).loc.svcViolations = s.loc.svcViolations ∧ (deliverCompletion h c s).loc.svcDiscards = s.loc.svcDiscards ∧
    (deliverCompletion h c s).loc.svcFrames = s.loc.svcFrames ∧ (deliverCompletion h c s).loc.ospi = s.loc.ospi ∧
    (deliverCompletion h c s).loc.ospiTimeouts = s.loc.ospiTimeouts ∧
    (deliverCompletion h c s).loc.ospiWriteErrors = s.loc.ospiWriteErrors ∧ (deliverCompletion h c s).loc.ospiLine = s.loc.ospiLine ∧
    (deliverCompletion h c s).loc.svcOut = s.loc.svcOut ∧ (deliverCompletion h c s).ring.state = s.ring.state ∧
    (deliverCompletion h c s).ring.joinHdr = s.ring.joinHdr ∧ (deliverCompletion h c s).ring.leaving = s.ring.leaving ∧
    (deliverCompletion h c s).ring.autoJoin = s.ring.autoJoin ∧ (deliverCompletion h c s).ring.listenEnd = s.ring.listenEnd ∧
    (deliverCompletion h c s).ring.refusedBy = s.ring.refusedBy ∧ (deliverCompletion h c s).ring.linkA = s.ring.linkA ∧
    (deliverCompletion h c s).ring.linkB = s.ring.linkB ∧ (deliverCompletion h c s).ring.dups = s.ring.dups ∧
    (deliverCompletion h c s).ring.nodes = s.ring.nodes ∧ (deliverCompletion h c s).ring.reasm = s.ring.reasm ∧
    (deliverCompletion h c s).ring.arrived = s.ring.arrived ∧ (deliverCompletion h c s).ring.recv = s.ring.recv ∧
    (deliverCompletion h c s).ring.retrieveTo = s.ring.retrieveTo ∧ (deliverCompletion h c s).ring.parked = s.ring.parked ∧
    (deliverCompletion h c s).ring.topo = s.ring.topo ∧ (deliverCompletion h c s).ring.gateway = s.ring.gateway ∧
    (deliverCompletion h c s).ring.arbiter = s.ring.arbiter ∧ (deliverCompletion h c s).ring.ledger = s.ring.ledger ∧
    (deliverCompletion h c s).ring.ledgerReady = s.ring.ledgerReady ∧ (deliverCompletion h c s).ring.ledgerHeard = s.ring.ledgerHeard ∧
    (deliverCompletion h c s).ring.budgetQ = s.ring.budgetQ ∧ (deliverCompletion h c s).ring.grants = s.ring.grants ∧
    (deliverCompletion h c s).ring.asks = s.ring.asks ∧ (deliverCompletion h c s).ring.credit = s.ring.credit ∧
    (deliverCompletion h c s).ring.granted = s.ring.granted ∧ (deliverCompletion h c s).ring.creditDue = s.ring.creditDue ∧
    (deliverCompletion h c s).ring.creditors = s.ring.creditors ∧ (deliverCompletion h c s).ring.retrieval = s.ring.retrieval ∧
    (deliverCompletion h c s).ring.forwarded = s.ring.forwarded ∧ (deliverCompletion h c s).ring.supervisions = s.ring.supervisions ∧
    (deliverCompletion h c s).ring.supervisionDue = s.ring.supervisionDue ∧ (deliverCompletion h c s).ring.beaconDue = s.ring.beaconDue ∧
    (deliverCompletion h c s).ring.splitAlarm = s.ring.splitAlarm := by
  unfold deliverCompletion
  (repeat' split) <;> simp

@[simp] theorem logRefused_rest (h : CmdHdr) (op : Nat) (r : Reply) (s : State) :
    (logRefused h op r s).time = s.time ∧ (logRefused h op r s).ptp = s.ptp ∧ (logRefused h op r s).cfg = s.cfg ∧
    (logRefused h op r s).live = s.live ∧ (logRefused h op r s).fret = s.fret ∧ (logRefused h op r s).fe = s.fe ∧
    (logRefused h op r s).streams = s.streams ∧ (logRefused h op r s).hist = s.hist ∧ (logRefused h op r s).dram = s.dram ∧
    (logRefused h op r s).trig = s.trig ∧ (logRefused h op r s).red = s.red ∧ (logRefused h op r s).ring = s.ring ∧
    (logRefused h op r s).lanes = s.lanes ∧ (logRefused h op r s).pairs = s.pairs ∧ (logRefused h op r s).safety = s.safety ∧
    (logRefused h op r s).loc = s.loc ∧ (logRefused h op r s).boot = s.boot ∧ (logRefused h op r s).fresh = s.fresh ∧
    (logRefused h op r s).sent = s.sent ∧ (logRefused h op r s).pending = s.pending ∧ (logRefused h op r s).host.linkUp = s.host.linkUp ∧
    (logRefused h op r s).host.perst = s.host.perst ∧ (logRefused h op r s).host.ready = s.host.ready ∧
    (logRefused h op r s).host.flrSeen = s.host.flrSeen ∧ (logRefused h op r s).host.dmaErr = s.host.dmaErr ∧
    (logRefused h op r s).host.badIdx = s.host.badIdx ∧ (logRefused h op r s).host.boot = s.host.boot ∧
    (logRefused h op r s).host.wbLo = s.host.wbLo ∧ (logRefused h op r s).host.wbHi = s.host.wbHi ∧
    (logRefused h op r s).host.alarmQ = s.host.alarmQ ∧ (logRefused h op r s).host.traceQ = s.host.traceQ ∧
    (logRefused h op r s).host.scratch = s.host.scratch ∧ (logRefused h op r s).host.reqPcie = s.host.reqPcie ∧
    (logRefused h op r s).host.reqSvc = s.host.reqSvc ∧ (logRefused h op r s).host.reqCtl = s.host.reqCtl ∧
    (logRefused h op r s).host.mask = s.host.mask ∧ (logRefused h op r s).host.map = s.host.map ∧
    (logRefused h op r s).host.aerStatus = s.host.aerStatus ∧ (logRefused h op r s).host.msixMask = s.host.msixMask ∧
    (logRefused h op r s).host.vecMask = s.host.vecMask ∧ (logRefused h op r s).host.msixTab = s.host.msixTab ∧
    (logRefused h op r s).host.waiting = s.host.waiting ∧ (logRefused h op r s).host.handed = s.host.handed ∧
    (logRefused h op r s).host.fetchNext = s.host.fetchNext ∧ (logRefused h op r s).host.readData = s.host.readData ∧
    (logRefused h op r s).host.alarms = s.host.alarms ∧ (logRefused h op r s).host.trace = s.host.trace ∧
    (logRefused h op r s).host.slots = s.host.slots ∧ (logRefused h op r s).host.orphans = s.host.orphans := by
  simp [logRefused]

@[simp] theorem traceCommand_rest (ring op phase status tag micros : Nat) (s : State) :
    (traceCommand ring op phase status tag micros s).time = s.time ∧ (traceCommand ring op phase status tag micros s).ptp = s.ptp ∧
    (traceCommand ring op phase status tag micros s).cfg = s.cfg ∧ (traceCommand ring op phase status tag micros s).live = s.live ∧
    (traceCommand ring op phase status tag micros s).fret = s.fret ∧ (traceCommand ring op phase status tag micros s).fe = s.fe ∧
    (traceCommand ring op phase status tag micros s).streams = s.streams ∧ (traceCommand ring op phase status tag micros s).hist = s.hist ∧
    (traceCommand ring op phase status tag micros s).dram = s.dram ∧ (traceCommand ring op phase status tag micros s).trig = s.trig ∧
    (traceCommand ring op phase status tag micros s).red = s.red ∧ (traceCommand ring op phase status tag micros s).ring = s.ring ∧
    (traceCommand ring op phase status tag micros s).lanes = s.lanes ∧ (traceCommand ring op phase status tag micros s).pairs = s.pairs ∧
    (traceCommand ring op phase status tag micros s).safety = s.safety ∧ (traceCommand ring op phase status tag micros s).loc = s.loc ∧
    (traceCommand ring op phase status tag micros s).boot = s.boot ∧ (traceCommand ring op phase status tag micros s).fresh = s.fresh ∧
    (traceCommand ring op phase status tag micros s).sent = s.sent ∧ (traceCommand ring op phase status tag micros s).pending = s.pending ∧
    (traceCommand ring op phase status tag micros s).host.linkUp = s.host.linkUp ∧
    (traceCommand ring op phase status tag micros s).host.perst = s.host.perst ∧
    (traceCommand ring op phase status tag micros s).host.ready = s.host.ready ∧
    (traceCommand ring op phase status tag micros s).host.flrSeen = s.host.flrSeen ∧
    (traceCommand ring op phase status tag micros s).host.dmaErr = s.host.dmaErr ∧
    (traceCommand ring op phase status tag micros s).host.badIdx = s.host.badIdx ∧
    (traceCommand ring op phase status tag micros s).host.boot = s.host.boot ∧
    (traceCommand ring op phase status tag micros s).host.wbLo = s.host.wbLo ∧
    (traceCommand ring op phase status tag micros s).host.wbHi = s.host.wbHi ∧
    (traceCommand ring op phase status tag micros s).host.alarmQ = s.host.alarmQ ∧
    (traceCommand ring op phase status tag micros s).host.logQ = s.host.logQ ∧
    (traceCommand ring op phase status tag micros s).host.scratch = s.host.scratch ∧
    (traceCommand ring op phase status tag micros s).host.reqPcie = s.host.reqPcie ∧
    (traceCommand ring op phase status tag micros s).host.reqSvc = s.host.reqSvc ∧
    (traceCommand ring op phase status tag micros s).host.reqCtl = s.host.reqCtl ∧
    (traceCommand ring op phase status tag micros s).host.mask = s.host.mask ∧
    (traceCommand ring op phase status tag micros s).host.map = s.host.map ∧
    (traceCommand ring op phase status tag micros s).host.aerStatus = s.host.aerStatus ∧
    (traceCommand ring op phase status tag micros s).host.msixMask = s.host.msixMask ∧
    (traceCommand ring op phase status tag micros s).host.vecMask = s.host.vecMask ∧
    (traceCommand ring op phase status tag micros s).host.msixTab = s.host.msixTab ∧
    (traceCommand ring op phase status tag micros s).host.waiting = s.host.waiting ∧
    (traceCommand ring op phase status tag micros s).host.handed = s.host.handed ∧
    (traceCommand ring op phase status tag micros s).host.fetchNext = s.host.fetchNext ∧
    (traceCommand ring op phase status tag micros s).host.readData = s.host.readData ∧
    (traceCommand ring op phase status tag micros s).host.alarms = s.host.alarms ∧
    (traceCommand ring op phase status tag micros s).host.slots = s.host.slots ∧
    (traceCommand ring op phase status tag micros s).host.orphans = s.host.orphans := by
  simp [traceCommand]

@[simp] theorem finishAt_rest (h : CmdHdr) (op : Nat) (r : Reply) (effect : Nat) (s : State) :
    (finishAt h op r effect s).time = s.time ∧ (finishAt h op r effect s).ptp = s.ptp ∧ (finishAt h op r effect s).cfg = s.cfg ∧
    (finishAt h op r effect s).live = s.live ∧ (finishAt h op r effect s).fret = s.fret ∧ (finishAt h op r effect s).fe = s.fe ∧
    (finishAt h op r effect s).streams = s.streams ∧ (finishAt h op r effect s).hist = s.hist ∧ (finishAt h op r effect s).dram = s.dram ∧
    (finishAt h op r effect s).trig = s.trig ∧ (finishAt h op r effect s).red = s.red ∧ (finishAt h op r effect s).lanes = s.lanes ∧
    (finishAt h op r effect s).pairs = s.pairs ∧ (finishAt h op r effect s).safety = s.safety ∧ (finishAt h op r effect s).boot = s.boot ∧
    (finishAt h op r effect s).fresh = s.fresh ∧ (finishAt h op r effect s).sent = s.sent ∧
    (finishAt h op r effect s).pending = s.pending ∧ (finishAt h op r effect s).host.linkUp = s.host.linkUp ∧
    (finishAt h op r effect s).host.perst = s.host.perst ∧ (finishAt h op r effect s).host.ready = s.host.ready ∧
    (finishAt h op r effect s).host.flrSeen = s.host.flrSeen ∧ (finishAt h op r effect s).host.dmaErr = s.host.dmaErr ∧
    (finishAt h op r effect s).host.badIdx = s.host.badIdx ∧ (finishAt h op r effect s).host.boot = s.host.boot ∧
    (finishAt h op r effect s).host.wbLo = s.host.wbLo ∧ (finishAt h op r effect s).host.wbHi = s.host.wbHi ∧
    (finishAt h op r effect s).host.scratch = s.host.scratch ∧ (finishAt h op r effect s).host.reqPcie = s.host.reqPcie ∧
    (finishAt h op r effect s).host.reqSvc = s.host.reqSvc ∧ (finishAt h op r effect s).host.reqCtl = s.host.reqCtl ∧
    (finishAt h op r effect s).host.mask = s.host.mask ∧ (finishAt h op r effect s).host.map = s.host.map ∧
    (finishAt h op r effect s).host.aerStatus = s.host.aerStatus ∧ (finishAt h op r effect s).host.msixMask = s.host.msixMask ∧
    (finishAt h op r effect s).host.vecMask = s.host.vecMask ∧ (finishAt h op r effect s).host.msixTab = s.host.msixTab ∧
    (finishAt h op r effect s).host.fetchNext = s.host.fetchNext ∧ (finishAt h op r effect s).host.readData = s.host.readData ∧
    (finishAt h op r effect s).host.slots = s.host.slots ∧ (finishAt h op r effect s).loc.fp = s.loc.fp ∧
    (finishAt h op r effect s).loc.partners = s.loc.partners ∧ (finishAt h op r effect s).loc.val = s.loc.val ∧
    (finishAt h op r effect s).loc.valSet = s.loc.valSet ∧ (finishAt h op r effect s).loc.gpio = s.loc.gpio ∧
    (finishAt h op r effect s).loc.syncIn = s.loc.syncIn ∧ (finishAt h op r effect s).loc.pps = s.loc.pps ∧
    (finishAt h op r effect s).loc.ppsFall = s.loc.ppsFall ∧ (finishAt h op r effect s).loc.reserve = s.loc.reserve ∧
    (finishAt h op r effect s).loc.spimRdy = s.loc.spimRdy ∧ (finishAt h op r effect s).loc.svcDiscard = s.loc.svcDiscard ∧
    (finishAt h op r effect s).loc.svcViolations = s.loc.svcViolations ∧ (finishAt h op r effect s).loc.svcDiscards = s.loc.svcDiscards ∧
    (finishAt h op r effect s).loc.svcFrames = s.loc.svcFrames ∧ (finishAt h op r effect s).loc.ospi = s.loc.ospi ∧
    (finishAt h op r effect s).loc.ospiTimeouts = s.loc.ospiTimeouts ∧
    (finishAt h op r effect s).loc.ospiWriteErrors = s.loc.ospiWriteErrors ∧ (finishAt h op r effect s).loc.ospiLine = s.loc.ospiLine ∧
    (finishAt h op r effect s).loc.svcOut = s.loc.svcOut ∧ (finishAt h op r effect s).ring.state = s.ring.state ∧
    (finishAt h op r effect s).ring.joinHdr = s.ring.joinHdr ∧ (finishAt h op r effect s).ring.leaving = s.ring.leaving ∧
    (finishAt h op r effect s).ring.autoJoin = s.ring.autoJoin ∧ (finishAt h op r effect s).ring.listenEnd = s.ring.listenEnd ∧
    (finishAt h op r effect s).ring.refusedBy = s.ring.refusedBy ∧ (finishAt h op r effect s).ring.linkA = s.ring.linkA ∧
    (finishAt h op r effect s).ring.linkB = s.ring.linkB ∧ (finishAt h op r effect s).ring.dups = s.ring.dups ∧
    (finishAt h op r effect s).ring.nodes = s.ring.nodes ∧ (finishAt h op r effect s).ring.reasm = s.ring.reasm ∧
    (finishAt h op r effect s).ring.arrived = s.ring.arrived ∧ (finishAt h op r effect s).ring.recv = s.ring.recv ∧
    (finishAt h op r effect s).ring.retrieveTo = s.ring.retrieveTo ∧ (finishAt h op r effect s).ring.parked = s.ring.parked ∧
    (finishAt h op r effect s).ring.topo = s.ring.topo ∧ (finishAt h op r effect s).ring.gateway = s.ring.gateway ∧
    (finishAt h op r effect s).ring.arbiter = s.ring.arbiter ∧ (finishAt h op r effect s).ring.ledger = s.ring.ledger ∧
    (finishAt h op r effect s).ring.ledgerReady = s.ring.ledgerReady ∧ (finishAt h op r effect s).ring.ledgerHeard = s.ring.ledgerHeard ∧
    (finishAt h op r effect s).ring.budgetQ = s.ring.budgetQ ∧ (finishAt h op r effect s).ring.grants = s.ring.grants ∧
    (finishAt h op r effect s).ring.asks = s.ring.asks ∧ (finishAt h op r effect s).ring.credit = s.ring.credit ∧
    (finishAt h op r effect s).ring.granted = s.ring.granted ∧ (finishAt h op r effect s).ring.creditDue = s.ring.creditDue ∧
    (finishAt h op r effect s).ring.creditors = s.ring.creditors ∧ (finishAt h op r effect s).ring.retrieval = s.ring.retrieval ∧
    (finishAt h op r effect s).ring.forwarded = s.ring.forwarded ∧ (finishAt h op r effect s).ring.supervisions = s.ring.supervisions ∧
    (finishAt h op r effect s).ring.supervisionDue = s.ring.supervisionDue ∧ (finishAt h op r effect s).ring.beaconDue = s.ring.beaconDue ∧
    (finishAt h op r effect s).ring.splitAlarm = s.ring.splitAlarm := by
  unfold finishAt
  (repeat' split) <;> simp

@[simp] theorem finish_rest (h : CmdHdr) (op : Nat) (r : Reply) (s : State) :
    (finish h op r s).time = s.time ∧ (finish h op r s).ptp = s.ptp ∧ (finish h op r s).cfg = s.cfg ∧ (finish h op r s).live = s.live ∧
    (finish h op r s).fret = s.fret ∧ (finish h op r s).fe = s.fe ∧ (finish h op r s).streams = s.streams ∧
    (finish h op r s).hist = s.hist ∧ (finish h op r s).dram = s.dram ∧ (finish h op r s).trig = s.trig ∧ (finish h op r s).red = s.red ∧
    (finish h op r s).lanes = s.lanes ∧ (finish h op r s).pairs = s.pairs ∧ (finish h op r s).safety = s.safety ∧
    (finish h op r s).boot = s.boot ∧ (finish h op r s).fresh = s.fresh ∧ (finish h op r s).sent = s.sent ∧
    (finish h op r s).pending = s.pending ∧ (finish h op r s).host.linkUp = s.host.linkUp ∧ (finish h op r s).host.perst = s.host.perst ∧
    (finish h op r s).host.ready = s.host.ready ∧ (finish h op r s).host.flrSeen = s.host.flrSeen ∧
    (finish h op r s).host.dmaErr = s.host.dmaErr ∧ (finish h op r s).host.badIdx = s.host.badIdx ∧
    (finish h op r s).host.boot = s.host.boot ∧ (finish h op r s).host.wbLo = s.host.wbLo ∧ (finish h op r s).host.wbHi = s.host.wbHi ∧
    (finish h op r s).host.scratch = s.host.scratch ∧ (finish h op r s).host.reqPcie = s.host.reqPcie ∧
    (finish h op r s).host.reqSvc = s.host.reqSvc ∧ (finish h op r s).host.reqCtl = s.host.reqCtl ∧
    (finish h op r s).host.mask = s.host.mask ∧ (finish h op r s).host.map = s.host.map ∧
    (finish h op r s).host.aerStatus = s.host.aerStatus ∧ (finish h op r s).host.msixMask = s.host.msixMask ∧
    (finish h op r s).host.vecMask = s.host.vecMask ∧ (finish h op r s).host.msixTab = s.host.msixTab ∧
    (finish h op r s).host.fetchNext = s.host.fetchNext ∧ (finish h op r s).host.readData = s.host.readData ∧
    (finish h op r s).host.slots = s.host.slots ∧ (finish h op r s).loc.fp = s.loc.fp ∧ (finish h op r s).loc.partners = s.loc.partners ∧
    (finish h op r s).loc.val = s.loc.val ∧ (finish h op r s).loc.valSet = s.loc.valSet ∧ (finish h op r s).loc.gpio = s.loc.gpio ∧
    (finish h op r s).loc.syncIn = s.loc.syncIn ∧ (finish h op r s).loc.pps = s.loc.pps ∧ (finish h op r s).loc.ppsFall = s.loc.ppsFall ∧
    (finish h op r s).loc.reserve = s.loc.reserve ∧ (finish h op r s).loc.spimRdy = s.loc.spimRdy ∧
    (finish h op r s).loc.svcDiscard = s.loc.svcDiscard ∧ (finish h op r s).loc.svcViolations = s.loc.svcViolations ∧
    (finish h op r s).loc.svcDiscards = s.loc.svcDiscards ∧ (finish h op r s).loc.svcFrames = s.loc.svcFrames ∧
    (finish h op r s).loc.ospi = s.loc.ospi ∧ (finish h op r s).loc.ospiTimeouts = s.loc.ospiTimeouts ∧
    (finish h op r s).loc.ospiWriteErrors = s.loc.ospiWriteErrors ∧ (finish h op r s).loc.ospiLine = s.loc.ospiLine ∧
    (finish h op r s).loc.svcOut = s.loc.svcOut ∧ (finish h op r s).ring.state = s.ring.state ∧
    (finish h op r s).ring.joinHdr = s.ring.joinHdr ∧ (finish h op r s).ring.leaving = s.ring.leaving ∧
    (finish h op r s).ring.autoJoin = s.ring.autoJoin ∧ (finish h op r s).ring.listenEnd = s.ring.listenEnd ∧
    (finish h op r s).ring.refusedBy = s.ring.refusedBy ∧ (finish h op r s).ring.linkA = s.ring.linkA ∧
    (finish h op r s).ring.linkB = s.ring.linkB ∧ (finish h op r s).ring.dups = s.ring.dups ∧ (finish h op r s).ring.nodes = s.ring.nodes ∧
    (finish h op r s).ring.reasm = s.ring.reasm ∧ (finish h op r s).ring.arrived = s.ring.arrived ∧
    (finish h op r s).ring.recv = s.ring.recv ∧ (finish h op r s).ring.retrieveTo = s.ring.retrieveTo ∧
    (finish h op r s).ring.parked = s.ring.parked ∧ (finish h op r s).ring.topo = s.ring.topo ∧
    (finish h op r s).ring.gateway = s.ring.gateway ∧ (finish h op r s).ring.arbiter = s.ring.arbiter ∧
    (finish h op r s).ring.ledger = s.ring.ledger ∧ (finish h op r s).ring.ledgerReady = s.ring.ledgerReady ∧
    (finish h op r s).ring.ledgerHeard = s.ring.ledgerHeard ∧ (finish h op r s).ring.budgetQ = s.ring.budgetQ ∧
    (finish h op r s).ring.grants = s.ring.grants ∧ (finish h op r s).ring.asks = s.ring.asks ∧
    (finish h op r s).ring.credit = s.ring.credit ∧ (finish h op r s).ring.granted = s.ring.granted ∧
    (finish h op r s).ring.creditDue = s.ring.creditDue ∧ (finish h op r s).ring.creditors = s.ring.creditors ∧
    (finish h op r s).ring.retrieval = s.ring.retrieval ∧ (finish h op r s).ring.forwarded = s.ring.forwarded ∧
    (finish h op r s).ring.supervisions = s.ring.supervisions ∧ (finish h op r s).ring.supervisionDue = s.ring.supervisionDue ∧
    (finish h op r s).ring.beaconDue = s.ring.beaconDue ∧ (finish h op r s).ring.splitAlarm = s.ring.splitAlarm := by
  simp [finish]

@[simp] theorem finishAtBoundary_rest (h : CmdHdr) (op : Nat) (s : State) :
    (finishAtBoundary h op s).time = s.time ∧ (finishAtBoundary h op s).ptp = s.ptp ∧ (finishAtBoundary h op s).cfg = s.cfg ∧
    (finishAtBoundary h op s).live = s.live ∧ (finishAtBoundary h op s).fe = s.fe ∧ (finishAtBoundary h op s).streams = s.streams ∧
    (finishAtBoundary h op s).hist = s.hist ∧ (finishAtBoundary h op s).dram = s.dram ∧ (finishAtBoundary h op s).trig = s.trig ∧
    (finishAtBoundary h op s).red = s.red ∧ (finishAtBoundary h op s).ring = s.ring ∧ (finishAtBoundary h op s).lanes = s.lanes ∧
    (finishAtBoundary h op s).host = s.host ∧ (finishAtBoundary h op s).pairs = s.pairs ∧ (finishAtBoundary h op s).safety = s.safety ∧
    (finishAtBoundary h op s).loc = s.loc ∧ (finishAtBoundary h op s).boot = s.boot ∧ (finishAtBoundary h op s).fresh = s.fresh ∧
    (finishAtBoundary h op s).sent = s.sent ∧ (finishAtBoundary h op s).pending = s.pending := by
  simp [finishAtBoundary]

@[simp] theorem setBoth_rest (f : Settings → Settings) (s : State) :
    (setBoth f s).time = s.time ∧ (setBoth f s).ptp = s.ptp ∧ (setBoth f s).fret = s.fret ∧ (setBoth f s).fe = s.fe ∧
    (setBoth f s).streams = s.streams ∧ (setBoth f s).hist = s.hist ∧ (setBoth f s).dram = s.dram ∧ (setBoth f s).trig = s.trig ∧
    (setBoth f s).red = s.red ∧ (setBoth f s).ring = s.ring ∧ (setBoth f s).lanes = s.lanes ∧ (setBoth f s).host = s.host ∧
    (setBoth f s).pairs = s.pairs ∧ (setBoth f s).safety = s.safety ∧ (setBoth f s).loc = s.loc ∧ (setBoth f s).boot = s.boot ∧
    (setBoth f s).fresh = s.fresh ∧ (setBoth f s).sent = s.sent ∧ (setBoth f s).pending = s.pending := by
  simp [setBoth]

@[simp] theorem accept_rest (f : Settings → Settings) (s : State) :
    (accept f s).time = s.time ∧ (accept f s).ptp = s.ptp ∧ (accept f s).live = s.live ∧ (accept f s).fret = s.fret ∧
    (accept f s).fe = s.fe ∧ (accept f s).streams = s.streams ∧ (accept f s).hist = s.hist ∧ (accept f s).dram = s.dram ∧
    (accept f s).trig = s.trig ∧ (accept f s).red = s.red ∧ (accept f s).ring = s.ring ∧ (accept f s).lanes = s.lanes ∧
    (accept f s).host = s.host ∧ (accept f s).pairs = s.pairs ∧ (accept f s).safety = s.safety ∧ (accept f s).loc = s.loc ∧
    (accept f s).boot = s.boot ∧ (accept f s).fresh = s.fresh ∧ (accept f s).sent = s.sent ∧ (accept f s).pending = s.pending := by
  simp [accept]

end Sys2Proof.Machine
end

