-- ==== Sys2Proof/Laws/Commands.lean ====
section
/-! SUPPORT. What running a command comes to: the effect, once Clesin accepts the command and its own checks pass; and what a
completion changes apart from messages. -/

namespace Sys2Proof.Machine

@[simp] theorem firstBad_nil : firstBad [] = none := rfl

/-- A check passes when none of its rules is broken. -/
@[simp] theorem firstBad_cons (o : Nat) (b : Bool) (cs : List (Nat × Bool)) :
    firstBad ((o, b) :: cs) = none ↔ b = false ∧ firstBad cs = none := by
  cases b with
  | false => simp [firstBad]
  | true => simp [firstBad]

@[simp] theorem orElseReply_none (a b : Option Reply) : orElseReply a b = none ↔ a = none ∧ b = none := by
  cases a <;> simp [orElseReply]

/-- A command whose descriptor is accepted and whose own checks pass has its effect (R388). -/
theorem runCommand_eff {h : CmdHdr} {op : Nat} {chk : State → Option Reply} {eff : State → State} {s : State} (a : Accepts h op s)
    (c : chk s = none) : runCommand h op chk eff s = eff s := by
  have f : headerFault h op s = none := by
    cases g : h.gateway with
    | none => simp [headerFault, firstBad, a.2.1, a.2.2.1 g]
    | some x => simp [headerFault, firstBad, a.2.1, g]
  have w : (s.safety.safe && !safeOp op) = false := by
    cases g : s.safety.safe with
    | false => rfl
    | true => simp [a.2.2.2 g]
  simp [runCommand, a.1, f, w, orElseReply, c]

/-- A command whose descriptor is accepted and whose own check refuses it is answered with the refusal. -/
theorem runCommand_refused {h : CmdHdr} {op : Nat} {chk : State → Option Reply} {eff : State → State} {s : State} {r : Reply}
    (a : Accepts h op s) (c : chk s = some r) : runCommand h op chk eff s = finish h op r s := by
  have f : headerFault h op s = none := by
    cases g : h.gateway with
    | none => simp [headerFault, firstBad, a.2.1, a.2.2.1 g]
    | some x => simp [headerFault, firstBad, a.2.1, g]
  have w : (s.safety.safe && !safeOp op) = false := by
    cases g : s.safety.safe with
    | false => rfl
    | true => simp [a.2.2.2 g]
  simp [runCommand, a.1, f, w, orElseReply, c]

/-- Nothing happens to a command while Clesin does not run (DEDUCED, log 12). -/
theorem runCommand_down {h : CmdHdr} {op : Nat} {chk : State → Option Reply} {eff : State → State} {s : State}
    (d : clesinUp s = false) : runCommand h op chk eff s = s := by
  simp [runCommand, d]

/-- A completion apart from messages. -/
theorem finish_silent (h : CmdHdr) (op : Nat) (r : Reply) (s : State) : silent (finish h op r s) = silent (answered h op r s) := by
  unfold finish finishAt
  extract_lets t
  have e : silent t = silent (answered h op r s) := by simp [silent, t, answered]
  split
  · exact e
  · rw [← e]
    simp [silent]

/-- A command that only reads answers with its data, given room for it. -/
theorem readCommand_silent {h : CmdHdr} {op need : Nat} {chk : State → Option Reply} {data : State → List Byte} {s : State}
    (a : Accepts h op s) (room : need ≤ h.dataLen) (c : chk s = none) :
    silent (readCommand h op need chk data s) = silent (answered h op (okData (data s)) s) := by
  unfold readCommand
  rw [runCommand_eff a, finish_silent]
  simp [orElseReply, firstBad, Nat.not_lt.mpr room, c]

/-- A next state is what a command does, apart from messages. -/
theorem does_of {i : Instr} {s t u : State} (e : exec i s = .next t) (h : silent t = silent u) : Does i s u := ⟨t, e, h⟩

/-- Every command of a descriptor is run through the same checks. -/
theorem exec_command {i : Instr} {h : CmdHdr} {op : Nat} (c : commandOf i = some (h, op)) (s : State) :
    ∃ chk eff, exec i s = .next (runCommand h op chk eff s) := by
  cases i <;> simp only [commandOf, Option.some.injEq, Prod.mk.injEq, reduceCtorEq] at c <;> (obtain ⟨rfl, rfl⟩ := c; exact ⟨_, _, rfl⟩)

end Sys2Proof.Machine
end

