-- ==== Sys2Proof/Laws/Kept.lean ====
section
/-! SUPPORT. What an operation keeps: the boot and update state and the queue of waiting commands. One lemma per operation
says that it keeps both; these lemmas are simp lemmas, so no later proof unfolds an operation to see it. -/

namespace Sys2Proof.Machine

/-- The boot and update state and the queue. -/
def kept (s : State) : Boot × List Instr := (s.boot, s.pending)

@[simp] theorem kept_mk (time : TimeUnit) (ptp : Ptp) (cfg live : Settings) (fret : FretMachine) (fe : FrontEnds)
    (streams : Table StreamCtx) (hist : History) (dram : Dram) (trig : Triggers) (red : Reduction) (ring : Ring)
    (lanes : Table Lane) (host : HostIf) (pairs : Pairs) (safety : Safety) (loc : Local) (boot : Boot) (fresh : Nat)
    (sent : List (Port × WireFrame)) (pending : List Instr) :
    kept ⟨time, ptp, cfg, live, fret, fe, streams, hist, dram, trig, red, ring, lanes, host, pairs, safety, loc, boot, fresh, sent,
      pending⟩ = (boot, pending) := by
  unfold kept
  rfl

@[simp] theorem kept_eta (s : State) : (s.boot, s.pending) = kept s := by
  unfold kept
  rfl

@[simp] theorem kept_ite (c : Prop) [Decidable c] (a b : State) : kept (if c then a else b) = if c then kept a else kept b := by
  split <;> rfl

theorem kept_foldl {α : Type} (g : State → α → State) (h : ∀ t x, kept (g t x) = kept t) :
    ∀ (l : List α) (s : State), kept (l.foldl g s) = kept s
  | [], _ => rfl
  | x :: l, s => by rw [List.foldl_cons, kept_foldl g h l, h]

theorem kept_foldl_fst {α β : Type} (g : State × β → α → State × β) (h : ∀ a x, kept (g a x).1 = kept a.1) :
    ∀ (l : List α) (a : State × β), kept (l.foldl g a).1 = kept a.1
  | [], _ => rfl
  | x :: l, a => by rw [List.foldl_cons, kept_foldl_fst g h l, h]

theorem kept_foldl_snd {α β : Type} (g : β × State → α → β × State) (h : ∀ a x, kept (g a x).2 = kept a.2) :
    ∀ (l : List α) (a : β × State), kept (l.foldl g a).2 = kept a.2
  | [], _ => rfl
  | x :: l, a => by rw [List.foldl_cons, kept_foldl_snd g h l, h]

theorem kept_boot {s t : State} (h : kept t = kept s) : t.boot = s.boot := congrArg Prod.fst h

theorem kept_pending {s t : State} (h : kept t = kept s) : t.pending = s.pending := congrArg Prod.snd h

/-- The boot flash and the queue, read through `kept`: for an operation that changes other boot state. -/
theorem kept_at (s : State) : s.boot.flash = (kept s).1.flash ∧ s.pending = (kept s).2 := ⟨rfl, rfl⟩

end Sys2Proof.Machine
end

