-- ==== Sys2Proof/Laws/KeptTime.lean ====
section
/-! SUPPORT. What the operations of time, records and the DRAM keep: the boot and update state and the queue (`kept`), or, where an operation
changes other boot state, the boot flash and the queue. -/

namespace Sys2Proof.Machine

/-! ### Ops -/

@[simp] theorem passCclk_kept (n : Nat) (s : State) : kept (passCclk n s) = kept s := by simp [passCclk]
@[simp] theorem toInstant_kept (h : Nat) (s : State) : kept (toInstant h s) = kept s := by simp [toInstant]
@[simp] theorem toCclk_kept (c : Nat) (s : State) : kept (toCclk c s) = kept s := by simp [toCclk]
@[simp] theorem useFree_kept (s : State) : kept (useFree s) = kept s := by simp [useFree]
@[simp] theorem sendMsi_kept (v : Nat) (s : State) : kept (sendMsi v s) = kept s := by simp [sendMsi]
@[simp] theorem releaseMsi_kept (s : State) : kept (releaseMsi s) = kept s := by simp [releaseMsi]
@[simp] theorem setSource_kept (src : Nat) (s : State) : kept (setSource src s) = kept s := by simp [setSource]
@[simp] theorem setSourceOf_kept (code source : Nat) (s : State) : kept (setSourceOf code source s) = kept s := by simp [setSourceOf]
@[simp] theorem putRing_kept (r : Nat) (x : HostRing) (s : State) : kept (putRing r x s) = kept s := by simp [putRing]
@[simp] theorem ringLevel_kept (r : Nat) (s : State) : kept (ringLevel r s) = kept s := by simp [ringLevel]
@[simp] theorem writeSlot_kept (r : Nat) (s : State) : kept (writeSlot r s) = kept s := by simp [writeSlot]
@[simp] theorem ringWrite_kept (r n : Nat) (item : RingItem) (s : State) : kept (ringWrite r n item s) = kept s := by simp [ringWrite]
@[simp] theorem addLoss_kept (type n : Nat) (s : State) : kept (addLoss type n s) = kept s := by
  unfold addLoss
  (repeat' split) <;> simp
@[simp] theorem fifoLevel_kept (type : Nat) (s : State) : kept (fifoLevel type s) = kept s := by
  unfold fifoLevel
  split <;> simp
@[simp] theorem pushEventRing_kept (e : QEntry) (r : Nat) (s : State) : kept (pushEventRing e r s) = kept s := by simp [pushEventRing]
@[simp] theorem pushAlarm_kept (e : QEntry) (s : State) : kept (pushAlarm e s) = kept s := by simp [pushAlarm]
@[simp] theorem logEntry_kept (code : Nat) (args : List Byte) (s : State) : kept (logEntry code args s) = kept s := by simp [logEntry]
@[simp] theorem traceEntry_kept (code source : Nat) (args : List Byte) (s : State) : kept (traceEntry code source args s) = kept s := by simp [traceEntry]
@[simp] theorem fileEvent_kept (e : Event) (s : State) : kept (fileEvent e s) = kept s := by
  unfold fileEvent
  (repeat' split) <;> simp
@[simp] theorem eventAt_kept (code source stamp : Nat) (args : List Byte) (s : State) : kept (eventAt code source stamp args s) = kept s := by simp [eventAt, kept_foldl]
@[simp] theorem event_kept (code source : Nat) (args : List Byte) (s : State) : kept (event code source args s) = kept s := by simp [event]
@[simp] theorem alarmPin_kept (s : State) : kept (alarmPin s) = kept s := by simp [alarmPin]
@[simp] theorem raiseAs_kept (src code source : Nat) (args : List Byte) (s : State) : kept (raiseAs src code source args s) = kept s := by simp [raiseAs]
@[simp] theorem endAs_kept (src code source : Nat) (args : List Byte) (s : State) : kept (endAs src code source args s) = kept s := by simp [endAs]
@[simp] theorem raiseAlarm_kept (code source : Nat) (args : List Byte) (s : State) : kept (raiseAlarm code source args s) = kept s := by simp [raiseAlarm]
@[simp] theorem endAlarm_kept (code source : Nat) (args : List Byte) (s : State) : kept (endAlarm code source args s) = kept s := by simp [endAlarm]
@[simp] theorem raiseUncoded_kept (src : Nat) (s : State) : kept (raiseUncoded src s) = kept s := by simp [raiseUncoded]
@[simp] theorem endUncoded_kept (src : Nat) (s : State) : kept (endUncoded src s) = kept s := by simp [endUncoded]
@[simp] theorem countFull_kept (p : Port) (cls : Nat) (s : State) : kept (countFull p cls s) = kept s := by
  unfold countFull
  (repeat' split) <;> simp
@[simp] theorem egressPut_kept (p : Port) (w : Waiting) (s : State) : kept (egressPut p w s) = kept s := by
  unfold egressPut
  split <;> simp
@[simp] theorem sendFrame_kept (cls bytes delay da : Nat) (head : List Byte) (msg : WireMsg) (s : State) :
    kept (sendFrame cls bytes delay da head msg s) = kept s := by simp [sendFrame]
@[simp] theorem sendJorva_kept (cls p delay : Nat) (dst : Option Nat) (frag : Nat) (last : Bool) (msg : WireMsg) (s : State) :
    kept (sendJorva cls p delay dst frag last msg s) = kept s := by simp [sendJorva]
@[simp] theorem controlFrame_kept (p : Nat) (dst : Option Nat) (frag : Nat) (last : Bool) (msg : WireMsg) (s : State) :
    kept (controlFrame p dst frag last msg s) = kept s := by simp [controlFrame]
@[simp] theorem sendControl_kept (p : Nat) (dst : Option Nat) (msg : WireMsg) (s : State) : kept (sendControl p dst msg s) = kept s := by simp [sendControl, kept_foldl]
@[simp] theorem deliverCompletion_kept (h : CmdHdr) (c : Completion) (s : State) : kept (deliverCompletion h c s) = kept s := by
  unfold deliverCompletion
  (repeat' split) <;> simp
@[simp] theorem logRefused_kept (h : CmdHdr) (op : Nat) (r : Reply) (s : State) : kept (logRefused h op r s) = kept s := by simp [logRefused]
@[simp] theorem traceCommand_kept (ring op phase status tag micros : Nat) (s : State) :
    kept (traceCommand ring op phase status tag micros s) = kept s := by simp [traceCommand]
@[simp] theorem finishAt_kept (h : CmdHdr) (op : Nat) (r : Reply) (effect : Nat) (s : State) : kept (finishAt h op r effect s) = kept s := by simp [finishAt]
@[simp] theorem finish_kept (h : CmdHdr) (op : Nat) (r : Reply) (s : State) : kept (finish h op r s) = kept s := by simp [finish]
@[simp] theorem finishAtBoundary_kept (h : CmdHdr) (op : Nat) (s : State) : kept (finishAtBoundary h op s) = kept s := by simp [finishAtBoundary]
@[simp] theorem runCommand_kept (h : CmdHdr) (op : Nat) (chk : State → Option Reply) (eff : State → State) (s : State)
    (e : ∀ t, kept (eff t) = kept t) : kept (runCommand h op chk eff s) = kept s := by
  unfold runCommand
  (repeat' split) <;> simp [e]
@[simp] theorem readCommand_kept (h : CmdHdr) (op need : Nat) (chk : State → Option Reply) (data : State → List Byte) (s : State) :
    kept (readCommand h op need chk data s) = kept s :=
  runCommand_kept _ _ _ _ _ (fun t => by simp)
@[simp] theorem setBoth_kept (f : Settings → Settings) (s : State) : kept (setBoth f s) = kept s := by simp [setBoth]
@[simp] theorem accept_kept (f : Settings → Settings) (s : State) : kept (accept f s) = kept s := by simp [accept]

/-! ### PtpTime -/

@[simp] theorem setPtpPort_kept (p : Port) (f : PtpPort → PtpPort) (s : State) : kept (setPtpPort p f s) = kept s := by
  unfold setPtpPort
  split <;> simp
@[simp] theorem setLocked_kept (b : Bool) (s : State) : kept (setLocked b s) = kept s := by simp [setLocked]
@[simp] theorem changePort_kept (p : Port) (s : State) : kept (changePort p s) = kept s := by simp [changePort]
@[simp] theorem ptpDiscard_kept (s : State) : kept (ptpDiscard s) = kept s := by simp [ptpDiscard]
@[simp] theorem masterEvent_kept (holder : Nat) (s : State) : kept (masterEvent holder s) = kept s := by simp [masterEvent]
@[simp] theorem becomeMaster_kept (s : State) : kept (becomeMaster s) = kept s := by simp [becomeMaster]
@[simp] theorem loseMaster_kept (s : State) : kept (loseMaster s) = kept s := by simp [loseMaster]
@[simp] theorem decideMaster_kept (s : State) : kept (decideMaster s) = kept s := by simp [decideMaster]
@[simp] theorem traceServo_kept (p : Port) (offset delay : Int) (inc action seq : Nat) (s : State) :
    kept (traceServo p offset delay inc action seq s) = kept s := by simp [traceServo]
@[simp] theorem writeInc_kept (inc : Nat) (s : State) : kept (writeInc inc s) = kept s := by simp [writeInc]
@[simp] theorem servo_kept (p : Port) (offset delay : Int) (seq : Nat) (s : State) : kept (servo p offset delay seq s) = kept s := by simp [servo]
@[simp] theorem lockByOffset_kept (offset : Int) (s : State) : kept (lockByOffset offset s) = kept s := by simp [lockByOffset]
@[simp] theorem noteOverlap_kept (other : Nat) (s : State) : kept (noteOverlap other s) = kept s := by simp [noteOverlap]
@[simp] theorem checkOverlap_kept (s : State) : kept (checkOverlap s) = kept s := by
  unfold checkOverlap
  split <;> simp
@[simp] theorem onSync_kept (p : Port) (m : PtpSync) (s : State) : kept (onSync p m s) = kept s := by simp [onSync]
@[simp] theorem onAnnounce_kept (m : PtpAnnounce) (s : State) : kept (onAnnounce m s) = kept s := by simp [onAnnounce]
@[simp] theorem onAnnounceTimeout_kept (s : State) : kept (onAnnounceTimeout s) = kept s := by simp [onAnnounceTimeout]
@[simp] theorem sendLocal_kept (p : Port) (msg : WireMsg) (s : State) : kept (sendLocal p msg s) = kept s := by simp [sendLocal]
@[simp] theorem onPdelayReq_kept (p : Port) (domain seqId requestor : Nat) (ingress16 : Int) (s : State) :
    kept (onPdelayReq p domain seqId requestor ingress16 s) = kept s := by simp [onPdelayReq]
@[simp] theorem onPdelayResp_kept (p : Port) (domain seqId : Nat) (turnaround16 ingress16 : Int) (s : State) :
    kept (onPdelayResp p domain seqId turnaround16 ingress16 s) = kept s := by
  unfold onPdelayResp
  (repeat' split) <;> simp
@[simp] theorem onSyncTx_kept (s : State) : kept (onSyncTx s) = kept s := by simp [onSyncTx]
@[simp] theorem onAnnounceTx_kept (s : State) : kept (onAnnounceTx s) = kept s := by simp [onAnnounceTx]
@[simp] theorem onPdelayReqTx_kept (p : Port) (s : State) : kept (onPdelayReqTx p s) = kept s := by simp [onPdelayReqTx]
@[simp] theorem onPreferredTimeout_kept (s : State) : kept (onPreferredTimeout s) = kept s := by simp [onPreferredTimeout]
@[simp] theorem onOverlapTimeout_kept (s : State) : kept (onOverlapTimeout s) = kept s := by
  unfold onOverlapTimeout
  split <;> simp
@[simp] theorem onClosure_kept (s : State) : kept (onClosure s) = kept s := by simp [onClosure]
@[simp] theorem onSyncLoss_kept (s : State) : kept (onSyncLoss s) = kept s := by simp [onSyncLoss]

/-! ### Compression -/


/-! ### Records -/

@[simp] theorem putStream_kept (n : Nat) (c : StreamCtx) (s : State) : kept (putStream n c s) = kept s := by simp [putStream]
@[simp] theorem freePage_kept (p : Page) (s : State) : kept (freePage p s) = kept s := by simp [freePage]
@[simp] theorem makeRoom_kept (s : State) : kept (makeRoom s) = kept s := by
  unfold makeRoom
  (repeat' split) <;> simp
@[simp] theorem clearMarks_kept (first stop : Nat) (s : State) : kept (clearMarks first stop s) = kept s := by simp [clearMarks]
@[simp] theorem countWritten_kept (n : Nat) (s : State) : kept (countWritten n s) = kept s := by simp [countWritten]
@[simp] theorem clearSlice_kept (frame no addr n : Nat) (s : State) : kept (clearSlice frame no addr n s) = kept s := by simp [clearSlice]
@[simp] theorem writeSlice_kept (lane fret era n : Nat) (s : State) : kept (writeSlice lane fret era n s).1 = kept s := by
  unfold writeSlice
  split <;> simp
@[simp] theorem writeLane_kept (lane fret era : Nat) (b : Block) (s : State) : kept (writeLane lane fret era b s) = kept s := by simp [writeLane]
@[simp] theorem writeRecord_kept (fret : Nat) (sizes : List Nat) (s : State) : kept (writeRecord fret sizes s).1 = kept s := by simp [writeRecord, kept_foldl_fst]
@[simp] theorem sendFrags_kept (cls : Nat) (dst : Option Nat) (held : Bool) (delay : Nat) (r : Record) :
    ∀ (bs : List (List Byte)) (i : Nat) (s : State), kept (sendFrags cls dst held delay r i bs s) = kept s
  | [], i, s => by simp [sendFrags]
  | b :: bs, i, s => by simp [sendFrags, sendFrags_kept cls dst held delay r bs]
@[simp] theorem sendRecord_kept (cls : Nat) (dst : Option Nat) (held : Bool) (delay : Nat) (r : Record) (s : State) :
    kept (sendRecord cls dst held delay r s) = kept s := by simp [sendRecord]
@[simp] theorem hostDeliver_kept (n : Nat) : ∀ (fuel : Nat) (s : State), kept (hostDeliver n fuel s) = kept s
  | 0, s => by simp [hostDeliver]
  | fuel + 1, s => by
    simp only [hostDeliver]
    (repeat' split) <;> simp [hostDeliver_kept n fuel]
@[simp] theorem queueRetrieval_kept (dst : Nat) (held : Bool) (r : Record) (s : State) : kept (queueRetrieval dst held r s) = kept s := by simp [queueRetrieval]
@[simp] theorem settleRing_kept (n : Nat) (s : State) : kept (settleRing n s) = kept s := by simp [settleRing]
@[simp] theorem sendRing_kept (c : StreamCtx) (r : Record) (s : State) : kept (sendRing c r s) = kept s := by simp [sendRing]
@[simp] theorem ringDeliver_kept (n : Nat) : ∀ (fuel : Nat) (s : State), kept (ringDeliver n fuel s) = kept s
  | 0, s => by simp [ringDeliver]
  | fuel + 1, s => by
    simp only [ringDeliver]
    (repeat' split) <;> simp [ringDeliver_kept n fuel]
@[simp] theorem deliver_kept (n : Nat) (s : State) : kept (deliver n s) = kept s := by simp [deliver]
@[simp] theorem keepAndDeliver_kept (n : Nat) (x : Stored) (s : State) : kept (keepAndDeliver n x s) = kept s := by simp [keepAndDeliver]
@[simp] theorem closeInto_kept (n type stamp fret era flags aux : Nat) (blocks : List Block) (shared sizes : List Nat) (s : State) :
    kept (closeInto n type stamp fret era flags aux blocks shared sizes s) = kept s := by simp [closeInto]
@[simp] theorem closeWhole_kept (n type stamp fret flags : Nat) (blocks : List Block) (s : State) :
    kept (closeWhole n type stamp fret flags blocks s) = kept s := by simp [closeWhole]
@[simp] theorem closeEpoch_kept (ns cause fret n : Nat) (s : State) : kept (closeEpoch ns cause fret n s) = kept s := by simp [closeEpoch]
@[simp] theorem closeEvent_kept (n fret : Nat) (e : Event) (s : State) : kept (closeEvent n fret e s) = kept s := by simp [closeEvent]
@[simp] theorem postStaged_kept (s : State) : kept (postStaged s) = kept s := by
  unfold postStaged
  split <;> simp
@[simp] theorem closeHeld_kept (fret : Nat) (s : State) (n : Nat) : kept (closeHeld fret s n) = kept s := by simp [closeHeld, kept_foldl]
@[simp] theorem moveStaged_kept (n seq : Nat) (s : State) : kept (moveStaged n seq s) = kept s := by
  unfold moveStaged
  split <;> simp
@[simp] theorem moveStaging_kept (s : State) : kept (moveStaging s) = kept s := by simp [moveStaging, kept_foldl]

/-! ### Dram -/

@[simp] theorem logCorrected_kept (req addr syndrome : Nat) (s : State) : kept (logCorrected req addr syndrome s) = kept s := by simp [logCorrected]
@[simp] theorem markPoisoned_kept (addr : Nat) (s : State) : kept (markPoisoned addr s) = kept s := by simp [markPoisoned]
@[simp] theorem ueRead_kept (req addr syndrome : Nat) (s : State) : kept (ueRead req addr syndrome s) = kept s := by simp [ueRead]
@[simp] theorem poisonRoom_kept (s : State) : kept (poisonRoom s) = kept s := by simp [poisonRoom]
@[simp] theorem countCorrected_kept (s : State) : kept (countCorrected s) = kept s := by simp [countCorrected]
@[simp] theorem countPasses_kept (addr : Nat) (s : State) : kept (countPasses addr s) = kept s := by simp [countPasses]
@[simp] theorem correctedRead_kept (req addr syndrome : Nat) (s : State) : kept (correctedRead req addr syndrome s) = kept s := by simp [correctedRead]
@[simp] theorem afterPause_kept (s : State) : kept (afterPause s) = kept s := by simp [afterPause]
@[simp] theorem readStep_kept (n bytes : Nat) (s : State) : kept (readStep n bytes s).1 = kept s := by
  simp only [readStep]
  (repeat' split) <;> simp
@[simp] theorem readErrors_kept (req : Nat) (x : Stored) (es : List ReadError) (s : State) :
    kept (readErrors req x es s).1 = kept s := by
  unfold readErrors
  rw [kept_foldl_fst]
  intro a e
  (repeat' split) <;> simp
@[simp] theorem onScrub_kept (found : BurstOutcome) (s0 : State) : kept (onScrub found s0) = kept s0 := by
  unfold onScrub
  (repeat' split) <;> simp
@[simp] theorem onParity_kept (addr req failures : Nat) (s : State) : kept (onParity addr req failures s) = kept s := by simp [onParity]
@[simp] theorem onRefresh_kept (s : State) : kept (onRefresh s) = kept s := by simp [onRefresh]
@[simp] theorem onRetrain_kept (above85 : Bool) (move : Int) (edgeNear : Bool) (s : State) :
    kept (onRetrain above85 move edgeNear s) = kept s := by
  unfold onRetrain
  (repeat' split) <;> simp

/-! ### Replay -/

@[simp] theorem replayEnds_kept (n : Nat) (s : State) : kept (replayEnds n s) = kept s := by
  simp only [replayEnds]
  (repeat' split) <;> simp
@[simp] theorem loseRecord_kept (n : Nat) (s : State) (c : StreamCtx) : kept (loseAtPoint.loseRecord n s c) = kept s := by
  simp only [loseAtPoint.loseRecord]
  (repeat' split) <;> simp
@[simp] theorem loseAtPoint_kept (n : Nat) (s : State) : kept (loseAtPoint n s) = kept s := by
  simp only [loseAtPoint]
  (repeat' split) <;> simp
@[simp] theorem findLosses_kept (n : Nat) : ∀ (fuel : Nat) (s : State), kept (findLosses n fuel s) = kept s
  | 0, s => by simp [findLosses]
  | fuel + 1, s => by
    simp only [findLosses]
    (repeat' split) <;> simp [findLosses_kept n fuel]
@[simp] theorem deliverRange_kept (n : Nat) (s : State) : kept (deliverRange n s).1 = kept s := by
  simp only [deliverRange]
  (repeat' split) <;> simp
@[simp] theorem deliverAs_kept (f : Record → Record) (n r : Nat) (x : Stored) (s : State) : kept (deliverAs f n r x s) = kept s := by simp [deliverAs]
@[simp] theorem loseRead_kept (n : Nat) (x : Stored) (s : State) : kept (loseRead n x s) = kept s := by simp [loseRead]
@[simp] theorem readPoint_kept (req : Nat) (f : Record → Record) (n : Nat) (found : List ReadError) (s : State) :
    kept (readPoint req f n found s) = kept s := by
  simp only [readPoint]
  (repeat' split) <;> simp
@[simp] theorem onReplay_kept (n : Nat) (found : List ReadError) (s : State) : kept (onReplay n found s) = kept s := by simp [onReplay]

/-! ### Notch -/


end Sys2Proof.Machine
end

