-- ==== Sys2Proof/Laws/KeptFrontEnd.lean ====
section
/-! SUPPORT. What the operations of the front-end and the chains keep: the boot and update state and the queue (`kept`), or, where an operation
changes other boot state, the boot flash and the queue. -/

namespace Sys2Proof.Machine

/-! ### Chains -/

@[simp] theorem putDyn_kept (n : Nat) (r : DynRun) (s : State) : kept (putDyn n r s) = kept s := by simp [putDyn]
@[simp] theorem gather_kept (o : DynOut) (s : State) : kept (gather o s) = kept s := by
  unfold gather
  split <;> simp

/-! ### FrontEnd -/

@[simp] theorem putDie_kept (k : Nat) (d : DieRun) (s : State) : kept (putDie k d s) = kept s := by simp [putDie]
@[simp] theorem putRail_kept (e : Nat) (r : RailRun) (s : State) : kept (putRail e r s) = kept s := by simp [putRail]
@[simp] theorem putSpare_kept (k : Nat) (r : SpareRun) (s : State) : kept (putSpare k r s) = kept s := by simp [putSpare]
@[simp] theorem putFactors_kept (n : Nat) (f : Factors) (s : State) : kept (putFactors n f s) = kept s := by simp [putFactors]
@[simp] theorem noteOpenWire_kept (o : DynOut) (s : State) : kept (noteOpenWire o s) = kept s := by simp [noteOpenWire]
@[simp] theorem deliverOutput_kept (o : DynOut) (s : State) : kept (deliverOutput o s) = kept s := by simp [deliverOutput]
@[simp] theorem onDecimator_kept (n : Nat) (levels : List Int) (s : State) : kept (onDecimator n levels s) = kept s := by
  simp only [onDecimator]
  (repeat' split) <;> simp
@[simp] theorem onRegulation_kept (e vsnsMv : Nat) (limiting : Bool) (s : State) : kept (onRegulation e vsnsMv limiting s) = kept s := by simp [onRegulation]
@[simp] theorem onLimitTimeout_kept (e : Nat) (s : State) : kept (onLimitTimeout e s) = kept s := by
  unfold onLimitTimeout
  split <;> simp
@[simp] theorem measureVexc_kept (k tenMv : Nat) (s : State) : kept (measureVexc k tenMv s) = kept s := by simp [measureVexc]
@[simp] theorem onVexcLow_kept (k tenMv : Nat) (s : State) : kept (onVexcLow k tenMv s) = kept s := by simp [onVexcLow]
@[simp] theorem onVexcRecovered_kept (k tenMv : Nat) (s : State) : kept (onVexcRecovered k tenMv s) = kept s := by simp [onVexcRecovered]
@[simp] theorem onToneWindow_kept (n ratio : Nat) (s : State) : kept (onToneWindow n ratio s) = kept s := by simp [onToneWindow]
@[simp] theorem onSyncIn_kept (rising : Bool) (s : State) : kept (onSyncIn rising s) = kept s := by simp [onSyncIn]

/-! ### PostFilter -/

@[simp] theorem putBankRun_kept (n : Nat) (r : BankRun) (s : State) : kept (putBankRun n r s) = kept s := by simp [putBankRun]
@[simp] theorem swapEvent_kept (n what : Nat) (toB : Bool) (stamp : Nat) (s : State) : kept (swapEvent n what toB stamp s) = kept s := by simp [swapEvent]
@[simp] theorem endFade_kept (n stamp : Nat) (s : State) : kept (endFade n stamp s) = kept s := by
  unfold endFade
  split <;> simp
@[simp] theorem dueSwap_kept (n stamp : Nat) (s : State) : kept (dueSwap n stamp s) = kept s := by
  simp only [dueSwap]
  (repeat' split) <;> simp
@[simp] theorem fadeFret_kept (n stamp : Nat) (on : Bool) (s : State) : kept (fadeFret n stamp on s) = kept s := by
  unfold fadeFret
  split <;> simp
@[simp] theorem stepBank_kept (n stamp : Nat) (on : Bool) (s : State) : kept (stepBank n stamp on s) = kept s := by simp [stepBank]
@[simp] theorem filterOutput_kept (o : DynOut) (ws : List OutWord) (s : State) : kept (filterOutput o ws s).2 = kept s := by
  simp only [filterOutput]
  (repeat' split) <;> simp
@[simp] theorem pairAll_kept (outs : List DynOut) (s : State) : kept (pairAll outs s) = kept s := by simp [pairAll]
@[simp] theorem filterPass_kept (b : FretBuf) (s : State) : kept (filterPass b s).2 = kept s := by
  unfold filterPass
  simp only
  rw [kept_foldl_snd _ (fun a x => kept_foldl_snd _ (fun a o => by simp) _ _), kept_foldl _ (fun t x => by simp)]
  simp
@[simp] theorem swapsIdle_kept (cut : Bool) (s : State) : kept (swapsIdle cut s) = kept s := by simp [swapsIdle, kept_foldl]
@[simp] theorem takeSwap_kept (h : CmdHdr) (n : Nat) (toB : Bool) (fade : Nat) (s : State) : kept (takeSwap h n toB fade s) = kept s := by
  simp only [takeSwap]
  (repeat' split) <;> simp

/-! ### Sparing -/

@[simp] theorem resetSlice_kept (n b cause edges : Nat) (fresh noStart : Bool) (s : State) :
    kept (resetSlice n b cause edges fresh noStart s) = kept s := by simp [resetSlice]
@[simp] theorem relearn_kept (c b : Nat) (s : State) : kept (relearn c b s) = kept s := by simp [relearn]
@[simp] theorem resetChannel_kept (c b cause edges : Nat) (fresh : Bool) (s : State) :
    kept (resetChannel c b cause edges fresh s) = kept s := by simp [resetChannel]
@[simp] theorem resetEvent_kept (b : Nat) (s : State) : kept (resetEvent b s) = kept s := by simp [resetEvent]
@[simp] theorem beginRun_kept (b n : Nat) (s : State) : kept (beginRun b n s) = kept s := by simp [beginRun]
@[simp] theorem resetsFallDue_kept (b : Nat) (s : State) : kept (resetsFallDue b s) = kept s := by simp [resetsFallDue, kept_foldl]
@[simp] theorem finishSpare_kept (k : Nat) (r : Reply) (s : State) : kept (finishSpare k r s) = kept s := by
  unfold finishSpare
  split <;> simp
@[simp] theorem releaseSpare_kept (k : Nat) (s : State) : kept (releaseSpare k s) = kept s := by simp [releaseSpare]
@[simp] theorem spareSwapEvent_kept (k b : Nat) (back : Bool) (s : State) : kept (spareSwapEvent k b back s) = kept s := by simp [spareSwapEvent]
@[simp] theorem askSpare_kept (c : Nat) (use : SpareUse) (hdr : Option CmdHdr) (keep update : Bool) (s : State) :
    kept (askSpare c use hdr keep update s) = kept s := by simp [askSpare]
@[simp] theorem replaceSlice_kept (c : Nat) (s : State) : kept (replaceSlice c s) = kept s := by simp [replaceSlice]
@[simp] theorem declareStuck_kept (n : Nat) (s : State) : kept (declareStuck n s) = kept s := by simp [declareStuck]
@[simp] theorem clearStuck_kept (n : Nat) (s : State) : kept (clearStuck n s) = kept s := by simp [clearStuck]
@[simp] theorem connectSpare_kept (k b : Nat) (s : State) : kept (connectSpare k b s) = kept s := by simp [connectSpare]
@[simp] theorem updateFactors_kept (k : Nat) (s : State) : kept (updateFactors k s) = kept s := by
  simp only [updateFactors]
  (repeat' split) <;> simp
@[simp] theorem startBack_kept (k b : Nat) (s : State) : kept (startBack k b s) = kept s := by simp [startBack]
@[simp] theorem spareBoundary_kept (k b : Nat) (s : State) : kept (spareBoundary k b s) = kept s := by
  simp only [spareBoundary]
  (repeat' split) <;> simp
@[simp] theorem abandonLearning_kept (k : Nat) (g : Int) (resid : Nat) (s : State) : kept (abandonLearning k g resid s) = kept s := by simp [abandonLearning]
@[simp] theorem onLearningEnd_kept (k : Nat) (s : State) : kept (onLearningEnd k s) = kept s := by simp [onLearningEnd]
@[simp] theorem stopRotation_kept (k : Nat) (s : State) : kept (stopRotation k s) = kept s := by simp [stopRotation]
@[simp] theorem onSliceTestEnd_kept (k : Nat) (m : CalReading) (s : State) : kept (onSliceTestEnd k m s) = kept s := by simp [onSliceTestEnd]
@[simp] theorem outPeriod_kept (k j : Nat) (s : State) : kept (outPeriod k j s) = kept s := by simp [outPeriod]
@[simp] theorem onRotationStart_kept (k : Nat) (s : State) : kept (onRotationStart k s) = kept s := by simp [onRotationStart]
@[simp] theorem onOutPeriodEnd_kept (k : Nat) (s : State) : kept (onOutPeriodEnd k s) = kept s := by
  simp only [onOutPeriodEnd]
  (repeat' split) <;> simp

/-! ### Courses -/

@[simp] theorem putCourse_kept (c : Nat) (r : CourseRun) (s : State) : kept (putCourse c r s) = kept s := by simp [putCourse]
@[simp] theorem applyChan_kept (n : Nat) (s : State) : kept (applyChan n s) = kept s := by simp [applyChan]
@[simp] theorem applySlot_kept (c : Nat) (s0 : State) : kept (applySlot c s0) = kept s0 := by simp [applySlot]
@[simp] theorem applyCourse_kept (c : Nat) (s : State) : kept (applyCourse c s) = kept s := by simp [applyCourse]
@[simp] theorem cycleEvent_kept (c b : Nat) (s : State) : kept (cycleEvent c b s) = kept s := by simp [cycleEvent]
@[simp] theorem startSlot_kept (c b pos : Nat) (urgent : Option CmdHdr) (redo : Bool) (s : State) :
    kept (startSlot c b pos urgent redo s) = kept s := by simp [startSlot]
@[simp] theorem noteSlip_kept (c b : Nat) (s : State) : kept (noteSlip c b s) = kept s := by simp [noteSlip]
@[simp] theorem startEntry_kept (c b : Nat) (s : State) : kept (startEntry c b s) = kept s := by simp [startEntry]
@[simp] theorem awaitCycle_kept (c b : Nat) (s : State) : kept (awaitCycle c b s) = kept s := by
  simp only [awaitCycle]
  (repeat' split) <;> simp
@[simp] theorem runSequence_kept (c b : Nat) (s : State) : kept (runSequence c b s) = kept s := by simp [runSequence]
@[simp] theorem nextSlot_kept (c b : Nat) (s : State) : kept (nextSlot c b s) = kept s := by
  simp only [nextSlot]
  (repeat' split) <;> simp
@[simp] theorem bufferEntry_kept (c : Nat) (e : ResultEntry) (s : State) : kept (bufferEntry c e s) = kept s := by simp [bufferEntry]
@[simp] theorem noteScanWire_kept (o : ScanOut) (mon : Nat) (s : State) : kept (noteScanWire o mon s) = kept s := by simp [noteScanWire]
@[simp] theorem noteVw_kept (o : ScanOut) (s : State) : kept (noteVw o s) = kept s := by simp [noteVw]
@[simp] theorem deliverScan_kept (o : ScanOut) (mon : Nat) (urgent : Option CmdHdr) (s : State) :
    kept (deliverScan o mon urgent s) = kept s := by
  unfold deliverScan
  (repeat' split) <;> simp
@[simp] theorem noteLimit_kept (c : Nat) (limited : Bool) (s : State) : kept (noteLimit c limited s) = kept s := by simp [noteLimit]
@[simp] theorem onSlotEnd_kept (c : Nat) (m : SlotMeas) (s : State) : kept (onSlotEnd c m s) = kept s := by
  unfold onSlotEnd
  split <;> simp
@[simp] theorem forceAbort_kept (c b : Nat) (sl : Slot) (s : State) : kept (forceAbort c b sl s) = kept s := by
  unfold forceAbort
  (repeat' split) <;> simp
@[simp] theorem courseBoundary_kept (b c : Nat) (s : State) : kept (courseBoundary b c s) = kept s := by
  simp only [courseBoundary]
  (repeat' split) <;> simp
@[simp] theorem stopCourse_kept (code : Nat) (c : Nat) (s : State) : kept (stopCourse code c s) = kept s := by simp [stopCourse, kept_foldl]
@[simp] theorem regridCourse_kept (b c : Nat) (s : State) : kept (regridCourse b c s) = kept s := by
  simp only [regridCourse]
  (repeat' split) <;> simp
@[simp] theorem wireInLearning_kept (c : Nat) (s : State) : kept (wireInLearning c s) = kept s := by simp [wireInLearning]
@[simp] theorem dynWire_kept (m : Monitor) (c : Nat) (s : State) : kept (dynWire m c s) = kept s := by simp [dynWire]
@[simp] theorem slotWire_kept (m : Monitor) (c : Nat) (pos : Option Nat) (s : State) : kept (slotWire m c pos s) = kept s := by
  simp only [slotWire]
  (repeat' split) <;> simp
@[simp] theorem slotClear_kept (m : Monitor) (c : Nat) (pos : Option Nat) (s : State) : kept (slotClear m c pos s) = kept s := by simp [slotClear]
@[simp] theorem onWire_kept (m : Monitor) (site : WireSite) (s : State) : kept (onWire m site s) = kept s := by
  unfold onWire
  (repeat' split) <;> simp [kept_foldl]
@[simp] theorem wireQuiet_kept (m : Monitor) (c : Nat) (s : State) : kept (wireQuiet m c s) = kept s := by simp [wireQuiet]
@[simp] theorem onWireQuiet_kept (m : Monitor) (site : WireSite) (s : State) : kept (onWireQuiet m site s) = kept s := by
  unfold onWireQuiet
  (repeat' split) <;> simp [kept_foldl]
@[simp] theorem wireBoundary_kept (b : Nat) (s : State) : kept (wireBoundary b s) = kept s := by simp [wireBoundary, kept_foldl]

/-! ### Dies -/

@[simp] theorem clearPrev_kept (f : Chan → Bool) (s : State) : kept (clearPrev f s) = kept s := by simp [clearPrev]
@[simp] theorem dropRuns_kept (k : Nat) (s : State) : kept (dropRuns k s) = kept s := by simp [dropRuns]
@[simp] theorem isolateDie_kept (k : Nat) (why : Isolation) (s : State) : kept (isolateDie k why s) = kept s := by simp [isolateDie, kept_foldl]
@[simp] theorem rejoinDie_kept (k b : Nat) (s : State) : kept (rejoinDie k b s) = kept s := by simp [rejoinDie, kept_foldl]
@[simp] theorem dieBoundary_kept (b k : Nat) (s : State) : kept (dieBoundary b k s) = kept s := by
  simp only [dieBoundary]
  (repeat' split) <;> simp
@[simp] theorem restartCal_kept (k : Nat) (s : State) : kept (restartCal k s) = kept s := by simp [restartCal]
@[simp] theorem walkTrims_kept (s : State) : kept (walkTrims s) = kept s := by simp [walkTrims]
@[simp] theorem finishWrites_kept (effect : Nat) (s : State) : kept (finishWrites effect s) = kept s := by simp [finishWrites, kept_foldl]
@[simp] theorem driftEvent_kept (k : Nat) (temp : Int) (s : State) : kept (driftEvent k temp s) = kept s := by simp [driftEvent]
@[simp] theorem takeMeasured_kept (k i : Nat) (m : CalReading) (s : State) : kept (takeMeasured k i m s) = kept s := by simp [takeMeasured]
@[simp] theorem calResult_kept (k : Nat) (s : State) : kept (calResult k s) = kept s := by simp [calResult]
@[simp] theorem jobDieDone_kept (k : Nat) (s : State) : kept (jobDieDone k s) = kept s := by
  simp only [jobDieDone]
  (repeat' split) <;> simp
@[simp] theorem onCalEnd_kept (k : Nat) (ms : List CalReading) (s : State) : kept (onCalEnd k ms s) = kept s := by
  unfold onCalEnd
  split <;> simp [kept_foldl]

/-! ### Admission -/


/-! ### Budget -/

@[simp] theorem putLedger_kept (hub n rho sigma : Nat) (s : State) : kept (putLedger hub n rho sigma s) = kept s := by simp [putLedger]
@[simp] theorem putGrant_kept (n : Nat) (g : Nat × Nat) (s : State) : kept (putGrant n g s) = kept s := by simp [putGrant]
@[simp] theorem returnGrants_kept (c : Settings) (ss : Table StreamCtx) (s : State) : kept (returnGrants c ss s) = kept s := by simp [returnGrants, kept_foldl]
@[simp] theorem grantLocally_kept (needs : List (Nat × Nat × Nat)) (s : State) : kept (grantLocally needs s).2 = kept s := by
  unfold grantLocally
  exact kept_foldl_snd _ (fun a n => by split <;> (try split) <;> simp) _ _
@[simp] theorem withGrants_kept (h : CmdHdr) (op : Nat) (cmd : Instr) (c : Settings) (ss : Table StreamCtx) (go : State → State) (s : State)
    (e : ∀ t, kept (go t) = kept t) : kept (withGrants h op cmd c ss go s) = kept s := by
  simp only [withGrants]
  (repeat' split) <;> simp [e]

/-! ### FeCommands -/

@[simp] theorem onDynChainSet_kept (h : CmdHdr) (p : DynChainP) (s : State) : kept (onDynChainSet h p s) = kept s := by simp [onDynChainSet]
@[simp] theorem courseDone_kept (h : CmdHdr) (op c : Nat) (s : State) : kept (courseDone h op c s) = kept s := by simp [courseDone]
@[simp] theorem noteExc_kept (c : Nat) (force on : Bool) (what : List (Option Nat)) (s : State) :
    kept (noteExc c force on what s) = kept s := by simp [noteExc]

end Sys2Proof.Machine
end

