-- ==== Sys2Proof/Laws/KeptTrigger.lean ====
section
/-! SUPPORT. What the operations of captures, triggers, reductions and delivery keep: the boot and update state and the queue (`kept`), or, where an operation
changes other boot state, the boot flash and the queue. -/

namespace Sys2Proof.Machine

/-! ### Capture -/

@[simp] theorem putUnit_kept (u : Nat) (x : UnitRun) (s : State) : kept (putUnit u x s) = kept s := by simp [putUnit]
@[simp] theorem armOrFull_kept (u dead : Nat) (s : State) : kept (armOrFull u dead s) = kept s := by simp [armOrFull]
@[simp] theorem missTrigger_kept (u : Nat) (t : Trigger) (s : State) : kept (missTrigger u t s) = kept s := by simp [missTrigger]
@[simp] theorem startCapture_kept (u : Nat) (t : Trigger) (s : State) : kept (startCapture u t s) = kept s := by simp [startCapture]
@[simp] theorem setLast_kept (u last : Nat) (k : Capture) (s : State) : kept (setLast u last k s) = kept s := by simp [setLast]
@[simp] theorem extendCapture_kept (u : Nat) (t : Trigger) (k : Capture) (s : State) : kept (extendCapture u t k s) = kept s := by simp [extendCapture]
@[simp] theorem policyTrigger_kept (u : Nat) (t : Trigger) (s : State) : kept (policyTrigger u t s) = kept s := by
  simp only [policyTrigger]
  (repeat' split) <;> simp
@[simp] theorem replaceCapture_kept (u : Nat) (t : Trigger) (k : Capture) (s : State) : kept (replaceCapture u t k s) = kept s := by simp [replaceCapture]
@[simp] theorem unitTrigger_kept (u : Nat) (t : Trigger) (s : State) : kept (unitTrigger u t s) = kept s := by
  simp only [unitTrigger]
  (repeat' split) <;> simp
@[simp] theorem toUnits_kept (source : Nat) (t : Trigger) (s : State) : kept (toUnits source t s) = kept s := by simp [toUnits, kept_foldl]
@[simp] theorem cutCapture_kept (u last bit : Nat) (always idle : Bool) (s : State) :
    kept (cutCapture u last bit always idle s) = kept s := by
  simp only [cutCapture]
  (repeat' split) <;> simp
@[simp] theorem numberData_kept (n : Nat) (k : Capo) (s : State) (fret : Nat) : kept (numberData n k s fret) = kept s := by simp [numberData]
@[simp] theorem captureRecords_kept (n u : Nat) (k : Capture) (o : Capo) (s : State) : kept (captureRecords n u k o s) = kept s := by simp [captureRecords, kept_foldl]
@[simp] theorem autoRelease_kept (s : State) (u : Nat) : kept (autoRelease s u) = kept s := by simp [autoRelease]
@[simp] theorem closeCapture_kept (u : Nat) (s : State) : kept (closeCapture u s) = kept s := by
  simp only [closeCapture]
  (repeat' split) <;> simp
@[simp] theorem onCaptureClose_kept (u : Nat) (s : State) : kept (onCaptureClose u s) = kept s := by
  unfold onCaptureClose
  split <;> simp
@[simp] theorem onRearmEnd_kept (u : Nat) (s : State) : kept (onRearmEnd u s) = kept s := by simp [onRearmEnd]
@[simp] theorem onFullToArmed_kept (u : Nat) (s : State) : kept (onFullToArmed u s) = kept s := by simp [onFullToArmed]
@[simp] theorem onAutoTrigger_kept (u : Nat) (s : State) : kept (onAutoTrigger u s) = kept s := by simp [onAutoTrigger]
@[simp] theorem unitBoundary_kept (s : State) (u : Nat) : kept (unitBoundary s u) = kept s := by
  simp only [unitBoundary]
  (repeat' split) <;> simp
@[simp] theorem restartAuto_kept (s : State) (u : Nat) : kept (restartAuto s u) = kept s := by simp [restartAuto]
@[simp] theorem captureToHost_kept (n : Nat) (found : List ReadError) (s : State) : kept (captureToHost n found s) = kept s := by
  simp only [captureToHost]
  (repeat' split) <;> simp
@[simp] theorem captureToRing_kept (n : Nat) (found : List ReadError) (s : State) : kept (captureToRing n found s) = kept s := by
  simp only [captureToRing]
  (repeat' split) <;> simp
@[simp] theorem onCaptureData_kept (n : Nat) (found : List ReadError) (s : State) : kept (onCaptureData n found s) = kept s := by simp [onCaptureData, kept_foldl]

/-! ### ValueOutputs -/

@[simp] theorem putVal_kept (n : Nat) (r : ValRun) (s : State) : kept (putVal n r s) = kept s := by simp [putVal]
@[simp] theorem tripEvent_kept (n why lat : Nat) (s : State) : kept (tripEvent n why lat s) = kept s := by simp [tripEvent]
@[simp] theorem tripOutput_kept (lat : Nat) (s : State) (n : Nat) : kept (tripOutput lat s n) = kept s := by simp [tripOutput]
@[simp] theorem tripOutputs_kept (comb lat : Nat) (s : State) : kept (tripOutputs comb lat s) = kept s := by simp [tripOutputs, kept_foldl]
@[simp] theorem onHoldEnd_kept (n : Nat) (s : State) : kept (onHoldEnd n s) = kept s := by
  unfold onHoldEnd
  split <;> simp
@[simp] theorem noteBlind_kept (n : Nat) (s : State) : kept (noteBlind n s) = kept s := by simp [noteBlind]
@[simp] theorem onPeriod_kept (n : Nat) (s : State) : kept (onPeriod n s) = kept s := by
  simp only [onPeriod]
  (repeat' split) <;> simp
@[simp] theorem onStale_kept (n : Nat) (s : State) : kept (onStale n s) = kept s := by
  unfold onStale
  split <;> simp
@[simp] theorem valWord_kept (n : Nat) (v : Int) (tags : Nat) (s : State) : kept (valWord n v tags s) = kept s := by simp [valWord]
@[simp] theorem valWords_kept (ch : Chan) (v : Int) (tags : Nat) (s : State) : kept (valWords ch v tags s) = kept s := by simp [valWords, kept_foldl]
@[simp] theorem onFinding_kept (n : Nat) (f : FbFinding) (s : State) : kept (onFinding n f s) = kept s := by
  unfold onFinding
  (repeat' split) <;> simp
@[simp] theorem onDiagClear_kept (n : Nat) (f : FbFinding) (s : State) : kept (onDiagClear n f s) = kept s := by
  unfold onDiagClear
  split <;> simp
@[simp] theorem setOutput_kept (s : State) (n : Nat) : kept (setOutput s n) = kept s := by simp [setOutput]

/-! ### Triggers -/

@[simp] theorem putCond_kept (i : Nat) (r : CondRun) (s : State) : kept (putCond i r s) = kept s := by simp [putCond]
@[simp] theorem putComb_kept (c : Nat) (r : CombRun) (s : State) : kept (putComb c r s) = kept s := by simp [putComb]
@[simp] theorem sendSymp_kept (lat : Nat) (payload : List Byte) (s : State) : kept (sendSymp lat payload s) = kept s := by simp [sendSymp]
@[simp] theorem sawTrigger_kept (group time : Nat) (s : State) : kept (sawTrigger group time s) = kept s := by simp [sawTrigger]
@[simp] theorem takeRequest_kept (group lat : Nat) (q : Merge) (s : State) : kept (takeRequest group lat q s) = kept s := by
  unfold takeRequest
  split <;> simp
@[simp] theorem sendGroup_kept (group time sub cond comb lat : Nat) (command : Bool) (s : State) :
    kept (sendGroup group time sub cond comb lat command s) = kept s := by simp [sendGroup]
@[simp] theorem passOn_kept (c cond time sub lat : Nat) (s : State) : kept (passOn c cond time sub lat s) = kept s := by
  simp only [passOn]
  (repeat' split) <;> simp
@[simp] theorem fireComb_kept (c cond lat : Nat) (x : Term) (s : State) : kept (fireComb c cond lat x s) = kept s := by simp [fireComb]
@[simp] theorem activate_kept (i time sub lat : Nat) (s : State) : kept (activate i time sub lat s) = kept s := by simp [activate]
@[simp] theorem takeWord_kept (w : TrigWord) (s : State) (e : Nat × CondSet) : kept (takeWord w s e) = kept s := by
  simp only [takeWord]
  (repeat' split) <;> simp
@[simp] theorem onWord_kept (s : State) : kept (onWord s) = kept s := by
  unfold onWord
  split <;> simp [kept_foldl]
@[simp] theorem takeEdge_kept (level : Bool) (s : State) (e : Nat × CondSet) : kept (takeEdge level s e) = kept s := by simp [takeEdge]
@[simp] theorem onGpio_kept (pin : Nat) (level : Bool) (s : State) : kept (onGpio pin level s) = kept s := by simp [onGpio, kept_foldl]
@[simp] theorem onTermExpiry_kept (c : Nat) (s : State) : kept (onTermExpiry c s) = kept s := by
  unfold onTermExpiry
  split <;> simp
@[simp] theorem coalesced_kept (code source stamp : Nat) (args : List Byte) (s : State) :
    kept (coalesced code source stamp args s) = kept s := by simp [coalesced]
@[simp] theorem acceptSymp_kept (msg group origin comb seq sub merged time : Nat) (unlocked fallback command : Bool) (s : State) :
    kept (acceptSymp msg group origin comb seq sub merged time unlocked fallback command s) = kept s := by simp [acceptSymp]
@[simp] theorem onSymp_kept (p : List Byte) (s : State) : kept (onSymp p s) = kept s := by simp [onSymp]
@[simp] theorem onMergeEnd_kept (g : Nat) (s : State) : kept (onMergeEnd g s) = kept s := by
  unfold onMergeEnd
  split <;> simp
@[simp] theorem onFallback_kept (g : Nat) (s : State) : kept (onFallback g s) = kept s := by
  unfold onFallback
  split <;> simp
@[simp] theorem triggerBoundary_kept (s : State) : kept (triggerBoundary s) = kept s := by simp [triggerBoundary]

/-! ### Reduction -/

@[simp] theorem putStats_kept (n : Nat) (r : StatsRun) (s : State) : kept (putStats n r s) = kept s := by simp [putStats]
@[simp] theorem putRain_kept (n : Nat) (r : RainSetRun) (s : State) : kept (putRain n r s) = kept s := by simp [putRain]
@[simp] theorem putSpec_kept (n : Nat) (r : SpecRun) (s : State) : kept (putSpec n r s) = kept s := by simp [putSpec]
@[simp] theorem reduceFret_kept (b : FretBuf) (s : State) : kept (reduceFret b s) = kept s := by simp [reduceFret]
@[simp] theorem reduceCut_kept (s : State) : kept (reduceCut s) = kept s := by simp [reduceCut]
@[simp] theorem statsBoundary_kept (b : Nat) (s : State) (n : Nat) : kept (statsBoundary b s n) = kept s := by simp [statsBoundary]
@[simp] theorem rainBoundary_kept (b : Nat) (s : State) (n : Nat) : kept (rainBoundary b s n) = kept s := by simp [rainBoundary]
@[simp] theorem specBoundary_kept (b : Nat) (s : State) (n : Nat) : kept (specBoundary b s n) = kept s := by
  simp only [specBoundary]
  (repeat' split) <;> simp
@[simp] theorem reductionBoundary_kept (b : Nat) (s : State) : kept (reductionBoundary b s) = kept s := by simp [reductionBoundary, kept_foldl]
@[simp] theorem stopReductions_kept (l b : Nat) (s : State) : kept (stopReductions l b s) = kept s := by simp [stopReductions]
@[simp] theorem stepReductions_kept (l b : Nat) (s : State) : kept (stepReductions l b s) = kept s := by simp [stepReductions]
@[simp] theorem dropReductions_kept (s : State) : kept (dropReductions s) = kept s := by simp [dropReductions]
theorem derivedDue_kept {delay : Nat} {e : Ending} {s t : State} (h : derivedDue delay e s = some t) : kept t = kept s := by
  unfold derivedDue at h
  (repeat' split at h) <;> cases h <;> simp
@[simp] theorem closeDerived_kept (ue : Option Nat) (n type stamp fret : Nat) (blocks : List Block) (s : State) :
    kept (closeDerived ue n type stamp fret blocks s) = kept s := by
  unfold closeDerived
  (repeat' split) <;> simp
@[simp] theorem onStatsClose_kept (n : Nat) (ue : Option Nat) (s : State) : kept (onStatsClose n ue s) = kept s := by
  unfold onStatsClose
  (repeat' split) <;> first | rfl | (simp; exact derivedDue_kept ‹_›)
@[simp] theorem onRainClose_kept (n : Nat) (ue : Option Nat) (s : State) : kept (onRainClose n ue s) = kept s := by
  unfold onRainClose
  (repeat' split) <;> first | rfl | (simp; exact derivedDue_kept ‹_›)
@[simp] theorem onSpecClose_kept (n : Nat) (ue : Option Nat) (s : State) : kept (onSpecClose n ue s) = kept s := by
  unfold onSpecClose
  (repeat' split) <;> first | rfl | (simp; exact derivedDue_kept ‹_›)
@[simp] theorem onRedTest_kept (pass : Bool) (s : State) : kept (onRedTest pass s) = kept s := by
  unfold onRedTest
  split <;> simp [kept_foldl]
@[simp] theorem onStatsSet_kept (h : CmdHdr) (set interval stream : Nat) (es : List Chan) (s : State) :
    kept (onStatsSet h set interval stream es s) = kept s := by simp [onStatsSet]
@[simp] theorem onRainSet_kept (h : CmdHdr) (set interval stream : Nat) (cs : List RainChanP) (s : State) :
    kept (onRainSet h set interval stream cs s) = kept s := by simp [onRainSet]
@[simp] theorem onSpecSet_kept (h : CmdHdr) (p : SpectralP) (s : State) : kept (onSpecSet h p s) = kept s := by simp [onSpecSet]

/-! ### Delivery -/

@[simp] theorem enterHold_kept (n : Nat) (s : State) : kept (enterHold n s) = kept s := by simp [enterHold]
@[simp] theorem resendRecord_kept (n : Nat) (s : State) (c : StreamCtx) : kept (resendNext.resendRecord n s c) = kept s := by
  simp only [resendNext.resendRecord]
  (repeat' split) <;> simp
@[simp] theorem resendNext_kept (n : Nat) (s : State) : kept (resendNext n s) = kept s := by
  simp only [resendNext]
  (repeat' split) <;> simp
@[simp] theorem onResend_kept (n : Nat) (s : State) : kept (onResend n s) = kept s := by
  simp only [onResend]
  (repeat' split) <;> simp
@[simp] theorem grantCredit_kept (hub bytes : Nat) (s : State) : kept (grantCredit hub bytes s) = kept s := by simp [grantCredit]
@[simp] theorem firstGrant_kept (hub : Nat) (s : State) : kept (firstGrant hub s) = kept s := by simp [firstGrant]
@[simp] theorem spendCredit_kept (hub bytes : Nat) (s : State) : kept (spendCredit hub bytes s) = kept s := by simp [spendCredit]
@[simp] theorem onRetrievalTx_kept (s : State) : kept (onRetrievalTx s) = kept s := by
  unfold onRetrievalTx
  (repeat' split) <;> simp [kept_foldl]
@[simp] theorem onCredit_kept (m : CreditMsg) (s : State) : kept (onCredit m s) = kept s := by
  unfold onCredit
  split <;> simp
@[simp] theorem payCredit_kept (s : State) : kept (payCredit s) = kept s := by simp [payCredit, kept_foldl]
@[simp] theorem onCreditReturn_kept (hub : Nat) (s : State) : kept (onCreditReturn hub s) = kept s := by simp [onCreditReturn]
@[simp] theorem writeRemote_kept (hub ring : Nat) (bytes : List Byte) (retrieval : Bool) (s : State) :
    kept (writeRemote hub ring bytes retrieval s) = kept s := by simp [writeRemote]
@[simp] theorem takeRemote_kept (hub stream : Nat) (bytes : List Byte) (retrieval : Bool) (s : State) :
    kept (takeRemote hub stream bytes retrieval s) = kept s := by
  unfold takeRemote
  (repeat' split) <;> simp
@[simp] theorem onRemoteRecord_kept (hub stream : Nat) (bytes : List Byte) (retrieval : Bool) (s : State) :
    kept (onRemoteRecord hub stream bytes retrieval s) = kept s := by
  unfold onRemoteRecord
  (repeat' split) <;> simp
@[simp] theorem unpark_kept (r : Nat) (s : State) : kept (unpark r s) = kept s := by simp [unpark, kept_foldl]
@[simp] theorem onSubscribe_kept (h : CmdHdr) (p : SubscribeP) (s : State) : kept (onSubscribe h p s) = kept s := by simp [onSubscribe]
@[simp] theorem unsubscribeBoundary_kept (s : State) : kept (unsubscribeBoundary s) = kept s := by simp [unsubscribeBoundary]
@[simp] theorem readAll_kept (req : Nat) (xs : List Stored) (found : List ReadError) (s : State) :
    kept (readAll req xs found s).1 = kept s := by
  unfold readAll
  (repeat' split) <;> simp [kept_foldl_fst, kept_foldl]
@[simp] theorem retrieveNow_kept (h : CmdHdr) (p : RetrieveP) (s0 : State) : kept (retrieveNow h p s0) = kept s0 := by
  unfold retrieveNow
  (repeat' split) <;> simp [kept_foldl]
@[simp] theorem doRetrieve_kept (h : CmdHdr) (p : RetrieveP) (s : State) : kept (doRetrieve h p s) = kept s := by
  unfold doRetrieve
  (repeat' split) <;> simp [kept_foldl]
@[simp] theorem serveRetrievals_kept (s : State) : kept (serveRetrievals s) = kept s := by
  unfold serveRetrievals
  rw [kept_foldl]
  intro t j
  simp only
  (repeat' split) <;> simp
@[simp] theorem endShare_kept (s : State) : kept (endShare s) = kept s := by simp [endShare]
@[simp] theorem discardHistory_kept (s : State) : kept (discardHistory s) = kept s := by simp [discardHistory]

end Sys2Proof.Machine
end

