-- ==== Sys2Proof/Laws/KeptRing.lean ====
section
/-! SUPPORT. What the operations of the ring, the lanes, the field ports and the safe state keep: the boot and update state and the queue (`kept`), or, where an operation
changes other boot state, the boot flash and the queue. -/

namespace Sys2Proof.Machine

/-! ### Ring -/

@[simp] theorem bump_kept (p : Port) (f : PortCount → PortCount) (s : State) : kept (bump p f s) = kept s := by
  unfold bump
  split <;> simp
@[simp] theorem traceDiscard_kept (p : Port) (cause : Nat) (f : RingFrame) (s : State) : kept (traceDiscard p cause f s) = kept s := by simp [traceDiscard]
@[simp] theorem forwardFrame_kept (p : Port) (f : RingFrame) (s : State) : kept (forwardFrame p f s) = kept s := by simp [forwardFrame]
@[simp] theorem reassemble_kept (f : RingFrame) (s : State) : kept (reassemble f s) = kept s := by simp [reassemble]
@[simp] theorem spoil_kept (p : Port) (f : RingFrame) (s : State) : kept (spoil p f s) = kept s := by simp [spoil]
@[simp] theorem readFrame_kept (p : Port) (f : RingFrame) (s : State) : kept (readFrame p f s) = kept s := by simp [readFrame]
@[simp] theorem seenByEngine_kept (f : RingFrame) (s : State) : kept (seenByEngine f s) = kept s := by simp [seenByEngine]
@[simp] theorem onFrame_kept (p : Port) (f : RingFrame) (s : State) : kept (onFrame p f s) = kept s := by simp [onFrame]
@[simp] theorem onDupExpiry_kept (s : State) : kept (onDupExpiry s) = kept s := by
  unfold onDupExpiry
  split <;> simp
@[simp] theorem onReasmTimeout_kept (p : Port) (hub stream tag : Nat) (s : State) : kept (onReasmTimeout p hub stream tag s) = kept s := by
  unfold onReasmTimeout
  split <;> simp
@[simp] theorem putEgress_kept (p : Port) (ws : List Waiting) (s : State) : kept (putEgress p ws s) = kept s := by
  unfold putEgress
  (repeat' split) <;> simp
@[simp] theorem setJoin_kept (j : JoinState) (s : State) : kept (setJoin j s) = kept s := by simp [setJoin]
@[simp] theorem endRingStream_kept (n : Nat) (s : State) : kept (endRingStream n s) = kept s := by simp [endRingStream]
@[simp] theorem sendLeave_kept (s : State) : kept (sendLeave s) = kept s := by simp [sendLeave, kept_foldl]
@[simp] theorem leaveWhenSent_kept (s : State) : kept (leaveWhenSent s) = kept s := by simp [leaveWhenSent]
@[simp] theorem afterEgress_kept (p : Port) (m : WireMsg) (s : State) : kept (afterEgress p m s) = kept s := by
  unfold afterEgress
  (repeat' split) <;> simp
@[simp] theorem onEgress_kept (p : Port) (s : State) : kept (onEgress p s) = kept s := by
  simp only [onEgress]
  (repeat' split) <;> simp
@[simp] theorem onSupervisionTx_kept (s : State) : kept (onSupervisionTx s) = kept s := by simp [onSupervisionTx]
@[simp] theorem onSupervisionRx_kept (node : Nat) (s : State) : kept (onSupervisionRx node s) = kept s := by simp [onSupervisionRx]
@[simp] theorem onNodeForget_kept (node : Nat) (s : State) : kept (onNodeForget node s) = kept s := by
  unfold onNodeForget
  split <;> simp
@[simp] theorem putLease_kept (r : Role) (l : LeaseRun) (s : State) : kept (putLease r l s) = kept s := by
  unfold putLease
  split <;> simp
@[simp] theorem roleEvent_kept (r : Role) (holder term : Nat) (s : State) : kept (roleEvent r holder term s) = kept s := by simp [roleEvent]
@[simp] theorem traceLease_kept (r : Role) (act peer term : Nat) (s : State) : kept (traceLease r act peer term s) = kept s := by simp [traceLease]
@[simp] theorem answerForwarded_kept (f : Forwarded) (c : RemoteCompletion) (s : State) : kept (answerForwarded f c s) = kept s := by simp [answerForwarded]
@[simp] theorem forwardTimedOut_kept (f : Forwarded) (s : State) : kept (forwardTimedOut f s) = kept s := by simp [forwardTimedOut]
@[simp] theorem loseRole_kept (r : Role) (s : State) : kept (loseRole r s) = kept s := by
  unfold loseRole
  split <;> simp [kept_foldl]
@[simp] theorem answerRequest_kept (hub stream rho sigma : Nat) (s : State) : kept (answerRequest hub stream rho sigma s) = kept s := by
  unfold answerRequest
  split <;> simp
@[simp] theorem ledgerCheck_kept (s : State) : kept (ledgerCheck s) = kept s := by simp [ledgerCheck, kept_foldl]
@[simp] theorem startLedger_kept (s : State) : kept (startLedger s) = kept s := by simp [startLedger]
@[simp] theorem ledgerBeacon_kept (b : Beacon) (s : State) : kept (ledgerBeacon b s) = kept s := by simp [ledgerBeacon]
@[simp] theorem runAgain_kept (c : Instr) (s : State) : kept (runAgain c s) = kept s := by
  unfold runAgain
  split <;> simp
@[simp] theorem onBudget_kept (m : BudgetMsg) (s : State) : kept (onBudget m s) = kept s := by
  unfold onBudget
  (repeat' split) <;> simp
@[simp] theorem takeRole_kept (r : Role) (s : State) : kept (takeRole r s) = kept s := by
  unfold takeRole
  split <;> simp
@[simp] theorem countAck_kept (r : Role) (hub sent : Nat) (renewal : Bool) (s : State) : kept (countAck r hub sent renewal s) = kept s := by simp [countAck]
@[simp] theorem acknowledge_kept (r : Role) (hub term sent : Nat) (renewal : Bool) (s : State) :
    kept (acknowledge r hub term sent renewal s) = kept s := by simp [acknowledge]
@[simp] theorem collectClaim_kept (r : Role) (pri hub term sent : Nat) (s : State) : kept (collectClaim r pri hub term sent s) = kept s := by simp [collectClaim]
@[simp] theorem heardLease_kept (r : Role) (s : State) : kept (heardLease r s) = kept s := by simp [heardLease]
@[simp] theorem onLease_kept (m : LeaseMsg) (s : State) : kept (onLease m s) = kept s := by
  unfold onLease
  (repeat' split) <;> simp
@[simp] theorem onVacant_kept (r : Role) (s : State) : kept (onVacant r s) = kept s := by simp [onVacant]
@[simp] theorem onClaimEnd_kept (r : Role) (s : State) : kept (onClaimEnd r s) = kept s := by
  simp only [onClaimEnd]
  (repeat' split) <;> simp
@[simp] theorem sendRenew_kept (r : Role) (s : State) : kept (sendRenew r s) = kept s := by simp [sendRenew]
@[simp] theorem onRenew_kept (r : Role) (s : State) : kept (onRenew r s) = kept s := by simp [onRenew]
@[simp] theorem onLeaseExpiry_kept (r : Role) (s : State) : kept (onLeaseExpiry r s) = kept s := by simp [onLeaseExpiry]
@[simp] theorem onBeaconTx_kept (s : State) : kept (onBeaconTx s) = kept s := by simp [onBeaconTx]
@[simp] theorem beaconRole_kept (r : Role) (holds : Bool) (hub term : Nat) (s : State) : kept (beaconRole r holds hub term s) = kept s := by simp [beaconRole]
@[simp] theorem setSplit_kept (mask : Nat) (s : State) : kept (setSplit mask s) = kept s := by simp [setSplit]
@[simp] theorem onBeacon_kept (p : Port) (b : Beacon) (s : State) : kept (onBeacon p b s) = kept s := by simp [onBeacon]
@[simp] theorem hubGone_kept (hub : Nat) (left : Bool) (s : State) : kept (hubGone hub left s) = kept s := by simp [hubGone, kept_foldl]
@[simp] theorem enterHolds_kept (s : State) : kept (enterHolds s) = kept s := by simp [enterHolds, kept_foldl]
@[simp] theorem onHubAbsent_kept (hub : Nat) (s : State) : kept (onHubAbsent hub s) = kept s := by simp [onHubAbsent]
@[simp] theorem startListen_kept (h : Option CmdHdr) (s : State) : kept (startListen h s) = kept s := by simp [startListen]
@[simp] theorem onLinkUp_kept (p : Port) (s : State) : kept (onLinkUp p s) = kept s := by
  unfold onLinkUp
  (repeat' split) <;> simp
@[simp] theorem dropJoin_kept (s : State) : kept (dropJoin s) = kept s := by
  unfold dropJoin
  split <;> simp
@[simp] theorem dropLeave_kept (s : State) : kept (dropLeave s) = kept s := by simp [dropLeave, kept_foldl]
@[simp] theorem takeBack_kept (s : State) : kept (takeBack s) = kept s := by simp [takeBack, kept_foldl]
@[simp] theorem onLinkDown_kept (p : Port) (s : State) : kept (onLinkDown p s) = kept s := by
  unfold onLinkDown
  (repeat' split) <;> simp [kept_foldl]
@[simp] theorem holdUndelivered_kept (s : State) : kept (holdUndelivered s) = kept s := by simp [holdUndelivered, kept_foldl]
@[simp] theorem onListenEnd_kept (s : State) : kept (onListenEnd s) = kept s := by
  simp only [onListenEnd]
  (repeat' split) <;> simp
@[simp] theorem doLeave_kept (h : CmdHdr) (s : State) : kept (doLeave h s) = kept s := by simp [doLeave, kept_foldl]
@[simp] theorem onLeaveMsg_kept (hub : Nat) (s : State) : kept (onLeaveMsg hub s) = kept s := by simp [onLeaveMsg]
@[simp] theorem onCommandFrame_kept (gateway term opcode : Nat) (h : CmdHdr) (s : State) :
    kept (onCommandFrame gateway term opcode h s) = kept s := by
  unfold onCommandFrame
  (repeat' split) <;> simp
@[simp] theorem onCompletionFrame_kept (c : RemoteCompletion) (s : State) : kept (onCompletionFrame c s) = kept s := by
  unfold onCompletionFrame
  split <;> simp
@[simp] theorem sendCommand_kept (f : Forwarded) (s : State) : kept (sendCommand f s) = kept s := by simp [sendCommand]
@[simp] theorem onForwardRetry_kept (hub tag : Nat) (s : State) : kept (onForwardRetry hub tag s) = kept s := by
  unfold onForwardRetry
  split <;> simp

/-! ### Lanes -/

@[simp] theorem putLane_kept (n : Nat) (l : Lane) (s : State) : kept (putLane n l s) = kept s := by simp [putLane]
@[simp] theorem enterStage_kept (n state : Nat) (s : State) : kept (enterStage n state s) = kept s := by simp [enterStage]
@[simp] theorem leaveUp_kept (n state : Nat) (s : State) : kept (leaveUp n state s) = kept s := by simp [leaveUp]
@[simp] theorem comeUp_kept (n : Nat) (l : Lane) (s : State) : kept (comeUp n l s) = kept s := by simp [comeUp]
@[simp] theorem onStageAdvance_kept (n : Nat) (a : LaneAlign) (s : State) : kept (onStageAdvance n a s) = kept s := by simp [onStageAdvance]
@[simp] theorem onStageTimeout_kept (n : Nat) (s : State) : kept (onStageTimeout n s) = kept s := by
  simp only [onStageTimeout]
  (repeat' split) <;> simp
@[simp] theorem onFaultRetry_kept (n : Nat) (s : State) : kept (onFaultRetry n s) = kept s := by simp [onFaultRetry]
@[simp] theorem startTest_kept (n : Nat) (s : State) : kept (startTest n s) = kept s := by
  unfold startTest
  split <;> simp
@[simp] theorem endTest_kept (n status : Nat) (s : State) : kept (endTest n status s) = kept s := by
  simp only [endTest]
  (repeat' split) <;> simp
@[simp] theorem onCheckerLock_kept (r : PrbsBits) (s : State) : kept (onCheckerLock r s) = kept s := by simp [onCheckerLock]
@[simp] theorem onPrbsLost_kept (n bits errors : Nat) (s : State) : kept (onPrbsLost n bits errors s) = kept s := by simp [onPrbsLost]
@[simp] theorem onTestEnd_kept (n bits errors : Nat) (s : State) : kept (onTestEnd n bits errors s) = kept s := by
  simp only [onTestEnd]
  (repeat' split) <;> simp
@[simp] theorem cutTest_kept (n : Nat) (s : State) : kept (cutTest n s) = kept s := by simp [cutTest]
@[simp] theorem onLockLoss_kept (n : Nat) (loss : LaneLoss) (s : State) : kept (onLockLoss n loss s) = kept s := by simp [onLockLoss]
@[simp] theorem onEyeScan_kept (n width height : Nat) (was : State) : kept (onEyeScan n width height was) = kept was := by simp [onEyeScan]
@[simp] theorem onTrained_kept (rate : Nat) (used : List Nat) (reversed : Bool) (inverted : List Nat) (s : State) :
    kept (onTrained rate used reversed inverted s) = kept s := by simp [onTrained, kept_foldl]
@[simp] theorem restartLane_kept (n : Nat) (s : State) : kept (restartLane n s) = kept s := by simp [restartLane]
@[simp] theorem ringChange_kept (old : RingPortSet) (s : State) : kept (ringChange old s) = kept s := by simp [ringChange]
@[simp] theorem laneBoundary_kept (b : Nat) (s : State) : kept (laneBoundary b s) = kept s := by
  unfold laneBoundary
  simp
  (repeat' split) <;> simp

/-! ### FieldPorts -/

@[simp] theorem putFp_kept (p : Nat) (r : FpRun) (s : State) : kept (putFp p r s) = kept s := by simp [putFp]
@[simp] theorem notePartner_kept (o : PollOut) (s : State) : kept (notePartner o s) = kept s := by simp [notePartner]
@[simp] theorem noteBus_kept (o : PollOut) (s : State) : kept (noteBus o s) = kept s := by simp [noteBus]
@[simp] theorem noteCycle_kept (p : Nat) (s : State) : kept (noteCycle p s) = kept s := by simp [noteCycle]
@[simp] theorem deliverPoll_kept (o : PollOut) (s : State) : kept (deliverPoll o s) = kept s := by
  unfold deliverPoll
  split <;> simp
@[simp] theorem stopPort_kept (p : Nat) (s : State) : kept (stopPort p s) = kept s := by simp [stopPort]
@[simp] theorem applyPort_kept (p : Nat) (s : State) : kept (applyPort p s) = kept s := by simp [applyPort]
@[simp] theorem startPoll_kept (p b pos : Nat) (s : State) : kept (startPoll p b pos s) = kept s := by simp [startPoll]
@[simp] theorem awaitPort_kept (p b : Nat) (s : State) : kept (awaitPort p b s) = kept s := by simp [awaitPort]
@[simp] theorem onPollEnd_kept (p : Nat) (s : State) : kept (onPollEnd p s) = kept s := by simp [onPollEnd]
@[simp] theorem portBoundary_kept (b : Nat) (s : State) (p : Nat) : kept (portBoundary b s p) = kept s := by simp [portBoundary]
@[simp] theorem failAttempt_kept (p cause : Nat) (s : State) : kept (failAttempt p cause s) = kept s := by simp [failAttempt]
@[simp] theorem onRequest_kept (p : Nat) (idle : Bool) (s : State) : kept (onRequest p idle s) = kept s := by simp [onRequest]
@[simp] theorem onResponse_kept (p : Nat) (cs : List Byte) (framingOk : Bool) (s : State) : kept (onResponse p cs framingOk s) = kept s := by simp [onResponse]
@[simp] theorem onResponseTimeout_kept (p : Nat) (s : State) : kept (onResponseTimeout p s) = kept s := by simp [onResponseTimeout]
@[simp] theorem portDone_kept (h : CmdHdr) (op : Nat) (running : Bool) (s : State) : kept (portDone h op running s) = kept s := by simp [portDone]

/-! ### Monitor -/

@[simp] theorem dropOutput_kept (s : State) (n : Nat) : kept (dropOutput s n) = kept s := by simp [dropOutput]
@[simp] theorem dropRail_kept (s : State) (e : Nat) : kept (dropRail s e) = kept s := by simp [dropRail]
@[simp] theorem dropCourse_kept (s : State) (c : Nat) : kept (dropCourse s c) = kept s := by simp [dropCourse]
@[simp] theorem stopLanes_kept (s : State) : kept (stopLanes s) = kept s := by simp [stopLanes]
@[simp] theorem dropAll_kept (s : State) : kept (dropAll s) = kept s := by simp [dropAll, kept_foldl]
@[simp] theorem enterSafe_kept (c : Nat) (s : State) : kept (enterSafe c s) = kept s := by simp [enterSafe]
@[simp] theorem safeCause_kept (c : Nat) (present : Bool) (s : State) : kept (safeCause c present s) = kept s := by simp [safeCause]
@[simp] theorem causeEnds_kept (c : Nat) (s : State) : kept (causeEnds c s) = kept s := by simp [causeEnds]
@[simp] theorem onClockLoss_kept (k : ClockName) (s : State) : kept (onClockLoss k s) = kept s := by simp [onClockLoss]
@[simp] theorem onClockRestored_kept (k : ClockName) (s : State) : kept (onClockRestored k s) = kept s := by simp [onClockRestored]
@[simp] theorem supplyOut_kept (n tenMv : Nat) (s : State) : kept (supplyOut n tenMv s) = kept s := by simp [supplyOut]
@[simp] theorem onSupplyRestored_kept (n : Nat) (s : State) : kept (onSupplyRestored n s) = kept s := by simp [onSupplyRestored]
@[simp] theorem faultDie_kept (k : Nat) (why : Isolation) (s : State) : kept (faultDie k why s) = kept s := by simp [faultDie]
@[simp] theorem onLinkFault_kept (k : Nat) (s : State) : kept (onLinkFault k s) = kept s := by simp [onLinkFault]
@[simp] theorem putTemp_kept (k : Nat) (temp : Int) (s : State) : kept (putTemp k temp s) = kept s := by simp [putTemp]
@[simp] theorem onTempHigh_kept (k : Nat) (temp : Int) (s : State) : kept (onTempHigh k temp s) = kept s := by simp [onTempHigh]
@[simp] theorem onTempRecovered_kept (k : Nat) (temp : Int) (s : State) : kept (onTempRecovered k temp s) = kept s := by simp [onTempRecovered]
@[simp] theorem onXcheck_kept (edges : Nat) (s : State) : kept (onXcheck edges s) = kept s := by simp [onXcheck]
@[simp] theorem closeSafe_kept (n : Nat) (l : LostRange) (s : State) : kept (closeSafe n l s) = kept s := by simp [closeSafe]
@[simp] theorem closeOpenCapture_kept (s : State) (u : Nat) : kept (closeOpenCapture s u) = kept s := by
  unfold closeOpenCapture
  split <;> simp
@[simp] theorem safeCloses_kept (s : State) : kept (safeCloses s) = kept s := by
  unfold safeCloses
  simp only [kept_mk]
  rw [kept_eta, kept_foldl]
  · rw [kept_foldl _ closeOpenCapture_kept]
    simp
  · intro t x
    split <;> simp
@[simp] theorem onSafeClose_kept (s : State) : kept (onSafeClose s) = kept s := by simp [onSafeClose]
@[simp] theorem outputOff_kept (s : State) (n : Nat) : kept (outputOff s n) = kept s := by simp [outputOff]
@[simp] theorem leaveSafe_kept (s : State) : kept (leaveSafe s) = kept s := by
  simp only [leaveSafe]
  (repeat' split) <;> simp [kept_foldl]

end Sys2Proof.Machine
end

