-- ==== Sys2Proof/Laws/KeptBoot.lean ====
section
/-! SUPPORT. What the operations of the pairs, the boundary, record closes, boot and update keep: the boot and update state and the queue (`kept`), or, where an operation
changes other boot state, the boot flash and the queue. -/

namespace Sys2Proof.Machine

/-! ### Slots -/

@[simp] theorem putReq_kept (r : Requester) (x : ReqState) (s : State) : kept (putReq r x s) = kept s := by
  unfold putReq
  split <;> simp
@[simp] theorem putBcb_flash (f : BootBlock → BootBlock) (s : State) : (kept (putBcb f s)).1.flash = (kept s).1.flash := by simp [putBcb, kept_at]
@[simp] theorem putBcb_queue (f : BootBlock → BootBlock) (s : State) : (kept (putBcb f s)).2 = (kept s).2 := by simp [putBcb, kept_at]
@[simp] theorem putSlot_flash (n st : Nat) (s : State) : (kept (putSlot n st s)).1.flash = (kept s).1.flash := by simp [putSlot]
@[simp] theorem putSlot_queue (n st : Nat) (s : State) : (kept (putSlot n st s)).2 = (kept s).2 := by simp [putSlot]
@[simp] theorem sessionEvent_kept (what : Nat) (s : State) : kept (sessionEvent what s) = kept s := by
  unfold sessionEvent
  split <;> simp
@[simp] theorem endSession_flash (what : Nat) (s : State) : (kept (endSession what s)).1.flash = (kept s).1.flash := by simp [endSession, kept_at]
@[simp] theorem endSession_queue (what : Nat) (s : State) : (kept (endSession what s)).2 = (kept s).2 := by simp [endSession, kept_at]
@[simp] theorem opEnds_kept (hdr : Option CmdHdr) (req : Option Requester) (op : Nat) (r : Reply) (s : State) :
    kept (opEnds hdr req op r s) = kept s := by
  unfold opEnds
  (repeat' split) <;> simp
@[simp] theorem startTrial_flash (s : State) : (kept (startTrial s)).1.flash = (kept s).1.flash := by
  unfold startTrial
  split <;> simp [kept_at]
@[simp] theorem startTrial_queue (s : State) : (kept (startTrial s)).2 = (kept s).2 := by
  unfold startTrial
  split <;> simp [kept_at]
@[simp] theorem hubReset_flash (s : State) : (kept (hubReset s)).1.flash = (kept s).1.flash := by simp [hubReset, kept_at]
@[simp] theorem hubReset_queue (s : State) : (kept (hubReset s)).2 = (kept s).2 := by simp [hubReset, kept_at]

/-! ### Pairs -/

@[simp] theorem putPair_kept (p : Pair) (r : PairRun) (s : State) : kept (putPair p r s) = kept s := by
  unfold putPair
  split <;> simp
@[simp] theorem setPair_kept (p : Pair) (st : PairState) (s : State) : kept (setPair p st s) = kept s := by simp [setPair]
@[simp] theorem loseStaged_kept (n : Nat) (s : State) : kept (loseStaged n s) = kept s := by
  simp only [loseStaged]
  (repeat' split) <;> simp
@[simp] theorem dropStaging_kept (s : State) : kept (dropStaging s) = kept s := by simp [dropStaging, kept_foldl]
@[simp] theorem fencePair_kept (p : Pair) (cause : Nat) (s : State) : kept (fencePair p cause s) = kept s := by simp [fencePair]
@[simp] theorem startStandby_kept (p : Pair) (s : State) : kept (startStandby p s) = kept s := by simp [startStandby]
@[simp] theorem drillEnds_kept (active : Pair) (result micros : Nat) (s : State) : kept (drillEnds active result micros s) = kept s := by
  unfold drillEnds
  split <;> simp
@[simp] theorem commitEnds_flash (done : Bool) (micros : Nat) (s : State) : (kept (commitEnds done micros s)).1.flash = (kept s).1.flash := by
  unfold commitEnds
  (repeat' split) <;> simp [kept_at]
@[simp] theorem commitEnds_queue (done : Bool) (micros : Nat) (s : State) : (kept (commitEnds done micros s)).2 = (kept s).2 := by
  unfold commitEnds
  (repeat' split) <;> simp [kept_at]
@[simp] theorem catchUp_kept (s : State) : kept (catchUp s) = kept s := by simp [catchUp]
@[simp] theorem drillFails_flash (p : Pair) (s : State) : (kept (drillFails p s)).1.flash = (kept s).1.flash := by
  simp only [drillFails]
  (repeat' split) <;> simp
@[simp] theorem drillFails_queue (p : Pair) (s : State) : (kept (drillFails p s)).2 = (kept s).2 := by
  simp only [drillFails]
  (repeat' split) <;> simp
@[simp] theorem onFence_flash (cause : Nat) (s : State) : (kept (onFence cause s)).1.flash = (kept s).1.flash := by
  unfold onFence
  (repeat' split) <;> simp
@[simp] theorem onFence_queue (cause : Nat) (s : State) : (kept (onFence cause s)).2 = (kept s).2 := by
  unfold onFence
  (repeat' split) <;> simp
@[simp] theorem onWatchdog_flash (s : State) : (kept (onWatchdog s)).1.flash = (kept s).1.flash := by
  unfold onWatchdog
  split <;> simp
@[simp] theorem onWatchdog_queue (s : State) : (kept (onWatchdog s)).2 = (kept s).2 := by
  unfold onWatchdog
  split <;> simp
@[simp] theorem takeCheckpoint_kept (written : Bool) (s : State) : kept (takeCheckpoint written s) = kept s := by simp [takeCheckpoint]
@[simp] theorem onCheckpoint_kept (written : Bool) (badAddr : Nat) (s : State) : kept (onCheckpoint written badAddr s) = kept s := by
  unfold onCheckpoint
  split <;> simp
@[simp] theorem takeLease_kept (r : Role) (k : LeaseRun) (s : State) : kept (takeLease r k s) = kept s := by
  unfold takeLease
  (repeat' split) <;> simp
@[simp] theorem loadCheckpoint_kept (slot : Nat) (s : State) : kept (loadCheckpoint slot s) = kept s := by
  unfold loadCheckpoint
  (repeat' split) <;> simp
@[simp] theorem abortCommand_kept (h : CmdHdr) (op : Nat) (s : State) : kept (abortCommand h op s) = kept s := by simp [abortCommand]
@[simp] theorem settleHanded_kept (s : State) : kept (settleHanded s) = kept s := by simp [settleHanded, kept_foldl]
@[simp] theorem settleUpdate_flash (s : State) : (kept (settleUpdate s)).1.flash = (kept s).1.flash := by
  simp only [settleUpdate]
  (repeat' split) <;> simp [kept_at]
@[simp] theorem settleUpdate_queue (s : State) : (kept (settleUpdate s)).2 = (kept s).2 := by
  simp only [settleUpdate]
  (repeat' split) <;> simp [kept_at]
@[simp] theorem resendForwarded_kept (s : State) : kept (resendForwarded s) = kept s := by simp [resendForwarded, kept_foldl]
@[simp] theorem resume_flash (p : Pair) (slot : Nat × Nat) (micros : Nat) (s : State) :
    (kept (resume p slot micros s)).1.flash = (kept s).1.flash := by
  simp only [resume]
  (repeat' split) <;> simp
@[simp] theorem resume_queue (p : Pair) (slot : Nat × Nat) (micros : Nat) (s : State) : (kept (resume p slot micros s)).2 = (kept s).2 := by
  simp only [resume]
  (repeat' split) <;> simp
@[simp] theorem runNewImage_flash (s : State) : (kept (runNewImage s)).1.flash = (kept s).1.flash := by
  unfold runNewImage
  split <;> simp [kept_at]
@[simp] theorem runNewImage_queue (s : State) : (kept (runNewImage s)).2 = (kept s).2 := by
  unfold runNewImage
  split <;> simp [kept_at]
@[simp] theorem takeoverFails_flash (p : Pair) (s : State) : (kept (takeoverFails p s)).1.flash = (kept s).1.flash := by
  unfold takeoverFails
  split <;> simp
@[simp] theorem takeoverFails_queue (p : Pair) (s : State) : (kept (takeoverFails p s)).2 = (kept s).2 := by
  unfold takeoverFails
  split <;> simp
@[simp] theorem onStartingTimeout_flash (s : State) : (kept (onStartingTimeout s)).1.flash = (kept s).1.flash := by
  simp only [onStartingTimeout]
  (repeat' split) <;> simp
@[simp] theorem onStartingTimeout_queue (s : State) : (kept (onStartingTimeout s)).2 = (kept s).2 := by
  simp only [onStartingTimeout]
  (repeat' split) <;> simp
@[simp] theorem onTakeover_flash (r : TakeoverRead) (s : State) : (kept (onTakeover r s)).1.flash = (kept s).1.flash := by
  simp only [onTakeover]
  (repeat' split) <;> simp
@[simp] theorem onTakeover_queue (r : TakeoverRead) (s : State) : (kept (onTakeover r s)).2 = (kept s).2 := by
  simp only [onTakeover]
  (repeat' split) <;> simp
@[simp] theorem onFenceHoldEnd_kept (p : Pair) (s : State) : kept (onFenceHoldEnd p s) = kept s := by simp [onFenceHoldEnd]
@[simp] theorem pairTested_kept (p : Pair) (o : SelfTest) (s : State) : kept (pairTested p o s) = kept s := by
  unfold pairTested
  split <;> simp
@[simp] theorem onSelftestEnd_flash (p : Pair) (o : SelfTest) (s : State) : (kept (onSelftestEnd p o s)).1.flash = (kept s).1.flash := by
  simp only [onSelftestEnd]
  (repeat' split) <;> simp
@[simp] theorem onSelftestEnd_queue (p : Pair) (o : SelfTest) (s : State) : (kept (onSelftestEnd p o s)).2 = (kept s).2 := by
  simp only [onSelftestEnd]
  (repeat' split) <;> simp
@[simp] theorem beginQuiesce_kept (s : State) : kept (beginQuiesce s) = kept s := by simp [beginQuiesce]
@[simp] theorem onQuiesced_kept (s : State) : kept (onQuiesced s) = kept s := by simp [onQuiesced]
@[simp] theorem onQuiesceTimeout_kept (s : State) : kept (onQuiesceTimeout s) = kept s := by simp [onQuiesceTimeout]
@[simp] theorem drillHalt_kept (s : State) : kept (drillHalt s) = kept s := by
  unfold drillHalt
  (repeat' split) <;> simp

/-! ### Changes -/

@[simp] theorem dueChange_kept (b c : Nat) (exc : Bool) (s : State) : kept (dueChange b c exc s) = kept s := by simp [dueChange]
@[simp] theorem changeRail_kept (b : Nat) (old : Settings) (s : State) (e : Nat) : kept (changeRail b old s e) = kept s := by simp [changeRail, kept_foldl]
@[simp] theorem changeDyn_kept (b : Nat) (old : Settings) (s : State) (c : Nat) : kept (changeDyn b old s c) = kept s := by
  simp only [changeDyn]
  (repeat' split) <;> simp [kept_foldl]
@[simp] theorem copySettings_kept (b : Nat) (s : State) : kept (copySettings b s) = kept s := by simp [copySettings]
@[simp] theorem changeSettings_kept (b : Nat) (s : State) : kept (changeSettings b s) = kept s := by simp [changeSettings, kept_foldl]
@[simp] theorem stepSettings_kept (b : Nat) (s : State) : kept (stepSettings b s) = kept s := by simp [stepSettings, kept_foldl]
@[simp] theorem dropAllRuns_kept (s : State) : kept (dropAllRuns s) = kept s := by simp [dropAllRuns]
@[simp] theorem stopNow_kept (b : Nat) (s : State) : kept (stopNow b s) = kept s := by simp [stopNow, kept_foldl]
@[simp] theorem startNow_kept (b : Nat) (s : State) : kept (startNow b s) = kept s := by simp [startNow, kept_foldl]
@[simp] theorem startBoundary_kept (b : Nat) (s : State) : kept (startBoundary b s) = kept s := by
  unfold startBoundary
  (repeat' split) <;> simp [kept_foldl]
@[simp] theorem syncBoundary_kept (b : Nat) (s : State) : kept (syncBoundary b s) = kept s := by
  unfold syncBoundary
  split <;> simp [kept_foldl]
@[simp] theorem commandResets_kept (b : Nat) (s : State) : kept (commandResets b s) = kept s := by simp [commandResets, kept_foldl]
@[simp] theorem changeResets_kept (b : Nat) (s : State) : kept (changeResets b s) = kept s := by simp [changeResets, kept_foldl]
@[simp] theorem stepResets_kept (b : Nat) (s : State) : kept (stepResets b s) = kept s := by simp [stepResets, kept_foldl]
@[simp] theorem boundaryCompletions_kept (s : State) : kept (boundaryCompletions s) = kept s := by simp [boundaryCompletions, kept_foldl]
@[simp] theorem outputBoundary_kept (s : State) : kept (outputBoundary s) = kept s := by simp [outputBoundary, kept_foldl]

/-! ### Boundary -/

@[simp] theorem processGathered_kept (s : State) : kept (processGathered s) = kept s := by
  unfold processGathered
  split <;> simp
@[simp] theorem closesDue_kept (s : State) : kept (closesDue s) = kept s := by simp [closesDue]
@[simp] theorem takeIncrement_kept (s : State) : kept (takeIncrement s) = kept s := by
  unfold takeIncrement
  split <;> simp
@[simp] theorem moveEnds_kept (d : Int) (s : State) : kept (moveEnds d s) = kept s := by simp [moveEnds]
@[simp] theorem cutRuns_kept (b : Nat) (s : State) : kept (cutRuns b s) = kept s := by simp [cutRuns]
@[simp] theorem newGrid_kept (t2 : Nat) (s : State) : kept (newGrid t2 s) = kept s := by simp [newGrid]
@[simp] theorem oldTimeEnds_kept (b t2 : Nat) (s : State) : kept (oldTimeEnds b t2 s) = kept s := by simp [oldTimeEnds, kept_foldl]
@[simp] theorem largeStep_kept (b t2 : Nat) (s0 : State) : kept (largeStep b t2 s0) = kept s0 := by simp [largeStep, kept_foldl]
@[simp] theorem smallStep_kept (s : State) : kept (smallStep s) = kept s := by simp [smallStep]
@[simp] theorem unitsAtBoundary_kept (b : Nat) (s : State) : kept (unitsAtBoundary b s) = kept s := by simp [unitsAtBoundary, kept_foldl]
@[simp] theorem settleBuffer_kept (firsts : List Nat) (s : State) : kept (settleBuffer firsts s) = kept s := by
  unfold settleBuffer
  split <;> simp
@[simp] theorem openFret_kept (b : Nat) (late : Option FretBuf) (s : State) : kept (openFret b late s) = kept s := by
  unfold openFret
  extract_lets firsts s1 s2 src s3 new first held src4 s4 src5 s5 s6 s7 s8
  have h1 : kept s1 = kept s := changeSettings_kept b s
  have h2 : kept s2 = kept s := by simp [s2, h1]
  have h3 : kept s3 = kept s := by simp [s3, h2]
  have h4 : kept s4 = kept s := by simp [s4, h3]
  have h5 : kept s5 = kept s := by simp [s5, h4]
  simp [s8, s7, s6, h5]
@[simp] theorem safeBoundary_kept (b : Nat) (entered : Bool) (s : State) : kept (safeBoundary b entered s) = kept s := by
  unfold safeBoundary
  extract_lets f g t
  have h : kept t = kept s := by simp [t]
  split <;> simp [h]
@[simp] theorem overrunBuffers_kept (b : Nat) (s : State) : kept (overrunBuffers b s) = kept s := by simp [overrunBuffers]
@[simp] theorem onBoundary_kept (late : Bool) (s : State) : kept (onBoundary late s) = kept s := by
  unfold onBoundary
  split
  · rfl
  · extract_lets b s1 f s2 was s3 x f2 cut w s4 q
    have h2 : kept s2 = kept s := by simp [s2, s1]
    have h3 : kept s3 = kept s := by
      simp [s3, h2]
    have hc : kept s4 = kept s := by simp [s4, cut, h3]
    split
    · simp [h3]
    · split <;> simp [q, hc]

/-! ### RecordClose -/

@[simp] theorem historyBlock_kept (lane fret era : Nat) (b : Option Block) (s : State) : kept (historyBlock lane fret era b s) = kept s := by
  unfold historyBlock
  split <;> simp
@[simp] theorem writeHistory_kept (x : FretBuf) (s : State) : kept (writeHistory x s) = kept s := by simp [writeHistory, kept_foldl]
@[simp] theorem closeData_kept (n type stamp flags aux : Nat) (x : FretBuf) (bs : List (Block × Option Nat)) (s : State) :
    kept (closeData n type stamp flags aux x bs s) = kept s := by simp [closeData]
@[simp] theorem closeSample_kept (n : Nat) (x : FretBuf) (s : State) : kept (closeSample n x s) = kept s := by
  simp only [closeSample]
  (repeat' split) <;> simp
@[simp] theorem closeScan_kept (n : Nat) (x : FretBuf) (s : State) : kept (closeScan n x s) = kept s := by simp [closeScan]
@[simp] theorem closePolled_kept (n : Nat) (x : FretBuf) (s : State) : kept (closePolled n x s) = kept s := by
  simp only [closePolled]
  (repeat' split) <;> simp
@[simp] theorem closeEvents_kept (x : FretBuf) (s : State) (n : Nat) : kept (closeEvents x s n) = kept s := by simp [closeEvents, kept_foldl]
@[simp] theorem closeStream_kept (x : FretBuf) (s : State) (n : Nat) : kept (closeStream x s n) = kept s := by simp [closeStream, kept_foldl]
@[simp] theorem feedOutputs_kept (x : FretBuf) (s : State) : kept (feedOutputs x s) = kept s := by simp [feedOutputs, kept_foldl]
@[simp] theorem closeFret_kept (s : State) (x : FretBuf) : kept (closeFret s x) = kept s := by simp [closeFret, kept_foldl]
@[simp] theorem onRecordClose_kept (s : State) : kept (onRecordClose s) = kept s := by simp [onRecordClose, kept_foldl]
@[simp] theorem onEpochDue_kept (s : State) : kept (onEpochDue s) = kept s := by
  simp only [onEpochDue]
  (repeat' split) <;> simp

/-! ### BootUpdate -/

@[simp] theorem trySlot_flash (n : Nat) (valid : Bool) (s : State) : (kept (trySlot n valid s).2).1.flash = (kept s).1.flash := by
  simp only [trySlot]
  (repeat' split) <;> simp
@[simp] theorem trySlot_queue (n : Nat) (valid : Bool) (s : State) : (kept (trySlot n valid s).2).2 = (kept s).2 := by
  simp only [trySlot]
  (repeat' split) <;> simp
@[simp] theorem chooseSlot_flash (f : BootFindings) (s : State) : (kept (chooseSlot f s).2).1.flash = (kept s).1.flash := by
  simp only [chooseSlot]
  (repeat' split) <;> simp
@[simp] theorem chooseSlot_queue (f : BootFindings) (s : State) : (kept (chooseSlot f s).2).2 = (kept s).2 := by
  simp only [chooseSlot]
  (repeat' split) <;> simp
@[simp] theorem bootStep_kept (row slot micros : Nat) (s : State) : kept (bootStep row slot micros s) = kept s := by simp [bootStep]
@[simp] theorem bootTest_kept (p : Pair) (passes : Bool) (s : State) : kept (bootTest p passes s) = kept s := by simp [bootTest]
@[simp] theorem bootPairs_kept (f : BootFindings) (s : State) : kept (bootPairs f s) = kept s := by simp [bootPairs]
@[simp] theorem beginBoot_flash (f : BootFindings) (s : State) : (kept (beginBoot f s)).1.flash = (kept s).1.flash := by
  unfold beginBoot
  extract_lets b s1 s2
  have h : (kept s2).1.flash = (kept s).1.flash := by simp [s2, s1, b, kept_at]
  split
  · exact h
  · have c := chooseSlot_flash f s2
    split <;> rename_i w <;> (rw [w] at c; simp_all [kept_at])
@[simp] theorem beginBoot_queue (f : BootFindings) (s : State) : (kept (beginBoot f s)).2 = (kept s).2 := by
  unfold beginBoot
  extract_lets b s1 s2
  have h : (kept s2).2 = (kept s).2 := by simp [s2, s1, b, kept_at]
  split
  · exact h
  · have c := chooseSlot_queue f s2
    split <;> rename_i w <;> (rw [w] at c; simp_all [kept_at])
@[simp] theorem onResetRelease_flash (f : BootFindings) (s : State) : (kept (onResetRelease f s)).1.flash = (kept s).1.flash := by
  unfold onResetRelease
  (repeat' split) <;> simp
@[simp] theorem onResetRelease_queue (f : BootFindings) (s : State) : (kept (onResetRelease f s)).2 = (kept s).2 := by
  unfold onResetRelease
  (repeat' split) <;> simp
@[simp] theorem bootDram_kept (f : BootFindings) (s : State) : kept (bootDram f s) = kept s := by simp [bootDram]
@[simp] theorem bootOspi_kept (f : BootFindings) (s : State) : kept (bootOspi f s) = kept s := by simp [bootOspi]
@[simp] theorem bootSettings_kept (b : BoardTable) (s : State) : kept (bootSettings b s) = kept s := by simp [bootSettings]
@[simp] theorem bootDies_kept (f : BootFindings) (s : State) : kept (bootDies f s) = kept s := by
  unfold bootDies
  simp
  (repeat' split) <;> simp
@[simp] theorem bootActive_kept (f : BootFindings) (s : State) : kept (bootActive f s) = kept s := by
  unfold bootActive
  split <;> simp
@[simp] theorem bootSteps_kept (slot : Nat) (times : List Nat) (s : State) : kept (bootSteps slot times s) = kept s := by simp [bootSteps, kept_foldl]
@[simp] theorem finishBoot_flash (f : BootFindings) (s : State) : (kept (finishBoot f s)).1.flash = (kept s).1.flash := by
  simp only [finishBoot]
  (repeat' split) <;> simp [kept_at]
@[simp] theorem finishBoot_queue (f : BootFindings) (s : State) : (kept (finishBoot f s)).2 = (kept s).2 := by
  simp only [finishBoot]
  (repeat' split) <;> simp [kept_at]
@[simp] theorem onBootComplete_flash (s : State) : (kept (onBootComplete s)).1.flash = (kept s).1.flash := by
  unfold onBootComplete
  split <;> simp
@[simp] theorem onBootComplete_queue (s : State) : (kept (onBootComplete s)).2 = (kept s).2 := by
  unfold onBootComplete
  split <;> simp
@[simp] theorem openSession_flash (w : Nat × Nat) (length : Nat) (s : State) :
    (kept (openSession w length s)).1.flash = (kept s).1.flash := by simp [openSession, kept_at]
@[simp] theorem openSession_queue (w : Nat × Nat) (length : Nat) (s : State) : (kept (openSession w length s)).2 = (kept s).2 := by simp [openSession, kept_at]
@[simp] theorem dropSession_flash (what : Nat) (s : State) : (kept (dropSession what s)).1.flash = (kept s).1.flash := by
  unfold dropSession
  split <;> simp
@[simp] theorem dropSession_queue (what : Nat) (s : State) : (kept (dropSession what s)).2 = (kept s).2 := by
  unfold dropSession
  split <;> simp
@[simp] theorem onSessionExpiry_flash (s : State) : (kept (onSessionExpiry s)).1.flash = (kept s).1.flash := by
  unfold onSessionExpiry
  (repeat' split) <;> simp
@[simp] theorem onSessionExpiry_queue (s : State) : (kept (onSessionExpiry s)).2 = (kept s).2 := by
  unfold onSessionExpiry
  (repeat' split) <;> simp
@[simp] theorem renewSession_flash (s : State) : (kept (renewSession s)).1.flash = (kept s).1.flash := by simp [renewSession, kept_at]
@[simp] theorem renewSession_queue (s : State) : (kept (renewSession s)).2 = (kept s).2 := by simp [renewSession, kept_at]
@[simp] theorem runWrites_flash : ∀ (l : List FlashOp) (s : State), (kept (runWrites l s)).1.flash = (kept s).1.flash
  | [], s => by simp [runWrites, kept_at]
  | o :: rest, s => by
    unfold runWrites
    split
    · rw [runWrites_flash rest]
      simp [apply_ite kept, apply_ite Prod.fst, apply_ite Boot.flash]
    · simp [kept_at]
@[simp] theorem runWrites_queue : ∀ (l : List FlashOp) (s : State), (kept (runWrites l s)).2 = (kept s).2
  | [], s => by simp [runWrites, kept_at]
  | o :: rest, s => by
    unfold runWrites
    split
    · rw [runWrites_queue rest]
      simp [apply_ite kept, apply_ite Prod.snd]
    · simp [kept_at]
@[simp] theorem addWrite_flash (o : FlashOp) (s : State) : (kept (addWrite o s)).1.flash = (kept s).1.flash := by
  unfold addWrite
  split <;> simp [kept_at]
@[simp] theorem addWrite_queue (o : FlashOp) (s : State) : (kept (addWrite o s)).2 = (kept s).2 := by
  unfold addWrite
  split <;> simp [kept_at]
@[simp] theorem flashError_kept (cause addr : Nat) (s : State) : kept (flashError cause addr s) = kept s := by simp [flashError]
@[simp] theorem onProgramDone_queue (e : FlashEnd) (s : State) : (kept (onProgramDone e s)).2 = (kept s).2 := by
  unfold onProgramDone
  (repeat' split) <;> simp [kept_at]
@[simp] theorem commitResets_flash (c : Commit) (s : State) : (kept (commitResets c s)).1.flash = (kept s).1.flash := by simp [commitResets, kept_at]
@[simp] theorem commitResets_queue (c : Commit) (s : State) : (kept (commitResets c s)).2 = (kept s).2 := by simp [commitResets, kept_at]
@[simp] theorem advanceCommit_flash (s : State) : (kept (advanceCommit s)).1.flash = (kept s).1.flash := by
  unfold advanceCommit
  (repeat' split) <;> simp
@[simp] theorem advanceCommit_queue (s : State) : (kept (advanceCommit s)).2 = (kept s).2 := by
  unfold advanceCommit
  (repeat' split) <;> simp
@[simp] theorem startCommit_flash (activate : Nat) (f : ImageFacts) (hdr : Option CmdHdr) (req : Option Requester) (s : State) :
    (kept (startCommit activate f hdr req s)).1.flash = (kept s).1.flash := by simp [startCommit, kept_at]
@[simp] theorem startCommit_queue (activate : Nat) (f : ImageFacts) (hdr : Option CmdHdr) (req : Option Requester) (s : State) :
    (kept (startCommit activate f hdr req s)).2 = (kept s).2 := by simp [startCommit, kept_at]
@[simp] theorem onReloadEnd_flash (k : Nat) (s : State) : (kept (onReloadEnd k s)).1.flash = (kept s).1.flash := by
  simp only [onReloadEnd]
  (repeat' split) <;> simp [kept_at]
@[simp] theorem onReloadEnd_queue (k : Nat) (s : State) : (kept (onReloadEnd k s)).2 = (kept s).2 := by
  simp only [onReloadEnd]
  (repeat' split) <;> simp [kept_at]
@[simp] theorem confirm_flash (s : State) : (kept (confirm s)).1.flash = (kept s).1.flash := by
  unfold confirm
  split <;> simp [kept_at]
@[simp] theorem confirm_queue (s : State) : (kept (confirm s)).2 = (kept s).2 := by
  unfold confirm
  split <;> simp [kept_at]
@[simp] theorem onTrialExpiry_flash (s : State) : (kept (onTrialExpiry s)).1.flash = (kept s).1.flash := by
  unfold onTrialExpiry
  (repeat' split) <;> simp [kept_at]
@[simp] theorem onTrialExpiry_queue (s : State) : (kept (onTrialExpiry s)).2 = (kept s).2 := by
  unfold onTrialExpiry
  (repeat' split) <;> simp [kept_at]
@[simp] theorem setLock_flash (lock guard_ key : Nat) (s : State) : (kept (setLock lock guard_ key s)).1.flash = (kept s).1.flash := by
  simp only [setLock]
  (repeat' split) <;> simp
@[simp] theorem setLock_queue (lock guard_ key : Nat) (s : State) : (kept (setLock lock guard_ key s)).2 = (kept s).2 := by
  simp only [setLock]
  (repeat' split) <;> simp
theorem updCmd_flash (req : Requester) (op : Nat) (chk : State → Option Reply) (eff : State → State) (s : State)
    (e : ∀ t, (kept (eff t)).1.flash = (kept t).1.flash) : (kept (updCmd req op chk eff s)).1.flash = (kept s).1.flash := by
  unfold updCmd
  split
  · rfl
  · extract_lets q t
    split <;> simp [e, t]
theorem updCmd_queue (req : Requester) (op : Nat) (chk : State → Option Reply) (eff : State → State) (s : State)
    (e : ∀ t, (kept (eff t)).2 = (kept t).2) : (kept (updCmd req op chk eff s)).2 = (kept s).2 := by
  unfold updCmd
  split
  · rfl
  · extract_lets q t
    split <;> simp [e, t]

end Sys2Proof.Machine
end

