-- ==== Sys2Proof/Laws/KeptHost.lean ====
section
/-! SUPPORT. What the operations of the host rings, the registers and the local ports keep: the boot and update state and the queue (`kept`), or, where an operation
changes other boot state, the boot flash and the queue. -/

namespace Sys2Proof.Machine

/-! ### HostRings -/

@[simp] theorem onPerstRelease_kept (s : State) : kept (onPerstRelease s) = kept s := by simp [onPerstRelease]
@[simp] theorem onPcieReset_kept (s : State) : kept (onPcieReset s) = kept s := by simp [onPcieReset]
@[simp] theorem onDoorbell_kept (r idx : Nat) (s : State) : kept (onDoorbell r idx s) = kept s := by simp [onDoorbell]
@[simp] theorem passDescriptor_kept (r : Nat) (s : State) : kept (passDescriptor r s) = kept s := by simp [passDescriptor]
@[simp] theorem answerAtOnce_kept (h : CmdHdr) (op : Nat) (rep : Reply) (s : State) : kept (answerAtOnce h op rep s) = kept s := by simp [answerAtOnce]
@[simp] theorem handOver_kept (h : CmdHdr) (op : Nat) (s : State) : kept (handOver h op s) = kept s := by simp [handOver]
@[simp] theorem forward_kept (h : CmdHdr) (op hub : Nat) (d data : List Byte) (s : State) : kept (forward h op hub d data s) = kept s := by simp [forward]
@[simp] theorem takeDescriptor_kept (r : Nat) (d data : List Byte) (readable : Bool) (s : State) :
    kept (takeDescriptor r d data readable s) = kept s := by
  simp only [takeDescriptor]
  (repeat' split) <;> simp
@[simp] theorem onFetch_kept (r : Nat) (d data : List Byte) (readable : Bool) (s : State) : kept (onFetch r d data readable s) = kept s := by simp [onFetch]
@[simp] theorem onCompletionWrite_kept (s : State) : kept (onCompletionWrite s) = kept s := by
  simp only [onCompletionWrite]
  (repeat' split) <;> simp
@[simp] theorem putQueue_kept (r : Nat) (q : Queue) (s : State) : kept (putQueue r q s) = kept s := by simp [putQueue]
@[simp] theorem onQueueDma_kept (r : Nat) (s : State) : kept (onQueueDma r s) = kept s := by
  simp only [onQueueDma]
  (repeat' split) <;> simp
@[simp] theorem onPop_kept (req : Requester) (r : Nat) (s : State) : kept (onPop req r s) = kept s := by
  simp only [onPop]
  (repeat' split) <;> simp
@[simp] theorem onFlush_kept (r : Nat) (s : State) : kept (onFlush r s) = kept s := by simp [onFlush]
@[simp] theorem stopRing_kept (r : Nat) (s : State) : kept (stopRing r s) = kept s := by simp [stopRing]
@[simp] theorem onFlushed_kept (r : Nat) (s : State) : kept (onFlushed r s) = kept s := by simp [onFlushed]
@[simp] theorem onDmaFailure_kept (r : Nat) (s : State) : kept (onDmaFailure r s) = kept s := by simp [onDmaFailure]
@[simp] theorem startRing_kept (r : Nat) (new : HostRing) (s : State) : kept (startRing r new s) = kept s := by simp [startRing]
@[simp] theorem onStart_kept (s : State) : kept (onStart s) = kept s := by
  unfold onStart
  simp
  (repeat' split) <;> simp

/-! ### Registers -/

@[simp] theorem latchRead_kept (req : Requester) (off : Nat) (s : State) : kept (latchRead req off s) = kept s := by simp [latchRead]
@[simp] theorem setRead_kept (req : Requester) (off reg : Nat) (s : State) : kept (setRead req off reg s) = kept s := by simp [setRead]
@[simp] theorem readReg_kept (req : Requester) (off : Nat) (s : State) : kept (readReg req off s) = kept s := by
  unfold readReg
  (repeat' split) <;> simp
@[simp] theorem onMask_kept (g : Nat) (v : Word) (s : State) : kept (onMask g v s) = kept s := by simp [onMask, kept_foldl]
@[simp] theorem writeUpdCmd_flash (req : Requester) (v : Nat) (s : State) : (kept (writeUpdCmd req v s)).1.flash = (kept s).1.flash := by
  simp only [writeUpdCmd]
  (repeat' split) <;> first | rfl | (apply updCmd_flash; intro t; simp; try (split <;> simp))
@[simp] theorem writeUpdCmd_queue (req : Requester) (v : Nat) (s : State) : (kept (writeUpdCmd req v s)).2 = (kept s).2 := by
  simp only [writeUpdCmd]
  (repeat' split) <;> first | rfl | (apply updCmd_queue; intro t; simp; try (split <;> simp))
@[simp] theorem writeId_flash (req : Requester) (off v : Nat) (s : State) : (kept (writeId req off v s)).1.flash = (kept s).1.flash := by
  unfold writeId
  (repeat' split) <;> simp
@[simp] theorem writeId_queue (req : Requester) (off v : Nat) (s : State) : (kept (writeId req off v s)).2 = (kept s).2 := by
  unfold writeId
  (repeat' split) <;> simp
@[simp] theorem writeRing_kept (off v : Nat) (s : State) : kept (writeRing off v s) = kept s := by simp [writeRing]
@[simp] theorem writeTime_kept (req : Requester) (off v : Nat) (s : State) : kept (writeTime req off v s) = kept s := by simp [writeTime]
@[simp] theorem writeSafety_kept (off v : Nat) (s : State) : kept (writeSafety off v s) = kept s := by simp [writeSafety, kept_foldl]
@[simp] theorem writeLaneReg_kept (off v : Nat) (s : State) : kept (writeLaneReg off v s) = kept s := by simp [writeLaneReg]
@[simp] theorem writeMsix_kept (off v : Nat) (s : State) : kept (writeMsix off v s) = kept s := by simp [writeMsix]
@[simp] theorem writeReg_flash (req : Requester) (off v : Nat) (s : State) : (kept (writeReg req off v s)).1.flash = (kept s).1.flash := by
  unfold writeReg
  (repeat' split) <;> simp
@[simp] theorem writeReg_queue (req : Requester) (off v : Nat) (s : State) : (kept (writeReg req off v s)).2 = (kept s).2 := by
  unfold writeReg
  (repeat' split) <;> simp

/-! ### LocalPorts -/

@[simp] theorem onLineRead_kept (addr : Nat) (s : State) : kept (onLineRead addr s) = kept s := by simp [onLineRead]
@[simp] theorem countFrame_kept (viol : Bool) (s : State) : kept (countFrame viol s) = kept s := by simp [countFrame]
@[simp] theorem svcReads_kept : ∀ (last : Nat) (early l : List Nat) (off : Nat) (s : State), kept (svcReads last early l off s).2.2 = kept s
  | _, _, [], _, _ => rfl
  | last, early, i :: is, off, s => by
    simp only [svcReads]
    rw [svcReads_kept last early is]
    split <;> simp
@[simp] theorem onSvcRead_kept (h : Word) (early : List Nat) (s : State) : kept (onSvcRead h early s) = kept s := by simp [onSvcRead]
@[simp] theorem svcWrites_flash : ∀ (last : Nat) (l : List Word) (off : Nat) (s : State), (kept (svcWrites last l off s)).1.flash = (kept s).1.flash
  | _, [], _, _ => rfl
  | last, w :: ws, off, s => by
    simp only [svcWrites]
    rw [svcWrites_flash last ws]
    split <;> simp
@[simp] theorem svcWrites_queue : ∀ (last : Nat) (l : List Word) (off : Nat) (s : State), (kept (svcWrites last l off s)).2 = (kept s).2
  | _, [], _, _ => rfl
  | last, w :: ws, off, s => by
    simp only [svcWrites]
    rw [svcWrites_queue last ws]
    split <;> simp
@[simp] theorem onSvcWrite_flash (h : Word) (data : List Word) (crc : Nat) (whole early : Bool) (s : State) :
    (kept (onSvcWrite h data crc whole early s)).1.flash = (kept s).1.flash := by
  simp only [onSvcWrite]
  (repeat' split) <;> simp
@[simp] theorem onSvcWrite_queue (h : Word) (data : List Word) (crc : Nat) (whole early : Bool) (s : State) :
    (kept (onSvcWrite h data crc whole early s)).2 = (kept s).2 := by
  simp only [onSvcWrite]
  (repeat' split) <;> simp
@[simp] theorem onPpsRise_kept (s : State) : kept (onPpsRise s) = kept s := by simp [onPpsRise]

/-! ### Hub -/


end Sys2Proof.Machine
end

