-- ==== Sys2Proof/Laws/Table.lean ====
section
/-! SUPPORT. Reading a table after a write, and the form every write keeps: rising numbers, no entry that holds the default. -/

namespace Sys2Proof.Machine

variable {α : Type}

theorem tget_tinsert_same (d : α) (k : Nat) (v : α) : ∀ t : Table α, (∀ e ∈ t, e.1 ≠ k) → tget d (tinsert k v t) k = v
  | [], _ => by simp [tinsert, tget]
  | (j, w) :: rest, h => by
    have hj : j ≠ k := h (j, w) (List.mem_cons_self ..)
    unfold tinsert
    split
    · simp [tget]
    · simpa [tget, hj] using tget_tinsert_same d k v rest (fun e he => h e (List.mem_cons_of_mem _ he))

theorem tget_tinsert_other (d : α) (k i : Nat) (v : α) (n : i ≠ k) : ∀ t : Table α, tget d (tinsert k v t) i = tget d t i
  | [] => by simp [tinsert, tget, Ne.symm n]
  | (j, w) :: rest => by
    unfold tinsert
    split
    · simp [tget, Ne.symm n]
    · simp [tget, tget_tinsert_other d k i v n rest]

theorem tget_tdrop_same (d : α) (k : Nat) : ∀ t : Table α, tget d (tdrop t k) k = d
  | [] => rfl
  | (j, w) :: rest => by
    by_cases h : j = k
    · subst h
      simpa [tdrop] using tget_tdrop_same d j rest
    · have := tget_tdrop_same d k rest
      simp_all [tdrop, tget]

theorem tget_tdrop_other (d : α) (k i : Nat) (n : i ≠ k) : ∀ t : Table α, tget d (tdrop t k) i = tget d t i
  | [] => rfl
  | (j, w) :: rest => by
    have := tget_tdrop_other d k i n rest
    by_cases h : j = k
    · subst h
      simp_all [tdrop, tget, Ne.symm n]
    · simp_all [tdrop, tget]

/-- Entry `k` after a write of entry `k`. -/
@[simp] theorem tget_tput_same [DecidableEq α] (d : α) (t : Table α) (k : Nat) (v : α) : tget d (tput d t k v) k = v := by
  unfold tput
  split
  · rename_i h
    rw [h, tget_tdrop_same]
  · exact tget_tinsert_same d k v _ (fun e he => by simpa using (List.mem_filter.mp he).2)

/-- Every other entry after a write of entry `k`. -/
@[simp] theorem tget_tput_other [DecidableEq α] (d : α) (t : Table α) (k i : Nat) (v : α) (n : i ≠ k) :
    tget d (tput d t k v) i = tget d t i := by
  unfold tput
  split
  · exact tget_tdrop_other d k i n t
  · rw [tget_tinsert_other d k i v n, tget_tdrop_other d k i n t]

/-- The form of a table: rising numbers, no entry that holds the default. -/
def Table.canonical [DecidableEq α] (d : α) (t : Table α) : Prop := (t.map (·.1)).Pairwise (· < ·) ∧ ∀ e ∈ t, e.2 ≠ d

theorem mem_tinsert (k : Nat) (v : α) (e : Nat × α) : ∀ t : Table α, e ∈ tinsert k v t → e = (k, v) ∨ e ∈ t
  | [], h => by simpa [tinsert] using h
  | (j, w) :: rest, h => by
    unfold tinsert at h
    split at h
    · simpa using h
    · rcases List.mem_cons.mp h with h | h
      · exact .inr (h ▸ List.mem_cons_self ..)
      · rcases mem_tinsert k v e rest h with h | h
        · exact .inl h
        · exact .inr (List.mem_cons_of_mem _ h)

theorem tinsert_rises (k : Nat) (v : α) : ∀ t : Table α, (t.map (·.1)).Pairwise (· < ·) → (∀ e ∈ t, e.1 ≠ k) →
    ((tinsert k v t).map (·.1)).Pairwise (· < ·)
  | [], _, _ => by simp [tinsert]
  | (j, w) :: rest, h, n => by
    have hj : j ≠ k := n (j, w) (List.mem_cons_self ..)
    rw [List.map_cons, List.pairwise_cons] at h
    unfold tinsert
    split
    · rename_i lt
      simp only [List.map_cons, List.pairwise_cons]
      refine ⟨fun a ha => ?_, h.1, h.2⟩
      rcases List.mem_cons.mp ha with rfl | ha
      · exact lt
      · exact Nat.lt_trans lt (h.1 a ha)
    · rename_i ge
      rw [List.map_cons, List.pairwise_cons]
      refine ⟨fun a ha => ?_, tinsert_rises k v rest h.2 (fun e he => n e (List.mem_cons_of_mem _ he))⟩
      obtain ⟨e, he, rfl⟩ := List.mem_map.mp ha
      rcases mem_tinsert k v e rest he with rfl | he
      · show j < k
        omega
      · exact h.1 _ (List.mem_map.mpr ⟨e, he, rfl⟩)

/-- A write keeps the form of a table. -/
theorem tput_canonical [DecidableEq α] (d : α) (t : Table α) (k : Nat) (v : α) (h : Table.canonical d t) :
    Table.canonical d (tput d t k v) := by
  have sub : ((tdrop t k).map (·.1)).Pairwise (· < ·) := List.Pairwise.sublist (List.Sublist.map _ (List.filter_sublist ..)) h.1
  have val : ∀ e ∈ tdrop t k, e.2 ≠ d := fun e he => h.2 e (List.mem_filter.mp he).1
  unfold tput
  split
  · exact ⟨sub, val⟩
  · rename_i nd
    refine ⟨tinsert_rises k v _ sub (fun e he => by simpa using (List.mem_filter.mp he).2), fun e he => ?_⟩
    rcases mem_tinsert k v e _ he with rfl | he
    · exact nd
    · exact val e he

end Sys2Proof.Machine
end

