-- ==== Sys2Proof/WellFormed.lean ====
section
/-! DEFINITION. The numbers an operand may take: what exists in the hub (R37) and what fits the field that carries the
number (R387, R396 to R398). -/

namespace Sys2Proof

/-- A number in one byte. -/
def isByte (n : Nat) : Bool := decide (n < 256)
/-- A number in two bytes. -/
def isHalf (n : Nat) : Bool := decide (n < 65536)
/-- A number in four bytes. -/
def isWord (n : Nat) : Bool := decide (n < 4294967296)
/-- A signed number in four bytes. -/
def isInt32 (n : Int) : Bool := decide (-2147483648 ≤ n ∧ n < 2147483648)
/-- A signed number in one byte. -/
def isInt8 (n : Int) : Bool := decide (-128 ≤ n ∧ n < 128)
/-- A mask of dynamic channels given by its numbers, rising (R390). -/
def isMask (bound : Nat) (ns : List Nat) : Bool := ns.all (fun n => decide (n < bound)) && decide (ns.Pairwise (· < ·))

/-- A descriptor's header fields fit their places (R387). -/
def CmdHdr.wf (h : CmdHdr) : Bool :=
  isWord h.tag && decide (h.cplRing < 256) && decide (h.cmdRing < 128) && isHalf h.descIdx && isWord h.dataLen &&
  (match h.gateway with | none => true | some g => decide (g < 64))

/-- A channel code fits the CHAN encoding of R235. -/
def Chan.wf (c : Chan) : Bool := decide (c.num < 16384)

/-- A level of the modulator's quantiser (R182). -/
def isLevel (m : Int) : Bool := decide (-15 ≤ m ∧ m ≤ 15) && decide (m % 2 = 1)

/-- Readings for `n` gains, of a slice with its 15 thresholds or of a course (R185). -/
def CalReading.wf (slice : Bool) (n : Nat) (m : CalReading) : Bool := decide (m.gains.length = n) && (!slice || decide (m.splits.length = 15))

/-- What a slot measured: crossings in rising order, 1,024 samples or none (R151, R152). -/
def SlotMeas.wf (m : SlotMeas) : Bool :=
  decide (m.crossings.Pairwise (· < ·)) && (m.samples.isEmpty || decide (m.samples.length = 1024))

/-- A board table keeps to the settings of the boot flash that the hub has (R442, R445). -/
def BoardTable.wf (b : BoardTable) : Bool :=
  [2, 4, 8, 16].contains b.ospiDiv && decide (b.strobeFrom ≤ b.strobeTo) && decide (b.strobeTo < 64) && isByte b.ospiOpcode &&
    [b.tCss, b.tCsh, b.tCsd].all (fun n => decide (1 ≤ n ∧ n ≤ 16))

/-- A monitor's place exists (R37). -/
def WireSite.wf : WireSite → Bool
  | .channel c => c.wf
  | .rail e => decide (e < 16)
  | .course c => decide (c < 32)

/-- The operands of a command exist and fit their fields. -/
def Instr.wf : Instr → Bool
  | .decimatorOutput slice levels => decide (slice < 132) && !levels.isEmpty && levels.all isLevel
  | .modulatorOverload slice | .toneWindowEnd slice _ => decide (slice < 132)
  | .gpioEdge pin _ => decide (pin < 16)
  | .termExpiry comb => decide (comb < 16)
  | .captureClose unit | .rearmEnd unit | .fullToArmed unit | .autoTrigger unit => decide (unit < 8)
  | .sympatheticRx _ payload => decide (payload.length = 32)
  | .mergeWindowEnd group | .sympatheticFallback group => decide (group < 16)
  | .captureDataDeliver stream _ | .replayDeliver stream _ | .ringHoldResend stream => decide (stream < 128)
  | .railRegulationChange rail _ _ | .railCurrentLimitTimeout rail => decide (rail < 16)
  | .vexcHigh die v | .vexcLow die v | .vexcRecovered die v => decide (die < 4) && isHalf v
  | .openWireDetect _ site | .openWireClearTimeout _ site => site.wf
  | .sliceTestEnd die m => decide (die < 4) && m.wf true 1
  | .learningRunEnd die | .rotationCycleStart die | .rotationOutPeriodEnd die
  | .microcodeReloadEnd die | .dieLinkFault die => decide (die < 4)
  | .calSelfEnd die measured => decide (die < 4) && decide (measured.length = 41) &&
      (measured.take 33).all (·.wf true 8) && (measured.drop 33).all (·.wf false 8)
  | .tempDrift die temp => decide (die < 4) && isInt8 temp
  | .slotEnd course m => decide (course < 32) && m.wf
  | .statsRecordClose set _ | .rainflowRecordClose set _ | .spectrumRecordClose set _ => decide (set < 8)
  | .hubAbsentTimeout hub | .forwardRetryTimeout hub _ | .leaveMsgRx hub | .hsrSupervisionRx hub | .nodeForget hub
  | .creditReturnTimeout hub => decide (hub < 64)
  | .jorvaRecordRx hub stream _ _ => decide (hub < 64) && decide (stream < 128)
  | .reassemblyTimeout _ hub stream _ => decide (hub < 64) && decide (stream < 128)
  | .commandFrameRx gateway _ _ hdr => decide (gateway < 64) && hdr.wf
  | .completionFrameRx c => decide (c.hub < 64) && decide (c.result.length = 8)
  | .laneStageAdvance lane _ | .laneStageTimeout lane | .laneFaultRetry lane | .laneLockLoss lane _
  | .eyeScanComplete lane _ _ | .laneTestEnd lane _ _ | .prbsLockLost lane _ _
  | .readLaneErrLo _ lane => decide (lane < 6)
  | .prbsCheckerLock received => decide (received.lane < 6)
  | .ringDoorbell ring idx => decide (ring < 128) && isWord idx
  | .descriptorFetch ring descriptor _ _ => decide (ring < 128) && decide (descriptor.length = 64)
  | .queueEntryDma ring | .ringPop _ ring | .ringFlushRequest ring | .ringFlushComplete ring | .dmaReadFailure ring =>
    decide (ring < 128)
  | .evtMaskWrite group _ => decide (group < 8)
  | .shadowRead _ offset => decide (offset < 65536)
  | .registerWrite _ offset _ enables => decide (offset < 65536) && decide (enables < 32)
  | .hubSupplyFault supply _ => decide (supply < 6)
  | .hubSupplyRestored supply => decide (supply < 6)
  | .feSupplyFault supply _ => decide (6 ≤ supply ∧ supply < 14)
  | .tempHigh die _ | .tempRecovered die _ => decide (die < 5)
  | .sramUe which => decide (which < 65536)
  | .fpRequestSend port _ | .fpResponseComplete port _ _ | .fpResponseTimeout port | .fpSlotEnd port => decide (port < 8)
  | .valPeriodStart out | .valStaleTimeout out | .valTripHoldEnd out | .valFbFinding out _ | .valDiagClear out _ =>
    decide (out < 8)
  | .ospiLineRead addr | .ospiWindowWrite addr => isWord addr
  | .nop h | .hubInfo h | .acqStop h | .join h | .leave h | .topologyRead h | .memStatus h | .redSelftest h | .swapDrill h
  | .updAbort h | .healthConfirm h | .ptpSetTwin h | .fretSetTwin h | .memPartitionTwin h | .ringPortSetTwin h | .rosterSetTwin h
  | .roleSetTwin h | .gpioSetTwin h | .syncInSetTwin h | .ownerLockTwin h => h.wf
  | .acqStart h hasTarget target => h.wf && isByte hasTarget && isWord target
  | .resetHub h key => h.wf && isWord key
  | .counterRead h group => h.wf && isByte group
  | .timeSet h sec ns => h.wf && decide (sec < 281474976710656) && isWord ns
  | .timeAdjust h step freq => h.wf && isInt32 step && isInt32 freq
  | .timeAsym h port asym => h.wf && isByte port && isInt32 asym
  | .ptpSet h p => h.wf && isByte p.domain && isInt8 p.logSync && isInt8 p.logAnnounce && isInt8 p.logPdelay &&
      isByte p.priority1 && isByte p.priority2
  | .fretSet h period => h.wf && isByte period
  | .dynChanSet h p => h.wf && isMask 128 p.chans && isByte p.enable && isByte p.mode && isByte p.gain && isByte p.ref &&
      isByte p.tap && isByte p.iMin && isByte p.openWire && isByte p.tone
  | .railSet h rail voltage iLim => h.wf && isByte rail && isByte voltage && isByte iLim
  | .vexcSet h die nom => h.wf && isByte die && isByte nom
  | .dynChainSet h p => h.wf && isMask 128 p.chans && isByte p.chain && isByte p.osr && isWord p.m && isWord p.r &&
      isByte p.notch && isByte p.width
  | .courseSet h p => h.wf && isByte p.course && p.scan.all isByte && isByte p.slot && isByte p.vwSlot && isByte p.iLim &&
      isByte p.rounding && isByte p.realign && isByte p.driver
  | .scanChanSet h p => h.wf && isByte p.course && isMask 8 p.positions && isByte p.enable && isByte p.kind && isByte p.gain &&
      isByte p.ref && isByte p.exc && isByte p.iMin && isByte p.d && isHalf p.s && isByte p.openWire && isHalf p.sweepLo &&
      isHalf p.sweepHi && isByte p.listen
  | .courseRealign h course => h.wf && isByte course
  | .urgentRead h c => h.wf && c.wf
  | .courseResultRead h course => h.wf && isByte course
  | .syncResetCmd h p => h.wf && isByte p.scope && isByte p.die && isByte p.hasTarget && isWord p.target && isMask 128 p.chans
  | .spareSet h die auto rotation => h.wf && isByte die && isByte auto && isByte rotation
  | .spareSubst h c action => h.wf && c.wf && isByte action
  | .sliceTest h c keep => h.wf && c.wf && isByte keep
  | .dieIsolate h die action => h.wf && isByte die && isByte action
  | .bankWrite h c bank gain offset label => h.wf && c.wf && isByte bank && isInt32 gain && isInt32 offset && isWord label
  | .bankSwap h c target fade => h.wf && c.wf && isByte target && isHalf fade
  | .calSelf h dies => h.wf && isMask 8 dies
  | .calRead h die sets => h.wf && isByte die && isMask 64 sets
  | .calWrite h die sets blocks => h.wf && isByte die && isMask 64 sets && blocks.all (fun b => decide (b.length = 132))
  | .subscribe h p => h.wf && isByte p.stream && isByte p.type && isByte p.events && isByte p.align && isByte p.level &&
      isByte p.hostRing && isByte p.ring && isMask 2048 p.select
  | .unsubscribe h stream => h.wf && isByte stream
  | .recvSubscribe h srcHub stream hostRing action => h.wf && isByte srcHub && isByte stream && isByte hostRing && isByte action
  | .retrieve h p => h.wf && isByte p.stream && isByte p.dest && isByte p.hostRing && isWord p.firstSeq && isWord p.count
  | .streamStateRead h stream seq => h.wf && isByte stream && isWord seq
  | .ringConfig h p => h.wf && isByte p.ring && isByte p.type && isByte p.mode && isByte p.groups && isByte p.log2Size &&
      decide (p.base < 18446744073709551616) && isWord p.level
  | .condWrite h first entries => h.wf && isHalf first && entries.all (fun e => e.src.wf)
  | .combSet h p => h.wf && isByte p.comb && isByte p.mode && isHalf p.k && isWord p.w && isByte p.anchor && isWord p.holdoff &&
      isByte p.sympGroup && isByte p.event
  | .unitSet h p => h.wf && isByte p.unit && isByte p.source && isHalf p.select && isWord p.pre && isWord p.post &&
      isWord p.quota && isByte p.repeating && isWord p.auto && isByte p.policy && isByte p.chainMask && isByte p.stream &&
      isByte p.autoRelease
  | .arm h unit | .disarm h unit => h.wf && isByte unit
  | .captureTrigger h p => h.wf && isByte p.target && isByte p.index && isByte p.hasTime && decide (p.sec < 281474976710656) &&
      isWord p.ns
  | .captureRelease h unit captureNo => h.wf && isByte unit && isWord captureNo
  | .sympGroupSet h group mode wG => h.wf && isByte group && isByte mode && isHalf wG
  | .statsSet h set interval stream entries => h.wf && isByte set && isWord interval && isByte stream &&
      entries.all (fun c => c.wf)
  | .rainflowSet h set interval stream chans => h.wf && isByte set && isWord interval && isByte stream &&
      chans.all (fun c => c.chan.wf && isInt32 c.lo && isInt32 c.hi && isByte c.gate && isByte c.mode)
  | .spectralSet h p => h.wf && isByte p.set && isByte p.log2n && isByte p.window && isByte p.overlap && isHalf p.a &&
      isByte p.stream && isByte p.chans.length && isHalf p.pairs.length
  | .memPartition h hist capo => h.wf && isByte hist && isByte capo
  | .ringPortSet h p => h.wf && isByte p.hubId && isByte p.rate && isByte p.fecA && isByte p.fecB && isHalf p.etherType &&
      isByte p.streamReserve
  | .rosterSet h hubs => h.wf && isMask 64 hubs
  | .roleSet h gwElig gwPri arbElig arbPri => h.wf && isByte gwElig && isByte gwPri && isByte arbElig && isByte arbPri
  | .laneTest h p => h.wf && isByte p.lane && isByte p.role && isByte p.pattern && isByte p.inj && isByte p.injK &&
      isHalf p.duration && isByte p.hasTarget && isWord p.target
  | .laneInject h lane => h.wf && isByte lane
  | .laneAdapt h lane freeze => h.wf && isByte lane && isByte freeze
  | .laneTxSet h lane pre main post txInv => h.wf && isByte lane && isInt8 pre && isInt8 main && isInt8 post && isByte txInv
  | .fpPortSet h p => h.wf && isByte p.port && isByte p.enable && isByte p.baud && isByte p.parity && isByte p.slot &&
      isByte p.timeout && isByte p.retries && isHalf p.downAfter
  | .fpDirWrite h first _ => h.wf && isHalf first
  | .valOutSet h p => h.wf && isByte p.out && isByte p.mode && isByte p.safety && p.src.wf && isByte p.comb
  | .gpioSet h dir out od => h.wf && isHalf dir && isHalf out && isHalf od
  | .syncInSet h enable edge => h.wf && isByte enable && isByte edge
  | .safeRecover h key => h.wf && isWord key
  | .ownerLock h lock capoGuard key => h.wf && isByte lock && isByte capoGuard && isWord key
  | .updOpen h length => h.wf && isWord length
  | .updWrite h offset data => h.wf && isWord offset && decide (data.length ≤ 262144)
  | .updCommit h activate _ => h.wf && isByte activate
  | .timeAsymTwin h n | .railSetTwin h n | .vexcSetTwin h n | .courseSetTwin h n | .spareSetTwin h n | .subscribeTwin h n
  | .ringConfigTwin h n | .combSetTwin h n | .unitSetTwin h n | .sympGroupSetTwin h n | .statsSetTwin h n
  | .rainflowSetTwin h n | .spectralSetTwin h n | .laneTxSetTwin h n | .fpPortSetTwin h n | .valOutSetTwin h n =>
    h.wf && isByte n
  | .dynChanSetTwin h ns | .dynChainSetTwin h ns => h.wf && isMask 128 ns
  | .scanChanSetTwin h course positions => h.wf && isByte course && isMask 8 positions
  | .bankWriteTwin h c bank => h.wf && c.wf && isByte bank
  | .condWriteTwin h first count | .fpDirWriteTwin h first count => h.wf && isHalf first && isHalf count
  | .budgetMsgRx (.request hub stream _ _) | .budgetMsgRx (.granted hub stream) | .budgetMsgRx (.refused hub stream _ _) =>
    decide (hub < 64) && decide (stream < 128)
  | .creditRx (.grant hub _) | .creditRx (.giveBack hub _) => decide (hub < 64)
  | .beaconRx _ msg => decide (msg.hub < 64)
  | .ringFrameRx _ f => decide (f.head.length = 16) && decide (f.dstAddr < 281474976710656) && decide (f.srcAddr < 281474976710656) &&
      decide (f.path < 16) && decide (f.lsdu < 4096) && isHalf f.hsrSeq && isHalf f.etherType
  | .resetRelease f => f.board.wf && decide (f.strobeLow ≤ f.strobeHigh) && decide (f.strobeHigh < 64)
  | .serviceReadFrame _ early => early.all (fun n => decide (n < 256))
  | .updCmdWrite _ words => decide (words < 64)
  | .retrainPause _ move _ => decide (-1 ≤ move ∧ move ≤ 1)
  | .fretBoundary _ | .recordClose | .epochDue | .safeStateClose | .triggerWordArrival | .stagingEventPost
  | .redSelftestEnd _ | .refreshDue | .scrubRead _ | .dramParityError _ _ _
  | .syncInEdge _ | .egressFrameTx _ | .ptpSyncRx _ _ | .ptpAnnounceRx _ _ | .announceReceiptTimeout | .pdelayReqRx _ _ _ _ _
  | .pdelayRespRx _ _ _ _ _ | .ptpSyncTx | .ptpAnnounceTx | .pdelayReqTx _ | .preferredPortTimeout | .overlapTimeout
  | .closureUpdate | .syncLossTimeout | .beaconTx | .retrievalRecordTx | .leaseMsgRx _ | .roleVacantTimeout _
  | .claimWindowEnd _ | .leaseRenewTx _ | .leaseExpiry _ | .joinListenEnd | .hsrSupervisionTx | .duplicateEntryExpiry
  | .linkUp _ | .linkDown _ | .perstRelease | .pcieReset | .completionWrite | .hifStart | .readTimeNowNs _
  | .readTimeDcoIncLo _ | .safeForce | .clockLoss _ | .clockRestored _ | .configParityError | .residueMismatch
  | .timeXcheckWindow _ | .lockstepDivergence | .watchdogExpiry | .pairSramUe | .busErrorTimeout | .clesinFatalCheck
  | .takeover _ | .startingTimeout | .fenceHoldEnd _ | .pairSelftestEnd _ _ | .checkpoint _ _ | .drillQuiesced
  | .serviceWriteFrame _ _ _ _ _ | .ospiRdyTimeout | .ppsRise | .ppsFall | .reservePwr _ | .powerOnReset | .resetAssert
  | .bootComplete | .trialExpiry | .updSessionExpiry | .updCmdOpen _ | .updCmdCommit _ _ | .updCmdAbort _
  | .updCmdHealthConfirm _ | .updCmdUnlock _ | .updCmdDone _ | .pcieLinkTrained _ _ _ _ | .flashProgramDone _
  | .drillQuiesceTimeout => true

end Sys2Proof
end

