-- ==== Sys2Proof/Tests/Slice0.lean ====
section
/-! SUPPORT. Tests: for every statement with hypotheses a concrete state and operands that meet them (`witness_…`), ill-formed commands
that WellFormed refuses, the manual's worked examples, and single steps. A small state is built from `State.reset` by the helpers below. -/

set_option Elab.async false

namespace Sys2Proof.Tests

open Sys2Proof.Machine

/-- A descriptor's header: TAG 7, completions to ring 1. -/
def hdr : CmdHdr :=
  { tag := 7, idem := false, fence := false, force := false, parallel := false, update := false, cplRing := 1, cmdRing := 0, descIdx := 5
    dataLen := 4096, gateway := none, reexec := false }

/-- An active COMPLETION ring of 256 entries. -/
def cplRing1 : HostRing := { hostRing0 with active := true, configured := true, type := rtCompletion, log2Size := 8 }

/-- A hub that has booted: READY, P0 ACTIVE and P1 STANDBY, ring 1 a COMPLETION ring, 2 s of hub time. -/
def running : State :=
  { State.reset with
    time := { time0 with half := 4000000000, cclk := 800000000, mclkEdge := 800000000 }
    host := { hostIf0 with ready := true, rings := [(1, cplRing1)] }
    pairs := { pairs0 with p0 := { pairs0.p0 with state := .active }, p1 := { pairs0.p1 with state := .standby } }
    fret := { fretMachine0 with idx := 1907, boundary := 3999268864 }
    boot := { boot0 with up := true }
    loc := { local0 with alarmN := false } }

/-- A completion. -/
def completion0 : Completion :=
  { ring := 1, tag := 7, opcode := 1, hub := 0, forwarded := false, status := 0, cmdRing := 0, reexecuted := false, repeated := false
    descIdx := 5, effectFret := 0xFFFFFFFF, data := [], result := [] }

/-- A Sync with an offset of 2 us. -/
def sync0 : PtpSync :=
  { domain := 0, twoStep := false, seqId := 4, master := 0, origin16 := 32000000000, correction16 := 0, ingress16 := 32000032000 }

/-- An Announce of another clock. -/
def announce0 : PtpAnnounce := { domain := 0, priority1 := 1, clockQuality := 0, priority2 := 1, master := 77, stepsRemoved := 0 }

/-- Acquisition runs, D005 enabled, its run begun and reset far in the past. -/
def acquiringD5 : State :=
  { running with
    fret.acquiring := true
    cfg := { settings0 with dyn := [(5, { dynSet0 with enable := true })] }
    live := { settings0 with dyn := [(5, { dynSet0 with enable := true })] }
    fe.dyn := [(5, { dynRun0 with runStart := some 4000000000, set := { dynSet0 with enable := true } })] }

/-- Readings within every bound at gain 0: offset 0, the span of R186's levels, the tone as expected. -/
def readingGood : CalReading :=
  { splits := List.replicate 15 0, tone := 65536
    gains := [{ zero := 0, pos90 := 1932735283, neg90 := -1932735283, delayPs := 598400, zeroV := 0, pos45 := 966367642, neg45 := -966367642 }] }

/-- A factor set of gain 1. -/
def factorsGood : FactorSet := { factorSet0 with result := 0 }

/-- A slot of 100 us. -/
def slot0 : Slot := { entry := 0, pos := 3, start := 4000000000, len := 200000, urgent := none, redo := false, slipped := false }

/-- A slot's measurement. -/
def slotMeas0 : SlotMeas :=
  { raw := 1000, outOfReg := false, limited := false, crossings := [], samples := [], coilOpen := false }

/-- Acquisition runs with C019 enabled. -/
def acquiringC19 : State :=
  { running with fret.acquiring := true, live := { settings0 with scan := [(19, { scanSet0 with enable := true })] } }

def dynChanP0 : DynChanP :=
  { chans := [0, 127], enable := 1, mode := 0, gain := 7, ref := 0, tap := 0, iMin := 0, openWire := 1, tone := 1 }

def chainP0 : DynChainP := { chans := [0, 127], chain := 3, osr := 0, m := 0, r := 0, notch := 0, width := 0 }

def courseP0 : CourseP :=
  { course := 31, scan := [0, 7], slot := 7, vwSlot := 5, iLim := 6, rounding := 0, realign := 0, driver := 1 }

def scanP0 : ScanChanP :=
  { course := 2, positions := [3], enable := 1, kind := 0, gain := 0, ref := 0, exc := 0, iMin := 0, d := 8, s := 50, openWire := 1
    sweepLo := 400, sweepHi := 6000, listen := 10 }

/-- A block for set 40 of die 0, course 7, with UID 0 (R191): gains and verified gains 1, offsets 0; its first 128 bytes, and all. -/
def calBody40 : List Byte := [7, 0, 3, 1, 25, 0, 0, 0] ++ List.replicate 56 0 ++ (List.replicate 16 (leBytes 4 0x40000000)).flatten
def calBlock40 : List Byte := calBody40 ++ leBytes 4 418814426

/-- The CRC-32C of the block's first 128 bytes, in four parts. -/
theorem calBody40_crc : crc32c calBody40 = 418814426#32 := by
  have e : calBody40 = calBody40.take 32 ++ ((calBody40.drop 32).take 32 ++ ((calBody40.drop 64).take 32 ++ calBody40.drop 96)) := by
    decide +kernel
  have h1 : (calBody40.take 32).foldl crc32cByte 0xFFFFFFFF#32 = 0xA90F6591#32 := by decide +kernel
  have h2 : ((calBody40.drop 32).take 32).foldl crc32cByte 0xA90F6591#32 = 0xFC572136#32 := by decide +kernel
  have h3 : ((calBody40.drop 64).take 32).foldl crc32cByte 0xFC572136#32 = 0xEB636818#32 := by decide +kernel
  have h4 : (calBody40.drop 96).foldl crc32cByte 0xEB636818#32 ^^^ 0xFFFFFFFF#32 = 418814426#32 := by decide +kernel
  rw [crc32c, e, List.foldl_append, h1, List.foldl_append, h2, List.foldl_append, h3, h4]

theorem calBlock40_check : (readSet calBlock40).checkOk = true := by
  have h : calBlock40.take 128 = calBody40 := by decide +kernel
  unfold readSet
  simp only
  rw [h, calBody40_crc]
  decide +kernel

theorem calBlock40_fields : (readSet calBlock40).kind = 3 ∧ (readSet calBlock40).die = 0 ∧ (readSet calBlock40).index = 7 ∧
    (readSet calBlock40).set.result = 0 ∧ (readSet calBlock40).format = 1 := by decide +kernel

/-- CAL_WRITE of one block for set 40 of a die that acquires, under FORCE, finds nothing wrong. -/
theorem calWrite40 (h : CmdHdr) (blk : List Byte) (b : CalBlock) (s : State) (hb : readSet blk = b) (hf : h.force = true)
    (hd : 132 ≤ h.dataLen) (f : b.kind = 3 ∧ b.die = 0 ∧ b.index = 7 ∧ b.set.result = 0 ∧ b.format = 1) (c : b.checkOk = true)
    (hs : (dieAt s 0).isolated = none ∧ (dieAt s 0).calWait = false ∧ (dieAt s 0).calEnd = none ∧ s.fe.calJobs = []) :
    calWriteCheck h 0 [40] [blk] s = none := by
  have n : (sortNats [40]).map (dieSet 0) = [139] := by decide +kernel
  have k : setKind 139 = 3 ∧ setIndex 139 = 7 := by decide
  simp [calWriteCheck, hb, n, blockFaults, f, c, k, hf, hs, firstBad, orElseReply, Nat.not_lt.mpr hd]

/-- A record of stream 127, number 4, held with a coder state. -/
def storedRec : Stored :=
  { rcd := { type := tyScan, hub := 0, stream := 127, seq := 4, stamp := 0, fret := 1900, flags := 0, aux := 0, blocks := [] }
    slices := [], closedAt := 0, failover := false, coder := some coder0 }

/-- Stream 127 open with record 4 held; ring 1 its host ring. -/
def streaming : State :=
  { running with streams := [(127, { streamCtx0 with isOpen := true, type := tyScan, select := [7], nextSeq := 5, started := true, stored := [storedRec] })] }

/-- A capture over frets 1800 to 1900 and its capo. -/
def capture0 : Capture :=
  { trig := { time := 1890000000, sub := 0, src := 0, status := 0, origin := 0, cond := 0, comb := 0, merged := 1, reach := 756000000 }
    first := 1800, last := 1900, lead := 0, bf := 100, status := 0, cut := none, endNs := 1991000000, era := 0 }

def capo0 : Capo := { no := 3, filling := true, first := 1800, last := 1900, bytes := 0, lanes := [], stream := none, lastSeq := 0, era := 0 }

/-- Unit 7 captures. -/
def capturingU7 : State := { running with trig.units := [(7, { unitRun0 with state := .capturing, cap := some capture0, capos := [capo0], missed := 2 })] }

/-- An active RECORD ring of 64 KiB. -/
def recordRing2 : HostRing := { hostRing0 with active := true, configured := true, type := rtRecord, log2Size := 16 }

/-- A record of capture stream 127, number 4. -/
def storedCap : Stored :=
  { rcd := { type := tyCapData, hub := 0, stream := 127, seq := 4, stamp := 0, fret := 1900, flags := 0, aux := 0, blocks := [] }
    slices := [], closedAt := 0, failover := false, coder := none }

def unitP0 : UnitP :=
  { unit := 7, source := 0, select := 1, pre := 1000, post := 1000, quota := 1, repeating := 1, auto := 0, policy := 0, chainMask := 0
    stream := 0, autoRelease := 0 }

def condP0 : CondP := { src := ⟨.dynamic, 5⟩, kind := 1, enable := false, comb := 15, a := 8, b := 0, h := 2, reserved := none }

/-- RISE above 8 with no hysteresis, into combination 15. -/
def condRise : CondSet := { src := ⟨.dynamic, 5⟩, kind := 1, enable := true, comb := 15, a := 8, b := 0, h := 0 }

/-- A merge window that ends now, of two requests. -/
def merge0 : Merge :=
  { endAt := 800000000, time := 1999000000, sub := 0, hub := 3, comb := 2, count := 2, seq := 1, unlocked := false, command := false }

/-- A request of this hub. -/
def request0 : SentRequest := { time := 1800000000, sub := 0, comb := 2, sentAt := 740000010, command := false, taken := false }

/-- An ending whose record is due now. -/
def endingDue : Ending := { ending0 with last := 1900, due := some 800000000 }

def statsOpen0 : StatsOpen := { start := 0, stop := 1000000, set := { statsSet0 with stream := 5 }, acc := [], ending := endingDue }
def rainOpen0 : RainOpen := { gen := 0, start := 0, stop := 1000000, set := { rainSet0 with stream := 5 }, acc := [], ending := endingDue }
def specOpen0 : SpecOpen := { j := 0, set := { specSet0 with stream := 5 }, tOut := 0, dTotal := 0, segs := [], vals := [], lastK := none, ending := endingDue }

/-- Two records lost from number 2. -/
def lost0 : LostRange := { firstSeq := 2, count := 2, firstFret := 1800, lastFret := 1801, reason := 1, reasons := 0, stamp := 0 }

/-- The DRAM trained: 8 GiB, one rank, the scrub at burst 1. -/
def dramUp : State := { running with dram := { dram0 with mib := 8192, mts := 2400, ranks := 1, trained := true, scrub := 64 } }

def event0 : Event := { code := 0x0101, source := 0, stamp := 5, count := 1, args := [] }

/-- Both links up and the hub joined. -/
def linked : State := { running with ring.state := .joined, ring.linkA := true, ring.linkB := true }

/-- The hub holds the gateway role, its ledger whole, one line of no rate. -/
def gatewayUp : State :=
  { linked with ring.gateway := { linked.ring.gateway with held := true, term := 5, expires := 2000000000, holder := some 0 }, ring.ledgerReady := true }

/-- A Jorva frame of hub 9 for hub 63, not seen before. -/
def frame0 : RingFrame :=
  { dstAddr := hubAddr 63, srcAddr := hubAddr 9, tagged := true, path := 0, lsdu := 46, hsrSeq := 77, etherType := linked.live.ring.etherType
    length := 64, fcsOk := true, payload := [1, 2] ++ List.replicate 22 0, hops := 0, correction16 := 0
    head := let b : List Byte := [0x13, 1, 9, 63, 0, 0, 1, 127, 4, 0, 0, 0, 2, 0]; b ++ leBytes 2 (crc16 b).toNat }

/-- A supervision frame that can leave 5 CCLK from now. -/
def waiting0 : Waiting :=
  { cls := 0, bytes := 70, ready := 800000005, hsrSeq := 1, da := supervisionAddr, head := [], msg := .supervision }

def subP0 : SubscribeP := { stream := 127, type := 1, events := 0, align := 0, level := 0, hostRing := 0xFF, ring := 1, select := [7] }

/-- The SUBSCRIBE that waits for a grant. -/
def ask0 : BudgetAsk := { stream := 127, rho := 16000, sigma := 512, hdr := hdr, opcode := 0x0401, cmd := .subscribe hdr subP0 }

/-- Hub 63's beacon. -/
def beacon0 : Beacon :=
  { hub := 63, joining := false, hops := 2, version := 1, rate := 0, etherType := 0x88B5, reserve := 640, rosterCrc := 0, gateway := true
    arbiter := false, master := false, gatewayTerm := 3, arbiterTerm := 0, rho := 5, sigma := 5 }

/-- A command forwarded to hub 63 at CCLK 5. -/
def forwarded0 : Forwarded := { hub := 63, hdr := hdr, opcode := 0x0001, desc := [], data := [], bound := 800000, resent := false, at_ := 5 }

def laneTestP0 : LaneTestP := { lane := 4, role := 2, pattern := 5, inj := 1, injK := 40, duration := 3600, hasTarget := 0, target := 0 }

def laneRun0 : LaneTest :=
  { gen := true, chk := false, pattern := 1, injK := 0, duration := 1, startAt := none, endAt := 800000000, hdr := hdr }

/-- An entry of port 7: one 16-bit register of unit 3, read by function 3. -/
def dirEntry7 : DirEntry := { dirEntry0 with enable := true, port := 7, unit := 3, func := 3, type := 0, reg := 100 }

/-- Port 7 polls: its slot began at 2 s. -/
def pollRun7 : FpRun := { fpRun0 with running := true, slotStart := 4000000000, entries := [2047] }

def polling7 : State :=
  { running with
    live.fp := [(7, { fpSet0 with enable := true, baud := 5, slot := 6, timeout := 10, retries := 1 })]
    live.dir := [(2047, dirEntry7)]
    loc.fp := [(7, pollRun7)] }

/-- Unit 3 answers 0x0102; its CRC-16 after it. -/
def respOk : List Byte := [3, 3, 2, 1, 2] ++ leBytes 2 (modbusCrc [3, 3, 2, 1, 2])

/-- Unit 3 answers with exception 2. -/
def respExc : List Byte := [3, 0x83, 2] ++ leBytes 2 (modbusCrc [3, 0x83, 2])

def pollOut7 : PollOut :=
  { port := 7, p := 2047, write := false, retried := false, field := 258, signed := 258, tags := 1, inst := 2000000000, ready := 4200000000
    status := 0, attempts := 1, exc := 0 }

/-- The running slot's trial has expired. -/
def expiredRun : State := { running with boot.bcb := { running.boot.bcb with slotA := slExpired } }


/-- The board table of a fitted board. -/
def board0 : BoardTable :=
  { dramMib := 8192, mts := 2400, ranks := 1, x16 := false, order := 0, hubId := 9, rate10G := false, fecA := false, fecB := false
    etherType := 0x88B6, reserve := 0, roster := [9], gwElig := false, gwPri := 0, arbElig := false, arbPri := 0, autoJoin := false, vexc := []
    ospiDiv := 4, strobeFrom := 0, strobeTo := 63, ospiOpcode := 0xEE, ospiDummies := 20, tCss := 2, tCsh := 2, tCsd := 4 }

/-- A boot that finds both pairs and slot A good. -/
def boot1 : BootFindings :=
  { p0Passes := true, p1Passes := true, slotAValid := true, slotBValid := false, clesinVer := 1, jorvaHi := 4, feIf := 1, ckptFmt := 1
    copy0Whole := true, copy1Whole := true, copy1Old := false, board := board0, dramTrains := true, strobeLow := 10, strobeHigh := 40, feSuppliesOut := [] }

/-- Slot A confirmed, nothing booted. -/
def cold : State := { State.reset with boot.bcb := { State.reset.boot.bcb with slotA := slConfirmed, preferB := false } }

/-- A session of the PCIe host over 256 bytes, none written. -/
def session0 : Session := { holder := 1, hub := 0, length := 256, written := 0, renewed := 799000000 }

/-- The update session is open. -/
def updatingHub : State := { running with boot.session := some session0, boot.bcb := { running.boot.bcb with slotA := slConfirmed, slotB := slWriting } }

/-- Four bytes into the inactive slot. -/
def write0 : FlashOp := { offset := 0, data := [1, 2, 3, 4], hdr := some hdr, req := none }

/-- The commit of an image into slot B, by RESET, one die to go. -/
def commit0 : Commit :=
  { activate := 1, image := { clesinVer := 2, jorvaHi := 4, feIf := 1, ckptFmt := 1, svn := 0 }, dies := [3, 0], reloaded := [], slot := 1
    hdr := some hdr, req := none }

/-- A valid image of 256 bytes stands written in slot B. -/
def readyImage : State :=
  { running with
    boot.session := some { session0 with written := 256 }
    boot.bcb := { running.boot.bcb with slotA := slConfirmed, slotB := slWriting, minSvn := 0 }
    boot.flash := cellsFrom 0x2100000 ([0x4E, 0x56, 0x48, 0x31, 1, 0, 0, 0, 0, 1, 2, 1, 4, 0, 0, 0, 0, 1, 0, 0] ++
      [128, 0, 0, 0, 0, 0, 0, 0, 128, 0, 0, 0, 0, 0, 0, 0, 128, 0, 0, 0, 0, 0, 0, 0]) }

def imageGood : ImageFacts := { signed := true, diesChanged := [] }

/-- The DRAM up, no stream open; the figures that `subP0` needs. -/
def subscribable : State := { dramUp with ring.linkA := true, ring.linkB := true }
def subFigures : Nat × Nat := figures subscribable.cfg 127 (newStream subP0)

/-- An active COMMAND ring of 256 entries with one descriptor. -/
def cmdRing0 : HostRing := { hostRing0 with active := true, configured := true, type := rtCommand, log2Size := 8, hostIdx := 1 }

/-- Ring 0 a COMMAND ring with a descriptor, ring 1 a COMPLETION ring. -/
def commanded : State := { running with host.rings := [(0, cmdRing0), (1, cplRing1)] }

/-- NOP for this hub, TAG 0x0302_0104, completion to ring 1. -/
def nopDesc : List Byte := [1, 0, 0x40, 0, 4, 1, 2, 3, 1, 0, 0, 0] ++ List.replicate 52 0

/-- The same with reserved byte 9 set. -/
def badDesc : List Byte := [1, 0, 0x40, 0, 4, 1, 2, 3, 1, 5, 0, 0] ++ List.replicate 52 0

/-- NOP for hub 9. -/
def farDesc : List Byte := [1, 0, 9, 0, 4, 1, 2, 3, 1, 0, 0, 0] ++ List.replicate 52 0

/-- A TRACE ring, active, in FIFO mode or not. -/
def traceRing (fifo : Bool) : HostRing := { hostRing0 with active := true, configured := true, type := rtTrace, log2Size := 8, fifo := fifo }

def trace0 : QEntry := mkEntry 0x0301 7 5 1 [1, 2] 0 0

/-- Ring 7 a TRACE ring with one entry waiting. -/
def tracing (fifo : Bool) : State := { running with host.rings := [(7, traceRing fifo)], host.traceQ := { queue0 with entries := [trace0], entryNo := 1 } }

/-- The gateway with hub 9 present and a descriptor for it. -/
def farCommanded : State :=
  { gatewayUp with host.rings := [(0, cmdRing0), (1, cplRing1)], ring.topo := [(9, { topoEntry0 with present := true, version := 4 })] }

/-- A record's last frame at an egress. -/
def recordWaiting : Waiting :=
  { cls := 1, bytes := 200, ready := 800000005, hsrSeq := 1, da := allAddr, head := [], msg := .record 127 5 0 true false [1] }

/-- The first `n` bits of a pattern whose seed is all 1 (R355). -/
def prbsRun (pattern n : Nat) : List Bool :=
  (List.range n).foldl (fun bs i => bs ++ [decide (i < (prbsTaps pattern).1) || (prbsBit bs (i - (prbsTaps pattern).1) != prbsBit bs (i - (prbsTaps pattern).2))]) []

/-! ### States and operands that meet each statement's hypotheses -/

/-- Hypotheses of `Obligations.StepRunsFrontCommand` that a state meets, clause by clause. -/
theorem witness_StepRunsFrontCommand :
    (∃ (c : Instr) (rest : List Instr) (s : State), (s.pending = c :: rest)) :=
  ⟨.ospiWindowWrite 0, [.ppsRise], { running with pending := [.ospiWindowWrite 0, .ppsRise] }, by decide +kernel⟩

/-- Hypotheses of `Obligations.IdleStepPassesOneCclk` that a state meets, clause by clause. -/
theorem witness_IdleStepPassesOneCclk :
    (∃ (s : State), (s.pending = [])) :=
  ⟨running, by decide +kernel⟩

/-- Hypotheses of `Obligations.CommandsLeaveQueue` that a state meets, clause by clause. -/
theorem witness_CommandsLeaveQueue :
    (∃ (c : Instr) (s : State) (t : State), (exec c s = .next t)) :=
  ⟨.ospiWindowWrite 0, running, { running with loc.ospiWriteErrors := 1 }, rfl⟩

/-- Hypotheses of `Obligations.OnlyProgramDoneWritesFlash` that a state meets, clause by clause. -/
theorem witness_OnlyProgramDoneWritesFlash :
    (∃ (c : Instr) (s : State) (t : State), ((∀ e, c ≠ .flashProgramDone e)) ∧ (exec c s = .next t)) :=
  ⟨.ospiWindowWrite 0, running, { running with loc.ospiWriteErrors := 1 }, fun e => by simp, rfl⟩

/-- Hypotheses of `Obligations.FlashInvariantKept` that a state meets, clause by clause. -/
theorem witness_FlashInvariantKept :
    (∃ (s : State) (t : State), (FlashInv s) ∧ (step s = .next t)) :=
  ⟨running, passCclk 1 running, ⟨⟨by decide, by decide⟩, by decide, by decide⟩, rfl⟩

/-- Hypotheses of `Obligations.ClesinDownIgnoresCommands` that a state meets, clause by clause. -/
theorem witness_ClesinDownIgnoresCommands :
    (∃ (c : Instr) (h : CmdHdr) (op : Nat) (s : State), (commandOf c = some (h, op)) ∧ (clesinUp s = false)) :=
  ⟨.nop hdr, hdr, 0x0001, State.reset, by decide +kernel⟩

/-- Hypotheses of `Obligations.BadDescriptorRefused` that a state meets, clause by clause. -/
theorem witness_BadDescriptorRefused :
    (∃ (c : Instr) (h : CmdHdr) (op : Nat) (s : State), (commandOf c = some (h, op)) ∧ (clesinUp s = true) ∧ (flagFault h op = true)) ∧
    (∃ (c : Instr) (h : CmdHdr) (op : Nat) (s : State), (commandOf c = some (h, op)) ∧ (clesinUp s = true) ∧ (flagFault h op = false) ∧ (h.gateway = none) ∧ (completionRing s h.cplRing = false)) :=
  ⟨⟨.nop { hdr with force := true }, { hdr with force := true }, 0x0001, running, by decide +kernel⟩,
   ⟨.nop { hdr with cplRing := 5 }, { hdr with cplRing := 5 }, 0x0001, running, by decide +kernel⟩⟩

/-- Hypotheses of `Obligations.SafeStateRefusesCommands` that a state meets, clause by clause. -/
theorem witness_SafeStateRefusesCommands :
    (∃ (c : Instr) (h : CmdHdr) (op : Nat) (s : State), (commandOf c = some (h, op)) ∧ (clesinUp s = true) ∧ (flagFault h op = false) ∧ ((h.gateway = none → completionRing s h.cplRing = true)) ∧ (s.safety.safe = true) ∧ (safeOp op = false)) :=
  ⟨.acqStop hdr, hdr, 0x0004, { running with safety.safe := true }, by decide +kernel⟩

/-- Hypotheses of `Obligations.CompletionsReachTheirSender` that a state meets, clause by clause. -/
theorem witness_CompletionsReachTheirSender :
    (∃ (h : CmdHdr) (s : State), (h.gateway = none) ∧ ((orphanKey h) ∉ s.host.orphans)) ∧
    (∃ (h : CmdHdr) (s : State), ((orphanKey h) ∈ s.host.orphans)) ∧
    (∃ (h : CmdHdr) (s : State) (g : Nat), (h.gateway = some g) ∧ ((orphanKey h) ∉ s.host.orphans)) :=
  ⟨⟨hdr, running, by decide +kernel⟩,
   ⟨hdr, { running with host.orphans := [orphanKey hdr] }, by decide +kernel⟩,
   ⟨{ hdr with gateway := some 3 }, running, 3, by decide +kernel⟩⟩

/-- Hypotheses of `Obligations.TimeCommandsComplete` that a state meets, clause by clause. -/
theorem witness_TimeCommandsComplete :
    (∃ (h : CmdHdr) (ns : Nat) (s : State), (Accepts h 0x0101 s) ∧ (s.time.master = true) ∧ (ns < 1000000000)) ∧
    (∃ (h : CmdHdr) (step : Int) (s : State), (Accepts h 0x0102 s) ∧ (s.time.master = true) ∧ (-40 ≤ step) ∧ (step ≤ 40)) ∧
    (∃ (h : CmdHdr) (port : Nat) (s : State), (Accepts h 0x0103 s) ∧ (port ≤ 1)) ∧
    (∃ (h : CmdHdr) (p : PtpSetP) (s : State), (Accepts h 0x0104 s) ∧ (p.domain ≤ 127) ∧ (-7 ≤ p.logSync) ∧ (p.logSync ≤ 0) ∧ (0 ≤ p.logAnnounce) ∧ (p.logAnnounce ≤ 2) ∧ (-3 ≤ p.logPdelay) ∧ (p.logPdelay ≤ 2)) :=
  ⟨⟨hdr, 5, { running with time.master := true }, by decide +kernel⟩,
   ⟨hdr, -40, { running with time.master := true }, by decide +kernel⟩,
   ⟨hdr, 1, running, by decide +kernel⟩,
   ⟨hdr, { domain := 127, logSync := -7, logAnnounce := 2, logPdelay := -3, priority1 := 1, priority2 := 2 }, running, by decide +kernel⟩⟩

/-- Hypotheses of `Obligations.PlainTwinsAnswer` that a state meets, clause by clause. -/
theorem witness_PlainTwinsAnswer :
    (∃ (h : CmdHdr) (port : Nat) (s : State), (Accepts h 0x0183 s) ∧ (port ≤ 1) ∧ (4 ≤ h.dataLen)) ∧
    (∃ (h : CmdHdr) (s : State), (Accepts h 0x0184 s) ∧ (6 ≤ h.dataLen)) ∧
    (∃ (h : CmdHdr) (s : State), (Accepts h 0x0281 s) ∧ (1 ≤ h.dataLen)) ∧
    (∃ (h : CmdHdr) (rail : Nat) (s : State), (Accepts h 0x0283 s) ∧ (rail ≤ 15) ∧ (2 ≤ h.dataLen)) ∧
    (∃ (h : CmdHdr) (die : Nat) (s : State), (Accepts h 0x0284 s) ∧ (die ≤ 3) ∧ (1 ≤ h.dataLen)) ∧
    (∃ (h : CmdHdr) (die : Nat) (s : State), (Accepts h 0x028C s) ∧ (die ≤ 3) ∧ (2 ≤ h.dataLen)) ∧
    (∃ (h : CmdHdr) (s : State), (Accepts h 0x0B83 s) ∧ (2 ≤ h.dataLen)) ∧
    (∃ (h : CmdHdr) (s : State), (Accepts h 0x0781 s) ∧ (2 ≤ h.dataLen)) :=
  ⟨⟨hdr, 1, running, by decide +kernel⟩,
   ⟨hdr, running, by decide +kernel⟩,
   ⟨hdr, running, by decide +kernel⟩,
   ⟨hdr, 15, running, by decide +kernel⟩,
   ⟨hdr, 3, running, by decide +kernel⟩,
   ⟨hdr, 3, running, by decide +kernel⟩,
   ⟨hdr, running, by decide +kernel⟩,
   ⟨hdr, running, by decide +kernel⟩⟩

/-- Hypotheses of `Obligations.SyncSteersOrSteps` that a state meets, clause by clause. -/
theorem witness_SyncSteersOrSteps :
    (∃ (p : Port) (m : PtpSync) (s : State), (m.domain = s.ptp.set.domain) ∧ (m.twoStep = false) ∧ (s.time.master = false) ∧ (s.time.masterId = m.master) ∧ (s.ptp.second = none) ∧ (preferredPort s = p) ∧ (followedPort s = p)) :=
  ⟨.a, sync0, running, by decide +kernel⟩

/-- Hypotheses of `Obligations.PtpMessagesReceived` that a state meets, clause by clause. -/
theorem witness_PtpMessagesReceived :
    (∃ (m : PtpAnnounce) (s : State), (m.domain = s.ptp.set.domain) ∧ (s.safety.safe = false)) ∧
    (∃ (s : State), (s.safety.safe = false)) ∧
    (∃ (p : Port) (seqId : Nat) (left : Int) (s : State), ((ptpPort s p).reqOut = some seqId) ∧ ((ptpPort s p).reqTx = some left)) ∧
    (∃ (domain : Nat) (m : PtpAnnounce) (y : PtpSync) (s : State), (domain ≠ s.ptp.set.domain) ∧ (m.domain = domain) ∧ (y.domain = domain)) :=
  ⟨⟨announce0, running, by decide +kernel⟩,
   ⟨running, by decide +kernel⟩,
   ⟨.a, 3, 40, { running with ptp.portA.reqOut := some 3, ptp.portA.reqTx := some 40 }, by decide +kernel⟩,
   ⟨1, { announce0 with domain := 1 }, { sync0 with domain := 1 }, running, by decide +kernel⟩⟩

/-- Hypotheses of `Obligations.PtpMessagesSent` that a state meets, clause by clause. -/
theorem witness_PtpMessagesSent :
    (∃ (s : State), (s.time.master = true) ∧ (s.safety.safe = false)) ∧
    (∃ (s : State), (s.time.master = true) ∧ (s.safety.safe = false)) :=
  ⟨⟨{ running with time.master := true, ring.linkA := true, ptp.sentSyncs := 7 }, by decide +kernel⟩,
   ⟨{ running with time.master := true }, by decide +kernel⟩⟩

/-- Hypotheses of `Obligations.PtpTimeouts` that a state meets, clause by clause. -/
theorem witness_PtpTimeouts :
    (∃ (s : State), (followedPort s = preferredPort s)) ∧
    (∃ (other : Nat) (since : Nat) (last : Nat) (s : State), (s.ptp.second = some (other, since, last))) ∧
    (∃ (s : State), (s.ptp.portA.lastSync.isSome = true) ∧ (s.ptp.portB.lastSync.isSome = true)) ∧
    (∃ (s : State), (s.time.master = false)) :=
  ⟨⟨running, by decide +kernel⟩,
   ⟨9, 800000000, 800000000, { running with ptp.second := some (9, 800000000, 800000000), time.overlap := true }, by decide +kernel⟩,
   ⟨{ running with ptp.portA.lastSync := some 5, ptp.portB.lastSync := some 6 }, by decide +kernel⟩,
   ⟨{ running with time.locked := true }, by decide +kernel⟩⟩

/-- Hypotheses of `Obligations.FrontEndSignals` that a state meets, clause by clause. -/
theorem witness_FrontEndSignals :
    (∃ (n : Nat) (t0 : Nat) (s : State), (n < 128) ∧ (nextOutput (sliceSet s n) (dynRun s n) = some t0) ∧ (s.fret.acquiring = true) ∧ (sliceLive s n = true) ∧ (servedBySpare s n = false)) ∧
    (∃ (n : Nat) (s : State), (sliceLive s n = true) ∧ ((sliceSet s n).tone = true)) ∧
    (∃ (rising : Bool) (s : State), (s.live.syncEnable = true) ∧ (rising ≠ s.live.syncFalling) ∧ (s.fret.acquiring = true)) ∧
    (∃ (rising : Bool) (s : State), (s.live.syncEnable = true) ∧ (rising ≠ s.live.syncFalling) ∧ (s.fret.acquiring = false)) :=
  ⟨⟨5, 4000200000, acquiringD5, by decide +kernel⟩,
   ⟨5, { acquiringD5 with live := { acquiringD5.live with dyn := [(5, { dynSet0 with enable := true, tone := true })] } }, by decide +kernel⟩,
   ⟨true, { running with live.syncEnable := true, fret.acquiring := true }, by decide +kernel⟩,
   ⟨true, { running with live.syncEnable := true }, by decide +kernel⟩⟩

/-- Hypotheses of `Obligations.SupplyMeasurements` that a state meets, clause by clause. -/
theorem witness_SupplyMeasurements :
    (∃ (rail : Nat) (s : State), (0 < railMv (railLive s rail).voltage)) ∧
    (∃ (rail : Nat) (since : Nat) (s : State), ((railAt s rail).limitSince = some since)) ∧
    (∃ (die : Nat) (v : Nat) (s : State), (v < 450) ∧ (dieHasChannel s die = true)) ∧
    (∃ (v : Nat), (460 < v)) :=
  ⟨⟨3, { running with live.rails := [(3, { voltage := 1, iLim := 5 })] }, by decide +kernel⟩,
   ⟨3, 4000000000, { running with live.rails := [(3, { voltage := 1, iLim := 5 })], fe.rails := [(3, { railRun0 with limitSince := some 4000000000 })] }, by decide +kernel⟩,
   ⟨0, 449, acquiringD5, by decide +kernel⟩,
   ⟨461, by decide +kernel⟩⟩

/-- Hypotheses of `Obligations.SparesLearnAndTest` that a state meets, clause by clause. -/
theorem witness_SparesLearnAndTest :
    (∃ (die : Nat) (s : State), ((spareAt s die).phase = .learning) ∧ ((spareAt s die).use = .replace) ∧ (learningDone s (spareAt s die) = true)) ∧
    (∃ (die : Nat) (m : CalReading) (s : State), ((spareAt s die).phase = .testing) ∧ ((spareAt s die).keep = false) ∧ ((testedSet s die m).result = 0)) ∧
    (∃ (die : Nat) (m : CalReading) (s : State), ((spareAt s die).phase = .testing) ∧ ((testedSet s die m).result ≠ 0)) ∧
    (∃ (die : Nat) (s : State), ((tget spareSet0 s.live.spare die).rotation = true) ∧ ((tget rotationRun0 s.fe.rotation die).running = false) ∧ (dieOut s die = false) ∧ ((spareAt s die).phase = .idle)) ∧
    (∃ (die : Nat) (s : State), ((tget rotationRun0 s.fe.rotation die).running = true) ∧ ((tget rotationRun0 s.fe.rotation die).replaceNext = none) ∧ ((tget spareSet0 s.live.spare die).rotation = true)) :=
  ⟨⟨0, { acquiringD5 with fe.spares := [(0, { spareRun0 with phase := .learning, use := .replace, chan := 5, firstLearn := some 5 })] }, by decide +kernel⟩,
   ⟨0, readingGood, { acquiringD5 with fe.spares := [(0, { spareRun0 with phase := .testing, use := .rotation, chan := 5 })] }, by decide +kernel⟩,
   ⟨0, { readingGood with tone := 0 }, { acquiringD5 with fe.spares := [(0, { spareRun0 with phase := .testing, use := .rotation, chan := 5 })] }, by decide +kernel⟩,
   ⟨0, { acquiringD5 with live.spare := [(0, { auto := true, rotation := true })] }, by decide +kernel⟩,
   ⟨0, { acquiringD5 with live.spare := [(0, { auto := true, rotation := true })], fe.rotation := [(0, { running := true, start := 0, j := 31, replaceNext := none })] }, by decide +kernel⟩⟩

/-- Hypotheses of `Obligations.CoursesDiesAndWires` that a state meets, clause by clause. -/
theorem witness_CoursesDiesAndWires :
    (∃ (course : Nat) (sl : Slot) (s : State), ((courseAt s course).slot = some sl) ∧ (cutByStep sl s = false)) ∧
    (∃ (course : Nat) (sl : Slot) (s : State), ((courseAt s course).slot = some sl) ∧ (cutByStep sl s = true)) ∧
    (∃ (c : Nat) (s : State), ((dynLive s c).enable = true) ∧ ((dynLive s c).openWire = true) ∧ (dieOut s (c / 32) = false) ∧ ((spareAt s (c / 32)).phase ≠ .learning)) ∧
    (∃ (course : Nat) (sl : Slot) (s : State), ((courseAt s course).slot = some sl)) ∧
    (∃ (course : Nat) (s : State), ((courseAt s course).slot = none)) ∧
    (∃ (m : Monitor) (c : Nat) (s : State), (m ∈ (dynRun s c).openMon) ∧ (m ∉ (dynRun s c).owClear)) ∧
    (∃ (die : Nat) (t0 : Nat) (s : State), ((dieAt s die).calEnd = some t0)) :=
  ⟨⟨2, slot0, { acquiringD5 with fe.courses := [(2, { courseRun0 with slot := some slot0 })] }, by decide +kernel⟩,
   ⟨2, { slot0 with start := 381499900000, len := 100000 }, { acquiringD5 with fe.courses := [(2, { courseRun0 with slot := some { slot0 with start := 381499900000, len := 100000 } })], time.step := 400, fret.idx := 1907499 }, by decide +kernel⟩,
   ⟨5, { acquiringD5 with live := { acquiringD5.live with dyn := [(5, { dynSet0 with enable := true, openWire := true })] } }, by decide +kernel⟩,
   ⟨2, slot0, { acquiringD5 with fe.courses := [(2, { courseRun0 with slot := some slot0 })] }, by decide +kernel⟩,
   ⟨2, { acquiringD5 with fe.courses := [(2, { courseRun0 with breaks := [(.tap, none)] })] }, by decide +kernel⟩,
   ⟨.input, 5, { acquiringD5 with fe.dyn := [(5, { dynRun0 with openMon := [.input] })] }, by decide +kernel⟩,
   ⟨2, 4000000010, { running with fe.dies := [(2, { dieRun0 with calEnd := some 4000000010 })] }, by decide +kernel⟩⟩

/-- Hypotheses of `Obligations.FrontEndSettings` that a state meets, clause by clause. -/
theorem witness_FrontEndSettings :
    (∃ (h : CmdHdr) (period : Nat) (s : State), (Accepts h 0x0201 s) ∧ (fretSetCheck period s = none)) ∧
    (∃ (h : CmdHdr) (p : DynChanP) (s : State), (Accepts h 0x0202 s) ∧ (dynChanCheck p s = none)) ∧
    (∃ (h : CmdHdr) (rail : Nat) (voltage : Nat) (iLim : Nat) (s : State), (Accepts h 0x0203 s) ∧ (railCheck rail voltage iLim s = none)) ∧
    (∃ (h : CmdHdr) (die : Nat) (nom : Nat) (s : State), (Accepts h 0x0204 s) ∧ (vexcCheck die nom s = none)) ∧
    (∃ (h : CmdHdr) (p : DynChainP) (s : State), (Accepts h 0x0205 s) ∧ (chainCheck p s = none) ∧ (needGrants (chainConfig p s.cfg) s.streams s = []) ∧ (s.ring.grants = [])) :=
  ⟨⟨hdr, 2, running, by decide +kernel⟩,
   ⟨hdr, dynChanP0, running, by decide +kernel⟩,
   ⟨hdr, 15, 0, 5, running, by decide +kernel⟩,
   ⟨hdr, 3, 60, running, by decide +kernel⟩,
   ⟨hdr, chainP0, running, by decide +kernel⟩⟩

/-- Hypotheses of `Obligations.CourseSettings` that a state meets, clause by clause. -/
theorem witness_CourseSettings :
    (∃ (h : CmdHdr) (p : CourseP) (s : State), (Accepts h 0x0206 s) ∧ (courseCheck p s = none) ∧ (s.fret.acquiring = false)) ∧
    (∃ (h : CmdHdr) (p : ScanChanP) (s : State), (Accepts h 0x0207 s) ∧ (scanCheck p s = none) ∧ (s.fret.acquiring = false)) ∧
    (∃ (h : CmdHdr) (course : Nat) (s : State), (Accepts h 0x0208 s) ∧ (course < 32)) ∧
    (∃ (h : CmdHdr) (n : Nat) (s : State), (Accepts h 0x0209 s) ∧ (urgentCheck h ⟨.scanned, n⟩ s = none)) ∧
    (∃ (h : CmdHdr) (c : Chan) (s : State), (Accepts h 0x0210 s) ∧ (bankChanOk c = true) ∧ (swapRuns s (bankNo c) = false) ∧ ((bankRunAt s (bankNo c)).activeB = false)) ∧
    (∃ (h : CmdHdr) (c : Chan) (fade : Nat) (s : State), (Accepts h 0x0211 s) ∧ (bankChanOk c = true) ∧ (fade ≤ 10000) ∧ (swapRuns s (bankNo c) = false) ∧ ((bankRunAt s (bankNo c)).activeB = false)) :=
  ⟨⟨hdr, courseP0, running, by decide +kernel⟩,
   ⟨hdr, scanP0, running, by decide +kernel⟩,
   ⟨hdr, 31, running, by decide +kernel⟩,
   ⟨hdr, 19, acquiringC19, by decide +kernel⟩,
   ⟨hdr, ⟨.dynamic, 5⟩, running, by decide +kernel⟩,
   ⟨hdr, ⟨.scanned, 255⟩, 10000, running, by decide +kernel⟩⟩

/-- Hypotheses of `Obligations.SpareAndDieCommands` that a state meets, clause by clause. -/
theorem witness_SpareAndDieCommands :
    (∃ (h : CmdHdr) (p : SyncResetP) (s : State), (Accepts h 0x020B s) ∧ (p.scope ≤ 2) ∧ (p.die ≤ 3) ∧ (p.hasTarget = 0)) ∧
    (∃ (h : CmdHdr) (enable : Nat) (edge : Nat) (s : State), (Accepts h 0x0B03 s) ∧ (enable ≤ 1) ∧ (edge ≤ 1)) ∧
    (∃ (h : CmdHdr) (die : Nat) (auto : Nat) (rot : Nat) (s : State), (Accepts h 0x020C s) ∧ (die ≤ 3) ∧ (auto ≤ 1) ∧ (rot ≤ 1) ∧ ((tget rotationRun0 s.fe.rotation die).running = false)) ∧
    (∃ (h : CmdHdr) (n : Nat) (s : State), (Accepts h 0x020D s) ∧ (n < 128) ∧ (dieOut s (n / 32) = false) ∧ ((tget rotationRun0 s.fe.rotation (n / 32)).running = false) ∧ ((spareAt s (n / 32)).phase = .idle)) ∧
    (∃ (h : CmdHdr) (n : Nat) (keep : Nat) (s : State), (Accepts h 0x020E s) ∧ (n < 128) ∧ (keep ≤ 1) ∧ ((spareAt s (n / 32)).phase = .serving) ∧ ((spareAt s (n / 32)).chan = n) ∧ ((spareAt s (n / 32)).use = .command)) ∧
    (∃ (h : CmdHdr) (die : Nat) (s : State), (Accepts h 0x0301 s) ∧ (die ≤ 3) ∧ (dieTaken s die = none)) ∧
    (∃ (h : CmdHdr) (die : Nat) (i : Nat) (b : List Byte) (s : State), (Accepts h 0x0303 s) ∧ (calWriteCheck h die [i] [b] s = none)) ∧
    (∃ (h : CmdHdr) (die : Nat) (s : State), (Accepts h 0x020F s) ∧ (die ≤ 3) ∧ ((dieAt s die).isolated = none) ∧ (dieTaken s die = none)) :=
  ⟨⟨hdr, { scope := 1, die := 3, hasTarget := 0, target := 0, chans := [] }, running, by decide +kernel⟩,
   ⟨hdr, 1, 1, running, by decide +kernel⟩,
   ⟨hdr, 3, 1, 1, running, by decide +kernel⟩,
   ⟨hdr, 127, running, by decide +kernel⟩,
   ⟨hdr, 5, 1, { acquiringD5 with fe.spares := [(0, { spareRun0 with phase := .serving, chan := 5 })] }, by decide +kernel⟩,
   ⟨hdr, 3, running, by decide +kernel⟩,
   ⟨{ hdr with force := true }, 0, 40, calBlock40, running, by decide, calWrite40 _ _ _ _ rfl rfl (by decide) calBlock40_fields calBlock40_check ⟨rfl, rfl, rfl, rfl⟩⟩,
   ⟨hdr, 2, running, by decide +kernel⟩⟩

/-- Hypotheses of `Obligations.ChannelTwinsAnswer` that a state meets, clause by clause. -/
theorem witness_ChannelTwinsAnswer :
    (∃ (h : CmdHdr) (s : State), (Accepts h 0x0282 s) ∧ (8 ≤ h.dataLen)) ∧
    (∃ (h : CmdHdr) (s : State), (Accepts h 0x0285 s) ∧ (12 ≤ h.dataLen)) ∧
    (∃ (h : CmdHdr) (c : Nat) (s : State), (Accepts h 0x0286 s) ∧ (c ≤ 31) ∧ (22 ≤ h.dataLen)) ∧
    (∃ (h : CmdHdr) (c : Nat) (s : State), (Accepts h 0x0287 s) ∧ (c ≤ 31) ∧ (15 ≤ h.dataLen)) ∧
    (∃ (h : CmdHdr) (c : Chan) (b : Nat) (k : Bank) (s : State), (Accepts h 0x0290 s) ∧ (bankChanOk c = true) ∧ (b ≤ 1) ∧ (12 ≤ h.dataLen) ∧ (k = (if b = 1 then (banksAt s.cfg (bankNo c)).b else (banksAt s.cfg (bankNo c)).a))) ∧
    (∃ (h : CmdHdr) (first : Nat) (count : Nat) (s : State), (Accepts h 0x0581 s) ∧ (first ≤ 1023) ∧ (first + count ≤ 1024) ∧ (16 * count ≤ h.dataLen)) ∧
    (∃ (h : CmdHdr) (n : Nat) (s : State), (Accepts h 0x0582 s) ∧ (n ≤ 15) ∧ (14 ≤ h.dataLen)) ∧
    (∃ (h : CmdHdr) (u : Nat) (s : State), (Accepts h 0x0583 s) ∧ (u ≤ 7) ∧ (24 ≤ h.dataLen)) ∧
    (∃ (h : CmdHdr) (g : Nat) (s : State), (Accepts h 0x0588 s) ∧ (g ≤ 15) ∧ (3 ≤ h.dataLen)) :=
  ⟨⟨hdr, running, by decide +kernel⟩,
   ⟨hdr, running, by decide +kernel⟩,
   ⟨hdr, 31, running, by decide +kernel⟩,
   ⟨hdr, 31, running, by decide +kernel⟩,
   ⟨hdr, ⟨.dynamic, 0⟩, 1, (banksAt running.cfg 0).b, running, by decide +kernel⟩,
   ⟨hdr, 1023, 1, running, by decide +kernel⟩,
   ⟨hdr, 15, running, by decide +kernel⟩,
   ⟨hdr, 7, running, by decide +kernel⟩,
   ⟨hdr, 15, running, by decide +kernel⟩⟩

/-- Hypotheses of `Obligations.DeliveryTwinsAnswer` that a state meets, clause by clause. -/
theorem witness_DeliveryTwinsAnswer :
    (∃ (h : CmdHdr) (n : Nat) (s : State), (Accepts h 0x0681 s) ∧ (n ≤ 7) ∧ (5 + 2 * (tget statsSet0 s.cfg.stats n).entries.length ≤ h.dataLen)) ∧
    (∃ (h : CmdHdr) (n : Nat) (s : State), (Accepts h 0x0682 s) ∧ (n ≤ 7) ∧ (5 + 12 * (tget rainSet0 s.cfg.rain n).chans.length ≤ h.dataLen)) ∧
    (∃ (h : CmdHdr) (n : Nat) (s : State), (Accepts h 0x0683 s) ∧ (n ≤ 7) ∧ (9 + 2 * (tget specSet0 s.cfg.spec n).chans.length + 4 * (tget specSet0 s.cfg.spec n).pairs.length ≤ h.dataLen)) ∧
    (∃ (h : CmdHdr) (n : Nat) (s : State), (Accepts h 0x0481 s) ∧ (n ≤ 127) ∧ ((streamAt s n).isOpen = true) ∧ (6 + (selectBytes (streamAt s n).type (streamAt s n).select).length ≤ h.dataLen)) ∧
    (∃ (h : CmdHdr) (r : Nat) (s : State), (Accepts h 0x0486 s) ∧ (r ≤ 127) ∧ (16 ≤ h.dataLen)) ∧
    (∃ (h : CmdHdr) (s : State), (Accepts h 0x0881 s) ∧ (7 ≤ h.dataLen)) ∧
    (∃ (h : CmdHdr) (s : State), (Accepts h 0x0882 s) ∧ (8 ≤ h.dataLen)) ∧
    (∃ (h : CmdHdr) (s : State), (Accepts h 0x0883 s) ∧ (4 ≤ h.dataLen)) ∧
    (∃ (h : CmdHdr) (l : Nat) (s : State), (Accepts h 0x0984 s) ∧ (ringLane l = true) ∧ (4 ≤ h.dataLen)) ∧
    (∃ (h : CmdHdr) (p : Nat) (s : State), (Accepts h 0x0A81 s) ∧ (p ≤ 7) ∧ (8 ≤ h.dataLen)) ∧
    (∃ (h : CmdHdr) (first : Nat) (count : Nat) (s : State), (Accepts h 0x0A82 s) ∧ (first ≤ 2047) ∧ (first + count ≤ 2048) ∧ (16 * count ≤ h.dataLen)) ∧
    (∃ (h : CmdHdr) (n : Nat) (s : State), (Accepts h 0x0B81 s) ∧ (n ≤ 7) ∧ (21 ≤ h.dataLen)) ∧
    (∃ (h : CmdHdr) (s : State), (Accepts h 0x0B82 s) ∧ (6 ≤ h.dataLen)) ∧
    (∃ (h : CmdHdr) (s : State), (Accepts h 0x0C83 s) ∧ (6 ≤ h.dataLen)) :=
  ⟨⟨hdr, 7, running, by decide +kernel⟩,
   ⟨hdr, 7, running, by decide +kernel⟩,
   ⟨hdr, 7, running, by decide +kernel⟩,
   ⟨hdr, 127, streaming, by decide +kernel⟩,
   ⟨hdr, 1, running, by decide +kernel⟩,
   ⟨hdr, running, by decide +kernel⟩,
   ⟨hdr, running, by decide +kernel⟩,
   ⟨hdr, running, by decide +kernel⟩,
   ⟨hdr, 4, running, by decide +kernel⟩,
   ⟨hdr, 7, running, by decide +kernel⟩,
   ⟨hdr, 2047, 1, running, by decide +kernel⟩,
   ⟨hdr, 7, running, by decide +kernel⟩,
   ⟨hdr, running, by decide +kernel⟩,
   ⟨hdr, running, by decide +kernel⟩⟩

/-- Hypotheses of `Obligations.ReadsAnswer` that a state meets, clause by clause. -/
theorem witness_ReadsAnswer :
    (∃ (h : CmdHdr) (s : State), (Accepts h 0x0001 s)) ∧
    (∃ (h : CmdHdr) (s : State), (Accepts h 0x0002 s) ∧ (64 ≤ h.dataLen)) ∧
    (∃ (h : CmdHdr) (s : State), (Accepts h 0x0006 s) ∧ (32 ≤ h.dataLen)) ∧
    (∃ (h : CmdHdr) (s : State), (Accepts h 0x0006 s) ∧ (64 ≤ h.dataLen)) ∧
    (∃ (h : CmdHdr) (s : State), (Accepts h 0x0006 s) ∧ (64 ≤ h.dataLen)) ∧
    (∃ (h : CmdHdr) (s : State), (Accepts h 0x0702 s) ∧ (32 ≤ h.dataLen)) ∧
    (∃ (h : CmdHdr) (die : Nat) (i : Nat) (s : State), (Accepts h 0x0302 s) ∧ (die ≤ 3) ∧ (i ≤ 40) ∧ (132 ≤ h.dataLen)) ∧
    (∃ (h : CmdHdr) (c : Nat) (s : State), (Accepts h 0x020A s) ∧ (c ≤ 31) ∧ (8 ≤ h.dataLen)) ∧
    (∃ (h : CmdHdr) (n : Nat) (seq : Nat) (x : Stored) (rest : List Stored) (k : Coder) (s : State), (Accepts h 0x0405 s) ∧ (n ≤ 127) ∧ (heldFrom (streamAt s n) seq = x :: rest) ∧ (x.coder = some k) ∧ (storedBad s x = false) ∧ (32 ≤ h.dataLen)) ∧
    (∃ (h : CmdHdr) (s : State), (Accepts h 0x0806 s) ∧ (512 ≤ h.dataLen)) :=
  ⟨⟨hdr, running, by decide +kernel⟩,
   ⟨hdr, running, by decide +kernel⟩,
   ⟨hdr, running, by decide +kernel⟩,
   ⟨hdr, running, by decide +kernel⟩,
   ⟨hdr, running, by decide +kernel⟩,
   ⟨hdr, running, by decide +kernel⟩,
   ⟨hdr, 3, 40, running, by decide +kernel⟩,
   ⟨hdr, 31, running, by decide +kernel⟩,
   ⟨hdr, 127, 4, storedRec, [], coder0, streaming, by decide +kernel⟩,
   ⟨hdr, running, by decide +kernel⟩⟩

/-- Hypotheses of `Obligations.CaptureUnitsRun` that a state meets, clause by clause. -/
theorem witness_CaptureUnitsRun :
    (∃ (u : Nat) (k : Capture) (o : Capo) (s : State), ((unitAt s u).cap = some k) ∧ ((unitAt s u).capos.find? (·.filling) = some o) ∧ (captureDue s k = true)) ∧
    (∃ (u : Nat) (s : State), ((unitAt s u).state = .rearm)) ∧
    (∃ (u : Nat) (s : State), ((unitAt s u).state = .full) ∧ (unitRoom s u = true)) ∧
    (∃ (u : Nat) (s : State), ((unitAt s u).state = .armed) ∧ (0 < (unitOf s.live u).auto) ∧ (s.fret.acquiring = true)) ∧
    (∃ (n : Nat) (ring : Nat) (x : Stored) (found : List ReadError) (s : State), ((streamAt s n).isOpen = true) ∧ ((streamAt s n).type = tyCapHeader) ∧ (replayReady s = false) ∧ ((streamAt s n).hostRing = some ring) ∧ ((streamAt s n).ranges = []) ∧ ((streamAt s n).safeDue = []) ∧ ((streamAt s n).gone = []) ∧ ((streamAt s n).stored.find? (fun y => decide (y.rcd.seq = (streamAt s n).point)) = some x) ∧ (x.failover = false) ∧ (storedBad s x = false) ∧ (ringTakes s ring (recordLen x.rcd) = true) ∧ (sliceBytes x ≤ tget 0 s.hist.readSoFar n + readShare s) ∧ (((readErrors 2 x found (readStep n (sliceBytes x) (afterPause s)).1).2 = false → ringTakes (readErrors 2 x found (readStep n (sliceBytes x) (afterPause s)).1).1 ring (recordLen x.rcd) = true))) :=
  ⟨⟨7, capture0, capo0, capturingU7, by decide +kernel⟩,
   ⟨7, { running with trig.units := [(7, { unitRun0 with state := .rearm, closedAt := 799999990 })] }, by decide +kernel⟩,
   ⟨7, { running with trig.units := [(7, { unitRun0 with state := .full })], live.units := [(7, { unitSet0 with quota := 1 })] }, by decide +kernel⟩,
   ⟨7, { running with trig.units := [(7, { unitRun0 with state := .armed, armedAt := 799000000 })], live.units := [(7, { unitSet0 with auto := 3, select := 1 })], fret.acquiring := true }, by decide +kernel⟩,
   ⟨127, 2, storedCap, [], { running with streams := [(127, { streamCtx0 with isOpen := true, type := tyCapHeader, hostRing := some 2, select := [7], point := 4, stored := [storedCap] })], host.rings := [(1, cplRing1), (2, recordRing2)] }, by decide +kernel⟩⟩

/-- Hypotheses of `Obligations.CaptureCommands` that a state meets, clause by clause. -/
theorem witness_CaptureCommands :
    (∃ (h : CmdHdr) (p : UnitP) (s : State), (Accepts h 0x0503 s) ∧ (unitCheck p s = none)) ∧
    (∃ (h : CmdHdr) (u : Nat) (s : State), (Accepts h 0x0504 s) ∧ (u ≤ 7) ∧ ((unitAt s u).state = .idle) ∧ (quotaCheck s.cfg u = none)) ∧
    (∃ (h : CmdHdr) (u : Nat) (s : State), (Accepts h 0x0504 s) ∧ (u ≤ 7) ∧ ((unitAt s u).state ≠ .idle)) ∧
    (∃ (h : CmdHdr) (u : Nat) (s : State), (Accepts h 0x0505 s) ∧ (u ≤ 7) ∧ ((unitAt s u).state = .idle) ∧ ((unitAt s u).wait = none)) ∧
    (∃ (h : CmdHdr) (u : Nat) (s : State), (Accepts h 0x0505 s) ∧ (u ≤ 7) ∧ ((unitAt s u).state ≠ .capturing) ∧ (¬ ((unitAt s u).state = .idle ∧ (unitAt s u).wait = none))) ∧
    (∃ (h : CmdHdr) (u : Nat) (k : Capture) (s : State), (Accepts h 0x0505 s) ∧ (u ≤ 7) ∧ ((unitAt s u).state = .capturing) ∧ ((unitAt s u).cap = some k)) ∧
    (∃ (h : CmdHdr) (u : Nat) (before : List Capo) (after : List Capo) (k : Capo) (s : State), (Accepts h 0x0507 s) ∧ (u ≤ 7) ∧ ((unitAt s u).capos = before ++ k :: after) ∧ ((∀ x ∈ before, x.no ≠ k.no)) ∧ (k.filling = false) ∧ (capoDelivered s k = true)) ∧
    (∃ (h : CmdHdr) (u : Nat) (ns : Nat) (s : State), (Accepts h 0x0506 s) ∧ (u ≤ 7) ∧ (ns < 1000000000) ∧ ((unitAt s u).state = .armed) ∧ (s.fret.acquiring = true)) ∧
    (∃ (h : CmdHdr) (g : Nat) (ns : Nat) (s : State), (Accepts h 0x0506 s) ∧ (g ≤ 15) ∧ (ns < 1000000000)) :=
  ⟨⟨hdr, unitP0, dramUp, by decide +kernel⟩,
   ⟨hdr, 7, { running with cfg.units := [(7, { unitSet0 with quota := 100, select := 1 })] }, by decide +kernel⟩,
   ⟨hdr, 7, { running with trig.units := [(7, { unitRun0 with state := .rearm })] }, by decide +kernel⟩,
   ⟨hdr, 7, { running with cfg.units := [(7, { unitSet0 with quota := 100, select := 1 })] }, by decide +kernel⟩,
   ⟨hdr, 7, { running with trig.units := [(7, { unitRun0 with state := .armed })] }, by decide +kernel⟩,
   ⟨hdr, 7, capture0, capturingU7, by decide +kernel⟩,
   ⟨hdr, 7, [], [], { capo0 with filling := false }, { running with trig.units := [(7, { unitRun0 with state := .rearm, capos := [{ capo0 with filling := false }] })] }, by decide +kernel⟩,
   ⟨hdr, 7, 0, { running with trig.units := [(7, { unitRun0 with state := .armed })], fret.acquiring := true }, by decide +kernel⟩,
   ⟨hdr, 15, 999999999, running, by decide +kernel⟩⟩

/-- Hypotheses of `Obligations.TriggerSettings` that a state meets, clause by clause. -/
theorem witness_TriggerSettings :
    (∃ (h : CmdHdr) (first : Nat) (es : List CondP) (s : State), (Accepts h 0x0501 s) ∧ (condCheck first es s = none)) ∧
    (∃ (h : CmdHdr) (p : CombP) (s : State), (Accepts h 0x0502 s) ∧ (combCheck p = none)) ∧
    (∃ (h : CmdHdr) (g : Nat) (mode : Nat) (wG : Nat) (s : State), (Accepts h 0x0508 s) ∧ (g ≤ 15) ∧ (mode ≤ 1) ∧ (wG ≤ 10000)) :=
  ⟨⟨hdr, 1022, [condP0, { condP0 with kind := 8, src := ⟨.gpio, 3⟩, enable := true }], running, by decide +kernel⟩,
   ⟨hdr, { comb := 15, mode := 2, k := 3, w := 1000, anchor := 1, holdoff := 1000, sympGroup := 15, event := 1 }, running, by decide +kernel⟩,
   ⟨hdr, 15, 1, 10000, running, by decide +kernel⟩⟩

/-- Hypotheses of `Obligations.TriggerUnitFires` that a state meets, clause by clause. -/
theorem witness_TriggerUnitFires :
    (∃ (w : TrigWord) (s : State), (firstWord s.trig.flight = some w) ∧ (watching s w.src = [])) ∧
    (∃ (w : TrigWord) (i : Nat) (ta : Nat) (xa : Int) (e : CondSet) (s : State), (firstWord s.trig.flight = some w) ∧ (watching s w.src = [(i, e)]) ∧ (condSetAt s.live i = e) ∧ (e.kind = 1) ∧ ((condAt s i).riseArmed = true) ∧ ((condAt s i).prev = some (xa, ta)) ∧ (bitOf w.tags tagValid = true) ∧ (bitOf w.tags tagSettling = false) ∧ (xa < e.a) ∧ (e.a ≤ w.x) ∧ ((combSetAt s.live e.comb).mode = 0) ∧ ((combSetAt s.live e.comb).holdoff = 0) ∧ ((combAt s e.comb).terms = [])) ∧
    (∃ (pin : Nat) (level : Bool) (s : State), (bitOf s.loc.gpio pin = level ∨ bitOf s.live.gpio.dir pin = true)) ∧
    (∃ (pin : Nat) (i : Nat) (level : Bool) (e : CondSet) (s : State), (bitOf s.loc.gpio pin = !level) ∧ (bitOf s.live.gpio.dir pin = false) ∧ (watching s ⟨.gpio, pin⟩ = [(i, e)]) ∧ (condSetAt s.live i = e) ∧ (e.kind = 8) ∧ (e.a % 2 = (b2n (!level) : Int)) ∧ ((condAt s i).riseArmed = true) ∧ ((combSetAt s.live e.comb).mode = 0) ∧ ((combSetAt s.live e.comb).holdoff = 0) ∧ ((combAt s e.comb).terms = [])) ∧
    (∃ (c : Nat) (x : Term) (xs : List Term) (s : State), ((combAt s c).terms = x :: xs)) :=
  ⟨⟨⟨⟨.dynamic, 5⟩, 9, 1, 2000000000, 4000000200⟩, { running with trig.flight := [⟨⟨.dynamic, 5⟩, 9, 1, 2000000000, 4000000200⟩] }, by decide +kernel⟩,
   ⟨⟨⟨.dynamic, 5⟩, 9, 1, 2000000000, 4000000200⟩, 1023, 1999999000, 7, condRise, { running with trig.flight := [⟨⟨.dynamic, 5⟩, 9, 1, 2000000000, 4000000200⟩], live.conds := [(1023, condRise)], trig.conds := [(1023, { condRun0 with prev := some (7, 1999999000) })] }, by decide +kernel⟩,
   ⟨15, false, running, by decide +kernel⟩,
   ⟨15, 1023, true, { condRise with src := ⟨.gpio, 15⟩, kind := 8, a := 0 }, { running with live.conds := [(1023, { condRise with src := ⟨.gpio, 15⟩, kind := 8, a := 0 })] }, by decide +kernel⟩,
   ⟨15, { entry := 0, time := 1000000000, sub := 0 }, [{ entry := 1, time := 900000000, sub := 0 }], { running with trig.combs := [(15, { combRun0 with terms := [{ entry := 0, time := 1000000000, sub := 0 }, { entry := 1, time := 900000000, sub := 0 }] })] }, by decide +kernel⟩⟩

/-- Hypotheses of `Obligations.SympatheticTriggers` that a state meets, clause by clause. -/
theorem witness_SympatheticTriggers :
    (∃ (p : List Byte) (s : State), ((s.trig.seenSymp.filter (fun e => decide (s.time.cclk < e.2 + 4000000))).any (fun e => decide (e.1 = ofLe p)) = true)) ∧
    (∃ (p : List Byte) (s : State), ((s.trig.seenSymp.filter (fun e => decide (s.time.cclk < e.2 + 4000000))).any (fun e => decide (e.1 = ofLe p)) = false) ∧ ((p.length ≠ 32 ∨ (crc32c (p.take 28)).toNat ≠ fieldAt p 28 4))) ∧
    (∃ (g : Nat) (origin : Nat) (comb : Nat) (seq : Nat) (sub : Nat) (merged : Nat) (time : Nat) (s : State), (g < 16) ∧ (origin < 64) ∧ (comb < 16) ∧ (seq < 65536) ∧ (sub < 256) ∧ (merged < 256) ∧ (origin ≠ s.live.ring.hubId) ∧ (s.trig.seenSymp = []) ∧ (time ≤ s.time.half / 2) ∧ (s.time.half / 2 < time + 2000000000) ∧ (s.time.half < 2 ^ 60)) ∧
    (∃ (g : Nat) (m : Merge) (s : State), (tget none s.trig.merges g = some m) ∧ (s.ring.arbiter.held = true)) ∧
    (∃ (g : Nat) (q : SentRequest) (qs : List SentRequest) (s : State), (tget [] s.trig.requests g = q :: qs)) :=
  ⟨⟨[1, 2, 3], { running with trig.seenSymp := [(197121, 799000000)] }, by decide +kernel⟩,
   ⟨[1, 2, 3], running, by decide +kernel⟩,
   ⟨15, 63, 15, 65535, 255, 1, 1999999999, { running with live.units := [(7, { unitSet0 with source := 0x1F, select := 1 })], trig.units := [(7, { unitRun0 with state := .armed })], fret.acquiring := true }, by decide +kernel⟩,
   ⟨15, merge0, { running with ring.arbiter.held := true, trig.merges := [(15, some merge0)], live.units := [(7, { unitSet0 with source := 0x1F, select := 1 })], trig.units := [(7, { unitRun0 with state := .armed })], fret.acquiring := true }, by decide +kernel⟩,
   ⟨15, request0, [], { running with trig.requests := [(15, [request0])], live.units := [(7, { unitSet0 with source := 0x1F, select := 1 })], trig.units := [(7, { unitRun0 with state := .armed })], fret.acquiring := true }, by decide +kernel⟩⟩

/-- Hypotheses of `Obligations.ReductionRecordsClose` that a state meets, clause by clause. -/
theorem witness_ReductionRecordsClose :
    (∃ (n : Nat) (o : StatsOpen) (rest : List StatsOpen) (s : State) (v : State), ((statsAt s n).opened = o :: rest) ∧ (derivedDue 1 o.ending s = some v)) ∧
    (∃ (n : Nat) (o : RainOpen) (rest : List RainOpen) (s : State) (v : State), ((rainAt s n).opened = o :: rest) ∧ (derivedDue (rainDelay s.live o.set) o.ending s = some v)) ∧
    (∃ (n : Nat) (o : SpecOpen) (rest : List SpecOpen) (s : State) (v : State), ((specAt s n).opened = o :: rest) ∧ (derivedDue (specDelay s.live) o.ending s = some v)) ∧
    (∃ (e : Nat) (s : State), (s.red.testEnd = some e)) ∧
    (∃ (e : Nat) (h : CmdHdr) (s : State), (s.red.testEnd = some e) ∧ (s.red.testHdrs = [h]) ∧ (h.gateway = none) ∧ (orphanKey h ∉ s.host.orphans)) :=
  ⟨⟨7, { statsOpen0 with stop := 3000000 }, [], { running with red.stats := [(7, { statsRun0 with opened := [{ statsOpen0 with stop := 3000000 }] })] }, { running with red.stats := [(7, { statsRun0 with opened := [{ statsOpen0 with stop := 3000000 }] })] }, rfl, rfl⟩,
   ⟨7, rainOpen0, [], { running with red.rain := [(7, { rainSetRun0 with opened := [rainOpen0] })] }, { running with red.rain := [(7, { rainSetRun0 with opened := [rainOpen0] })] }, rfl, rfl⟩,
   ⟨7, specOpen0, [], { running with red.spec := [(7, { specRun0 with opened := [specOpen0] })] }, { running with red.spec := [(7, { specRun0 with opened := [specOpen0] })] }, rfl, rfl⟩,
   ⟨2000000000, { running with red.testEnd := some 2000000000 }, by decide +kernel⟩,
   ⟨2000000000, hdr, { running with red.testEnd := some 2000000000, red.testHdrs := [hdr] }, by decide +kernel⟩⟩

/-- Hypotheses of `Obligations.ReductionSettings` that a state meets, clause by clause. -/
theorem witness_ReductionSettings :
    (∃ (h : CmdHdr) (n : Nat) (interval : Nat) (stream : Nat) (es : List Chan) (s : State), (Accepts h 0x0601 s) ∧ (statsCheck n interval stream es s = none) ∧ (needGrants (statsConfig n interval stream es s.cfg) s.streams s = []) ∧ (s.ring.grants = [])) ∧
    (∃ (h : CmdHdr) (n : Nat) (interval : Nat) (stream : Nat) (cs : List RainChanP) (s : State), (Accepts h 0x0602 s) ∧ (rainCheck n interval stream cs s = none) ∧ (needGrants (rainConfig n interval stream cs s.cfg) s.streams s = []) ∧ (s.ring.grants = [])) ∧
    (∃ (h : CmdHdr) (p : SpectralP) (s : State), (Accepts h 0x0603 s) ∧ (specCheck p s = none) ∧ (needGrants (specConfig p s.cfg) s.streams s = []) ∧ (s.ring.grants = [])) ∧
    (∃ (h : CmdHdr) (s : State), (Accepts h 0x0604 s) ∧ (s.red.testEnd = none) ∧ (s.red.failed = false)) ∧
    (∃ (h : CmdHdr) (s : State), (Accepts h 0x0604 s) ∧ (s.red.testEnd ≠ none)) ∧
    (∃ (h : CmdHdr) (s : State), (Accepts h 0x0604 s) ∧ (s.red.testEnd = none) ∧ (s.red.failed = true)) :=
  ⟨⟨hdr, 7, 3600000000, 5, [], dramUp, by decide +kernel⟩,
   ⟨hdr, 7, 86400, 5, [], dramUp, by decide +kernel⟩,
   ⟨hdr, { set := 7, log2n := 16, window := 4, overlap := 2, a := 1, stream := 5, chans := [], pairs := [] }, dramUp, by decide +kernel⟩,
   ⟨hdr, running, by decide +kernel⟩,
   ⟨hdr, { running with red.testEnd := some 2000000000, red.testHdrs := [hdr] }, by decide +kernel⟩,
   ⟨hdr, { running with red.failed := true }, by decide +kernel⟩⟩

/-- Hypotheses of `Obligations.StreamCommands` that a state meets, clause by clause. -/
theorem witness_StreamCommands :
    (∃ (h : CmdHdr) (p : SubscribeP) (s : State), (Accepts h 0x0401 s) ∧ ((streamAt s p.stream).isOpen = false) ∧ (subscribeCheck p s = none) ∧ (needGrants s.cfg (tput streamCtx0 s.streams p.stream (newStream p)) s = [])) ∧
    (∃ (h : CmdHdr) (p : SubscribeP) (n : Nat) (rho : Nat) (sigma : Nat) (ns : List (Nat × Nat × Nat)) (s : State), (Accepts h 0x0401 s) ∧ ((streamAt s p.stream).isOpen = false) ∧ (subscribeCheck p s = none) ∧ (needGrants s.cfg (tput streamCtx0 s.streams p.stream (newStream p)) s = (n, rho, sigma) :: ns) ∧ (s.ring.state = .joined) ∧ (s.ring.gateway.held = false) ∧ (leaseKnown s.ring.gateway (nowNs s) = true)) ∧
    (∃ (h : CmdHdr) (p : SubscribeP) (s : State), (Accepts h 0x0401 s) ∧ ((streamAt s p.stream).isOpen = false) ∧ (subscribeCheck p s = none) ∧ (needGrants s.cfg (tput streamCtx0 s.streams p.stream (newStream p)) s ≠ [])) ∧
    (∃ (h : CmdHdr) (p : SubscribeP) (ns : List (Nat × Nat × Nat)) (s : State), (Accepts h 0x0401 s) ∧ ((streamAt s p.stream).isOpen = false) ∧ (subscribeCheck p s = none) ∧ (needGrants s.cfg (tput streamCtx0 s.streams p.stream (newStream p)) s = ns) ∧ (ns ≠ []) ∧ (s.ring.state = .joined) ∧ (s.ring.gateway.held = true)) ∧
    (∃ (h : CmdHdr) (p : SubscribeP) (s : State), (Accepts h 0x0401 s) ∧ ((streamAt s p.stream).isOpen = true) ∧ (subscribeCheck p s = none)) ∧
    (∃ (h : CmdHdr) (n : Nat) (s : State), (Accepts h 0x0402 s) ∧ (n ≤ 127) ∧ ((streamAt s n).isOpen = true)) ∧
    (∃ (h : CmdHdr) (n : Nat) (s : State), (Accepts h 0x0402 s) ∧ (n ≤ 127) ∧ ((streamAt s n).isOpen = false)) ∧
    (∃ (h : CmdHdr) (hub : Nat) (n : Nat) (s : State), (Accepts h 0x0403 s) ∧ (hub ≤ 63) ∧ (n ≤ 127)) ∧
    (∃ (h : CmdHdr) (hub : Nat) (n : Nat) (ring : Nat) (s : State), (Accepts h 0x0403 s) ∧ (hub ≤ 63) ∧ (n ≤ 127) ∧ (recordRing s ring = true)) ∧
    (∃ (h : CmdHdr) (p : RetrieveP) (s : State) (e : State × List Nat) (fit : List (Record × Nat)), (Accepts h 0x0404 s) ∧ (retrieveCheck p h.gateway.isSome s = none) ∧ (p.dest = 0) ∧ (canRetrieve p s = true) ∧ (e = readAll 3 (retrieveReads p s) p.found { s with hist.fretRead := s.hist.fretRead + sumOf sliceBytes (retrieveReads p s) }) ∧ (fit = fitting h.dataLen ((retrievedWith e.2 (streamAt e.1 p.stream) p.firstSeq e.1).take p.count))) ∧
    (∃ (h : CmdHdr) (p : RetrieveP) (g : Nat) (s : State) (e : State × List Nat) (got : List (Record × Nat)), (Accepts h 0x0404 s) ∧ (retrieveCheck p true s = none) ∧ (p.dest = 1) ∧ (h.gateway = some g) ∧ (canRetrieve p s = true) ∧ (e = readAll 3 (retrieveReads p s) p.found { s with hist.fretRead := s.hist.fretRead + sumOf sliceBytes (retrieveReads p s) }) ∧ (got = (retrievedWith e.2 (streamAt e.1 p.stream) p.firstSeq e.1).take p.count)) ∧
    (∃ (h : CmdHdr) (p : RetrieveP) (s : State) (e : State × List Nat) (fit : List (Record × Nat)), (Accepts h 0x0404 s) ∧ (retrieveCheck p false s = none) ∧ (p.dest = 1) ∧ (h.gateway = none) ∧ (canRetrieve p s = true) ∧ (e = readAll 3 (retrieveReads p s) p.found { s with hist.fretRead := s.hist.fretRead + sumOf sliceBytes (retrieveReads p s) }) ∧ ((ringAt s p.hostRing).active = true) ∧ (fit = fitting (ringFree (ringAt e.1 p.hostRing)) ((retrievedWith e.2 (streamAt e.1 p.stream) p.firstSeq e.1).take p.count))) ∧
    (∃ (h : CmdHdr) (p : RetrieveP) (s : State) (e : State × List Nat), (Accepts h 0x0404 s) ∧ (retrieveCheck p false s = none) ∧ (p.dest = 1) ∧ (h.gateway = none) ∧ (canRetrieve p s = true) ∧ ((ringAt s p.hostRing).active = false) ∧ (e = readAll 3 (retrieveReads p s) p.found { s with hist.fretRead := s.hist.fretRead + sumOf sliceBytes (retrieveReads p s) }) ∧ (fitting 0 ((retrievedWith e.2 (streamAt e.1 p.stream) p.firstSeq e.1).take p.count) = [])) ∧
    (∃ (h : CmdHdr) (p : RetrieveP) (s : State), (Accepts h 0x0404 s) ∧ (retrieveCheck p h.gateway.isSome s = none) ∧ (canRetrieve p s = false)) :=
  ⟨⟨hdr, { stream := 127, type := 1, events := 1, align := 0, level := 4, hostRing := 2, ring := 0, select := [7] }, { dramUp with host.rings := [(1, cplRing1), (2, recordRing2)] }, by decide +kernel⟩,
   ⟨hdr, subP0, 127, subFigures.1, subFigures.2, [], { subscribable with ring.state := .joined, ring.gateway := { linked.ring.gateway with holder := some 9, lastMsg := some 1999000000 } }, by decide +kernel⟩,
   ⟨hdr, subP0, subscribable, by decide +kernel⟩,
   ⟨hdr, subP0, [(127, subFigures)], { subscribable with ring := gatewayUp.ring }, by decide +kernel⟩,
   ⟨hdr, { stream := 127, type := 1, events := 0, align := 0, level := 0, hostRing := 2, ring := 0, select := [7] }, { running with streams := [(127, { streamCtx0 with isOpen := true, type := tyScan, hostRing := some 2, select := [7], coder := clearedCoder 0 })], host.rings := [(1, cplRing1), (2, recordRing2)] }, by decide +kernel⟩,
   ⟨hdr, 127, streaming, by decide +kernel⟩,
   ⟨hdr, 127, running, by decide +kernel⟩,
   ⟨hdr, 63, 127, running, by decide +kernel⟩,
   ⟨hdr, 63, 127, 2, { running with host.rings := [(1, cplRing1), (2, recordRing2)] }, by decide +kernel⟩,
   ⟨hdr, { stream := 127, firstSeq := 4, count := 1, dest := 0, hostRing := 0, found := [] }, streaming, (streaming, []), fitting 4096 ((retrieved (streamAt streaming 127) 4 streaming).take 1), by decide +kernel, by decide +kernel, rfl, by decide +kernel, rfl, rfl⟩,
   ⟨{ hdr with gateway := some 3 }, { stream := 127, firstSeq := 4, count := 1, dest := 1, hostRing := 0, found := [] }, 3, streaming, (streaming, []), (retrieved (streamAt streaming 127) 4 streaming).take 1, by decide +kernel, by decide +kernel, rfl, rfl, by decide +kernel, rfl, rfl⟩,
   ⟨hdr, { stream := 127, firstSeq := 4, count := 1, dest := 1, hostRing := 2, found := [] }, { streaming with host.rings := [(1, cplRing1), (2, recordRing2)] }, ({ streaming with host.rings := [(1, cplRing1), (2, recordRing2)] }, []), fitting 65536 ((retrieved (streamAt streaming 127) 4 streaming).take 1), by decide +kernel, by decide +kernel, rfl, rfl, by decide +kernel, rfl, by decide +kernel, rfl⟩,
   ⟨hdr, { stream := 127, firstSeq := 4, count := 1, dest := 1, hostRing := 2, found := [] }, { streaming with host.rings := [(1, cplRing1), (2, { recordRing2 with active := false })] }, ({ streaming with host.rings := [(1, cplRing1), (2, { recordRing2 with active := false })] }, []), by decide +kernel, by decide +kernel, rfl, rfl, by decide +kernel, by decide +kernel, rfl, by decide +kernel⟩,
   ⟨hdr, { stream := 127, firstSeq := 4, count := 1, dest := 0, hostRing := 0, found := [] }, { streaming with dram.pauseEnd := 900000000 }, by decide +kernel, by decide +kernel, by decide +kernel⟩⟩

/-- Hypotheses of `Obligations.DeliveryEvents` that a state meets, clause by clause. -/
theorem witness_DeliveryEvents :
    (∃ (n : Nat) (r : Nat) (x : Stored) (found : List ReadError) (e : State × Bool) (s : State), ((streamAt s n).isOpen = true) ∧ ((streamAt s n).replay = true) ∧ ((streamAt s n).ranges = []) ∧ ((streamAt s n).safeDue = []) ∧ ((streamAt s n).gone = []) ∧ ((streamAt s n).type ≠ tyCapHeader) ∧ ((streamAt s n).hostRing = some r) ∧ ((streamAt s n).stored.find? (fun y => decide (y.rcd.seq = (streamAt s n).point)) = some x) ∧ (x.failover = false) ∧ (storedBad s x = false) ∧ (s.dram.pauseEnd ≤ s.time.cclk) ∧ (sliceBytes x ≤ tget 0 s.hist.readSoFar n + readShare s) ∧ (e = readErrors 1 x found { s with hist.fretRead := s.hist.fretRead + (sliceBytes x - tget 0 s.hist.readSoFar n), hist.readSoFar := tdrop s.hist.readSoFar n }) ∧ (e.2 = false) ∧ (ringTakes s r (recordLen (asReplayed x.rcd)) = true) ∧ (ringTakes e.1 r (recordLen (asReplayed x.rcd)) = true)) ∧
    (∃ (n : Nat) (r : Nat) (l : LostRange) (ls : List LostRange) (s : State), ((streamAt s n).isOpen = true) ∧ ((streamAt s n).replay = true) ∧ ((streamAt s n).ranges = l :: ls) ∧ ((streamAt s n).safeDue = []) ∧ ((streamAt s n).gone = []) ∧ ((streamAt s n).type ≠ tyCapHeader) ∧ ((streamAt s n).hostRing = some r) ∧ (recordAt (streamAt s n) (streamAt s n).point = none) ∧ ((streamAt s n).stored.find? (fun y => decide (y.rcd.seq = (streamAt s n).point)) = none) ∧ (ringTakes s r (recordLen (lostRecord n l s)) = true)) ∧
    (∃ (n : Nat) (x : Stored) (xs : List Stored) (s : State), ((streamAt s n).hold = true) ∧ (((streamAt s n).holders = [] ∨ (streamAt s n).holders.any (hubPresent s) = true)) ∧ ((streamAt s n).ring = true) ∧ (s.ring.state = .joined) ∧ ((streamAt s n).ringRanges = []) ∧ ((streamAt s n).ringSafe = []) ∧ ((streamAt s n).gone = []) ∧ (storedFrom (streamAt s n) (streamAt s n).ringNext = x :: xs)) ∧
    (∃ (dst : Nat) (w : Nat) (held : Bool) (r : Record) (rest : List (Nat × Bool × Record)) (s : State), (s.ring.state = .joined) ∧ (s.ring.retrieval = (dst, held, r) :: rest) ∧ (dst < 64) ∧ (w = wireBytes (recordLen r)) ∧ (w ≤ (tget (0, 0) s.ring.credit dst).1)) ∧
    (∃ (w : Nat) (held : Bool) (r : Record) (rest : List (Nat × Bool × Record)) (s : State), (s.ring.state = .joined) ∧ (s.ring.retrieval = (64, held, r) :: rest) ∧ (w = wireBytes (recordLen r)) ∧ (s.ring.creditors ≠ []) ∧ (s.ring.creditors.Nodup) ∧ ((∀ h ∈ s.ring.creditors, w ≤ (tget (0, 0) s.ring.credit h).1))) ∧
    (∃ (hub : Nat) (s : State), ((tget (0, 0) s.ring.credit hub).1 ≠ 0) ∧ (pairActive s = true)) ∧
    (∃ (hub : Nat) (n : Nat) (r : Nat) (bytes : List Byte) (rest : List (Nat × Nat × List Byte × Bool)) (s : State), (s.ring.arrived = (hub, n, bytes, false) :: rest) ∧ (remoteRing s hub n false = some r) ∧ (ringTakes s r bytes.length = true)) ∧
    (∃ (hub : Nat) (n : Nat) (r : Nat) (bytes : List Byte) (rest : List (Nat × Nat × List Byte × Bool)) (s : State), (s.ring.arrived = (hub, n, bytes, false) :: rest) ∧ (remoteRing s hub n false = some r) ∧ (ringTakes s r bytes.length = false)) ∧
    (∃ (hub : Nat) (n : Nat) (r : Nat) (bytes : List Byte) (rest : List (Nat × Nat × List Byte × Bool)) (s : State), (s.ring.arrived = (hub, n, bytes, true) :: rest) ∧ (remoteRing s hub n true = some r) ∧ (ringTakes s r bytes.length = false)) ∧
    (∃ (hub : Nat) (n : Nat) (bytes : List Byte) (retrieval : Bool) (s : State), ((hub, n, bytes, retrieval) ∉ s.ring.arrived)) :=
  ⟨⟨127, 2, storedRec, [], ({ streaming with streams := [(127, { streamCtx0 with isOpen := true, type := tyScan, hostRing := some 2, replay := true, point := 4, nextSeq := 5, stored := [storedRec] })], host.rings := [(1, cplRing1), (2, recordRing2)] }, false), { streaming with streams := [(127, { streamCtx0 with isOpen := true, type := tyScan, hostRing := some 2, replay := true, point := 4, nextSeq := 5, stored := [storedRec] })], host.rings := [(1, cplRing1), (2, recordRing2)] }, by decide +kernel, by decide +kernel, by decide +kernel, by decide +kernel, by decide +kernel, by decide +kernel, by decide +kernel, by decide +kernel, by decide +kernel, by decide +kernel, by decide +kernel, by decide +kernel, rfl, by decide +kernel, by decide +kernel, by decide +kernel⟩,
   ⟨127, 2, lost0, [], { streaming with streams := [(127, { streamCtx0 with isOpen := true, type := tyScan, hostRing := some 2, replay := true, point := 5, nextSeq := 5, stored := [storedRec], ranges := [lost0] })], host.rings := [(1, cplRing1), (2, recordRing2)] }, by decide +kernel⟩,
   ⟨127, storedRec, [], { streaming with streams := [(127, { streamCtx0 with isOpen := true, type := tyScan, ring := true, hold := true, holders := [63], ringNext := 4, ringPoint := 4, nextSeq := 5, stored := [storedRec] })], ring.state := .joined, ring.topo := [(63, { topoEntry0 with present := true })] }, by decide +kernel⟩,
   ⟨63, wireBytes (recordLen storedRec.rcd), true, storedRec.rcd, [], { running with ring.state := .joined, ring.retrieval := [(63, true, storedRec.rcd)], ring.credit := [(63, (104, 7))] }, by decide +kernel⟩,
   ⟨wireBytes (recordLen storedRec.rcd), true, storedRec.rcd, [], { running with ring.state := .joined, ring.retrieval := [(64, true, storedRec.rcd)], ring.creditors := [63, 9], ring.credit := [(63, (104, 7)), (9, (200, 7))] }, by decide +kernel⟩,
   ⟨63, { running with ring.credit := [(63, (100, 750000000))] }, by decide +kernel⟩,
   ⟨63, 127, 2, [1, 2, 3], [], { running with ring.arrived := [(63, 127, [1, 2, 3], false)], ring.recv := [(63, 127, 2)], host.rings := [(1, cplRing1), (2, recordRing2)] }, by decide +kernel⟩,
   ⟨63, 127, 2, [1, 2, 3], [], { running with ring.arrived := [(63, 127, [1, 2, 3], false)], ring.recv := [(63, 127, 2)] }, by decide +kernel⟩,
   ⟨63, 127, 2, [1, 2, 3], [], { running with ring.arrived := [(63, 127, [1, 2, 3], true)], ring.recv := [(63, 127, 2)] }, by decide +kernel⟩,
   ⟨63, 127, [1, 2, 3], true, running, by decide +kernel⟩⟩

/-- Hypotheses of `Obligations.MemoryEventsAndPartition` that a state meets, clause by clause. -/
theorem witness_MemoryEventsAndPartition :
    (∃ (s : State) (u : State), (s.dram.trained = true) ∧ (s.dram.poisoned.length < 256) ∧ (s.dram.scrub ∉ s.dram.poisoned) ∧ (s.dram.scrub + 64 < dramBytes s) ∧ (u = toCclk (max s.dram.scrubDue s.dram.pauseEnd) s)) ∧
    (∃ (s : State), (s.dram.trained = true) ∧ (s.dram.poisoned.length < 256) ∧ (s.dram.scrub ∉ s.dram.poisoned) ∧ (s.dram.scrub % 64 = 0)) ∧
    (∃ (s : State), (s.dram.trained = true) ∧ (s.dram.poisoned.length < 256) ∧ (s.dram.scrub ∉ s.dram.poisoned)) ∧
    (∃ (failures : Nat), (failures < 3)) ∧
    (∃ (failures : Nat) (s : State), (3 ≤ failures) ∧ (s.dram.poisoned.length < 256)) ∧
    (∃ (c : Nat) (s : State), (s.dram.trained = true) ∧ (c = (if s.dram.hot then 1560 else 3120) / max 1 s.dram.ranks) ∧ (s.dram.ranks ≤ 2)) ∧
    (∃ (s : State), (s.dram.trained = true)) ∧
    (∃ (h : CmdHdr) (hist : Nat) (capo : Nat) (s : State), (Accepts h 0x0701 s) ∧ (memCheck hist capo s = none)) ∧
    (∃ (n : Nat) (e : Event) (m : Event) (rest : List (Nat × Event)) (s : State), (s.pairs.waitingEvents = (n, e) :: rest) ∧ (pairActive s = true) ∧ (s.pairs.staging.length < 64) ∧ ((streamAt s n).isOpen = true) ∧ ((streamAt s n).started = true) ∧ (m = mergedEvent e (streamAt s n).heldEvents) ∧ (inAllowance (eventWire m) (streamAt s n) s = true)) ∧
    (∃ (n : Nat) (e : Event) (m : Event) (rest : List (Nat × Event)) (s : State), (s.pairs.waitingEvents = (n, e) :: rest) ∧ (pairActive s = true) ∧ (s.pairs.staging.length < 64) ∧ ((streamAt s n).isOpen = true) ∧ ((streamAt s n).started = true) ∧ (m = mergedEvent e (streamAt s n).heldEvents) ∧ (inAllowance (eventWire m) (streamAt s n) s = false)) ∧
    (∃ (n : Nat) (e : Event) (rest : List (Nat × Event)) (s : State), (s.pairs.waitingEvents = (n, e) :: rest) ∧ (pairActive s = true) ∧ (s.pairs.staging.length < 64) ∧ (((streamAt s n).isOpen && (streamAt s n).started) = false)) :=
  ⟨⟨dramUp, toCclk 0 dramUp, by decide, by decide, by decide, by decide, rfl⟩,
   ⟨dramUp, by decide +kernel⟩,
   ⟨dramUp, by decide +kernel⟩,
   ⟨2, by decide +kernel⟩,
   ⟨3, running, by decide +kernel⟩,
   ⟨3120, dramUp, by decide +kernel⟩,
   ⟨dramUp, by decide +kernel⟩,
   ⟨hdr, 18, 25, dramUp, by decide +kernel⟩,
   ⟨127, event0, event0, [], { streaming with pairs.waitingEvents := [(127, event0)] }, by decide +kernel⟩,
   ⟨127, event0, event0, [], { running with pairs.waitingEvents := [(127, event0)], streams := [(127, { streamCtx0 with isOpen := true, started := true, ring := true, allowAt := 902000000 })] }, by decide +kernel⟩,
   ⟨127, event0, [], { running with pairs.waitingEvents := [(127, event0)] }, by decide +kernel⟩⟩

/-- Hypotheses of `Obligations.RingFrames` that a state meets, clause by clause. -/
theorem witness_RingFrames :
    (∃ (p : Port) (s : State), (linkOf s p = false)) ∧
    (∃ (p : Port) (f : RingFrame) (s : State), (linkOf s p = true) ∧ (frameRefused s f = true)) ∧
    (∃ (p : Port) (f : RingFrame) (s : State), (linkOf s p = true) ∧ (frameRefused s f = false) ∧ (lsduOk f = false)) ∧
    (∃ (p : Port) (f : RingFrame) (s : State), (linkOf s p = true) ∧ (frameRefused s f = false) ∧ (lsduOk f = true) ∧ (f.srcAddr = hubAddr s.live.ring.hubId)) ∧
    (∃ (p : Port) (f : RingFrame) (s : State), (linkOf s p = true) ∧ (frameRefused s f = false) ∧ (lsduOk f = true) ∧ (f.srcAddr ≠ hubAddr s.live.ring.hubId) ∧ (duplicate s f = true)) ∧
    (∃ (p : Port) (f : RingFrame) (s : State), (linkOf s p = true) ∧ (frameRefused s f = false) ∧ (lsduOk f = true) ∧ (f.srcAddr ≠ hubAddr s.live.ring.hubId) ∧ (duplicate s f = false) ∧ (f.fcsOk = true) ∧ (f.dstAddr ≠ hubAddr s.live.ring.hubId) ∧ (f.dstAddr ≠ allAddr) ∧ (f.etherType = s.live.ring.etherType) ∧ (f.etherType ≠ 0x88F7)) ∧
    (∃ (p : Port) (f : RingFrame) (s : State), (linkOf s p = true) ∧ (frameRefused s f = false) ∧ (lsduOk f = true) ∧ (f.srcAddr ≠ hubAddr s.live.ring.hubId) ∧ (duplicate s f = false) ∧ (f.fcsOk = false) ∧ (f.dstAddr ≠ hubAddr s.live.ring.hubId) ∧ (f.etherType = s.live.ring.etherType) ∧ (f.etherType ≠ 0x88F7)) ∧
    (∃ (p : Port) (f : RingFrame) (s : State), (linkOf s p = true) ∧ (frameRefused s f = false) ∧ (lsduOk f = true) ∧ (f.srcAddr ≠ hubAddr s.live.ring.hubId) ∧ (duplicate s f = false) ∧ (f.fcsOk = true) ∧ (f.dstAddr = hubAddr s.live.ring.hubId) ∧ (f.etherType = s.live.ring.etherType) ∧ (f.etherType ≠ 0x88F7) ∧ (s.ring.state = .joined) ∧ (jcrcOk f = true) ∧ (versionRead s (fVersion f) = true) ∧ (fKind f = 1)) ∧
    (∃ (f : RingFrame) (s : State), (s.ring.reasm.all (fun r => !sameRecord r (fSrc f) (fStream f) (fTag f)) = true) ∧ (fFrag f = 0) ∧ (fLast f = true)) ∧
    (∃ (e : Nat × Nat × Nat) (es : List (Nat × Nat × Nat)) (s : State), (s.ring.dups = e :: es)) ∧
    (∃ (hub : Nat) (stream : Nat) (tag : Nat) (r : Reassembly) (s : State), (s.ring.reasm.find? (fun r => sameRecord r hub stream tag) = some r)) ∧
    (∃ (p : Port) (pre : List Waiting) (ws : List Waiting) (w : Waiting) (c : Nat) (s : State) (u : State), (firstReady (egressOf s p) = some c) ∧ (u = toCclk c s) ∧ (egressOf s p = pre ++ w :: ws) ∧ (w.ready ≤ u.time.cclk) ∧ ((∀ v ∈ pre, v.ready ≤ u.time.cclk → w.cls < v.cls ∨ (w.cls = v.cls ∧ (w.ready < v.ready ∨ (w.ready = v.ready ∧ isTransit w = true ∧ isTransit v = false))))) ∧ ((∀ v ∈ ws, v.ready ≤ u.time.cclk → w.cls < v.cls ∨ (w.cls = v.cls ∧ (w.ready < v.ready ∨ (w.ready = v.ready ∧ (isTransit w = true ∨ isTransit v = false))))))) ∧
    (∃ (f : RingFrame), (f.etherType = 0x88F7) ∧ (ptpType f = 0)) ∧
    (∃ (s : State) (u : State), (s.ring.state ≠ .down) ∧ (u = toCclk s.ring.supervisionDue s)) ∧
    (∃ (node : Nat) (c : Nat) (s : State), (s.ring.nodes.find? (fun e => decide (e.1 = node)) = some (node, c))) :=
  ⟨⟨.a, running, by decide +kernel⟩,
   ⟨.b, { frame0 with length := 63 }, linked, by decide +kernel⟩,
   ⟨.b, { frame0 with lsdu := 45 }, linked, by decide +kernel⟩,
   ⟨.a, { frame0 with srcAddr := hubAddr linked.live.ring.hubId }, linked, by decide +kernel⟩,
   ⟨.a, frame0, { linked with ring.dups := [(hubAddr 9, 77, 799999000)] }, by decide +kernel⟩,
   ⟨.b, frame0, linked, by decide +kernel⟩,
   ⟨.a, { frame0 with fcsOk := false, dstAddr := allAddr }, linked, by decide +kernel⟩,
   ⟨.a, { frame0 with dstAddr := hubAddr linked.live.ring.hubId }, { linked with boot.jorvaHi := 2 }, by decide +kernel⟩,
   ⟨frame0, linked, by decide +kernel⟩,
   ⟨(5, 6, 799000000), [], { running with ring.dups := [(5, 6, 799000000)] }, by decide +kernel⟩,
   ⟨9, 127, 4, { src := 9, stream := 127, tag := 4, started := 799900000, cls := 3, frags := [], total := none, dead := false }, { running with ring.reasm := [{ src := 9, stream := 127, tag := 4, started := 799900000, cls := 3, frags := [], total := none, dead := false }] }, by decide +kernel⟩,
   ⟨.b, [{ waiting0 with cls := 1 }], [{ waiting0 with hsrSeq := 2 }], waiting0, 800000005, { running with ring.egressB := [{ waiting0 with cls := 1 }, waiting0, { waiting0 with hsrSeq := 2 }] }, toCclk 800000005 { running with ring.egressB := [{ waiting0 with cls := 1 }, waiting0, { waiting0 with hsrSeq := 2 }] }, by decide +kernel, rfl, rfl, by decide +kernel, by decide +kernel, by decide +kernel⟩,
   ⟨{ frame0 with etherType := 0x88F7, head := [0] }, by decide +kernel⟩,
   ⟨linked, toCclk linked.ring.supervisionDue linked, by decide, rfl⟩,
   ⟨9, 799000000, { running with ring.nodes := [(9, 799000000)] }, by decide +kernel⟩⟩

/-- Hypotheses of `Obligations.BudgetMessages` that a state meets, clause by clause. -/
theorem witness_BudgetMessages :
    (∃ (hub : Nat) (n : Nat) (rho : Nat) (sigma : Nat) (s : State), (s.ring.gateway.held = true) ∧ (s.ring.ledgerReady = true) ∧ (pairActive s = true) ∧ (judge s hub n rho sigma = none)) ∧
    (∃ (hub : Nat) (n : Nat) (rho : Nat) (sigma : Nat) (res : Nat) (excess : Nat) (s : State), (s.ring.gateway.held = true) ∧ (s.ring.ledgerReady = true) ∧ (pairActive s = true) ∧ (judge s hub n rho sigma = some (res, excess))) ∧
    (∃ (s : State), (s.ring.gateway.held = true) ∧ ((s.ring.ledgerReady = false ∨ pairActive s = false))) ∧
    (∃ (a : BudgetAsk) (rest : List BudgetAsk) (s : State), (pairActive s = true) ∧ (s.ring.asks = a :: rest)) ∧
    (∃ (a : BudgetAsk) (rest : List BudgetAsk) (h : CmdHdr) (p : SubscribeP) (s : State) (u : State), (s.ring.asks = a :: rest) ∧ (a.cmd = .subscribe h p) ∧ (u = putGrant a.stream (a.rho, a.sigma) { s with ring.asks := rest }) ∧ (Accepts h 0x0401 u) ∧ ((streamAt u p.stream).isOpen = false) ∧ (subscribeCheck p u = none) ∧ (needGrants u.cfg (tput streamCtx0 u.streams p.stream (newStream p)) u = [])) ∧
    (∃ (hub : Nat) (s : State), (hub ≠ s.live.ring.hubId)) :=
  ⟨⟨63, 127, 20000000000, 512, gatewayUp, by decide +kernel⟩,
   ⟨63, 127, 20000000001, 512, 7, 1, gatewayUp, by decide +kernel⟩,
   ⟨{ gatewayUp with ring.ledgerReady := false }, by decide +kernel⟩,
   ⟨ask0, [], { linked with ring.asks := [ask0] }, by decide +kernel⟩,
   ⟨ask0, [], hdr, subP0, { dramUp with ring.state := .joined, ring.asks := [ask0] }, putGrant 127 (16000, 512) { dramUp with ring.state := .joined, ring.asks := [] }, rfl, rfl, rfl, by decide +kernel, by decide +kernel, by decide +kernel, by decide +kernel⟩,
   ⟨9, { linked with ring.asks := [ask0] }, by decide +kernel⟩⟩

/-- Hypotheses of `Obligations.LeasedRoles` that a state meets, clause by clause. -/
theorem witness_LeasedRoles :
    (∃ (r : Role) (term : Nat) (s : State), (s.ring.state = .joined) ∧ (term < (leaseOf s r).term)) ∧
    (∃ (r : Role) (term : Nat) (s : State), (s.ring.state = .joined) ∧ (pairActive s = true) ∧ ((leaseOf s r).term ≤ term) ∧ (onRoster s = true)) ∧
    (∃ (r : Role) (hub : Nat) (term : Nat) (s : State), (s.ring.state = .joined) ∧ (pairActive s = true) ∧ ((leaseOf s r).term ≤ term) ∧ (hub ≠ s.live.ring.hubId)) ∧
    (∃ (r : Role) (hub : Nat) (sent : Nat) (s : State), (s.ring.state = .joined) ∧ (pairActive s = true) ∧ ((leaseOf s r).claiming = true) ∧ ((leaseOf s r).sentAt = sent) ∧ (hub ∈ s.live.roster) ∧ (quorum s ≤ (distinct ((leaseOf s r).acks ++ [hub])).length)) ∧
    (∃ (r : Role) (s : State) (u : State), (u = toInstant (2 * (silentSince s (leaseOf s r) + 125000000)) s) ∧ (s.ring.state = .joined) ∧ (eligible s r = true) ∧ ((leaseOf s r).held = false) ∧ (s.safety.safe = false) ∧ (pairActive s = true)) ∧
    (∃ (r : Role) (e : Nat) (s : State), ((leaseOf s r).claimEnd = some e)) ∧
    (∃ (r : Role) (s : State) (u : State), ((leaseOf s r).held = true) ∧ (s.safety.safe = false) ∧ (s.ring.state = .joined) ∧ (pairActive s = true) ∧ (u = toInstant (2 * ((leaseOf s r).sentAt + 25000000)) s)) ∧
    (∃ (r : Role) (s : State), ((leaseOf s r).held = true)) :=
  ⟨⟨.gateway, 4, { linked with ring.gateway.term := 5 }, by decide +kernel⟩,
   ⟨.arbiter, 5, { linked with live.roster := [0, 9] }, by decide +kernel⟩,
   ⟨.gateway, 9, 5, { gatewayUp with live.roster := [0, 9] }, by decide +kernel⟩,
   ⟨.gateway, 9, 1999000000, { linked with live.roster := [0, 9], ring.gateway := { linked.ring.gateway with claiming := true, sentAt := 1999000000, acks := [0] } }, by decide +kernel⟩,
   ⟨.arbiter, { linked with live.roles.arbElig := true }, toInstant (2 * (silentSince { linked with live.roles.arbElig := true } linked.ring.arbiter + 125000000)) { linked with live.roles.arbElig := true }, rfl, rfl, by decide +kernel, by decide +kernel, by decide +kernel⟩,
   ⟨.arbiter, 2000000001, { linked with ring.arbiter.claimEnd := some 2000000001, ring.arbiter.claims := [(1, 9, 1, 5)] }, by decide +kernel⟩,
   ⟨.gateway, gatewayUp, toInstant (2 * (gatewayUp.ring.gateway.sentAt + 25000000)) gatewayUp, by decide, by decide, by decide, by decide, rfl⟩,
   ⟨.gateway, gatewayUp, by decide +kernel⟩⟩

/-- Hypotheses of `Obligations.BeaconsAndLinks` that a state meets, clause by clause. -/
theorem witness_BeaconsAndLinks :
    (∃ (s : State) (u : State), (pairActive s = true) ∧ ((s.ring.state = .joined ∨ s.ring.state = .listen)) ∧ (u = toCclk s.ring.beaconDue s)) ∧
    (∃ (s : State), (pairActive s = false)) ∧
    (∃ (b : Beacon) (s : State), ((s.ring.state = .joined ∨ s.ring.state = .listen)) ∧ (b.hub ≠ s.live.ring.hubId)) ∧
    (∃ (hub : Nat) (s : State), ((topoAt s hub).present = true)) ∧
    (∃ (p : Port) (s : State), (linkOf s p = false) ∧ (s.ring.state = .down) ∧ (s.ring.autoJoin = false)) ∧
    (∃ (p : Port) (s : State), (linkOf s p = false) ∧ (s.ring.state = .down) ∧ (s.ring.autoJoin = true)) ∧
    (∃ (s : State), (s.ring.linkA = true) ∧ (s.ring.linkB = true) ∧ (s.ring.leaving = [])) ∧
    (∃ (p : Port) (s : State), (linkOf s p = true) ∧ (linkOf s (otherPort p) = false)) :=
  ⟨⟨{ linked with ring.state := .listen }, toCclk linked.ring.beaconDue { linked with ring.state := .listen }, by decide, by decide, rfl⟩,
   ⟨{ gatewayUp with pairs.p0.state := .fenced }, by decide +kernel⟩,
   ⟨beacon0, linked, by decide +kernel⟩,
   ⟨63, { linked with ring.topo := [(63, { topoEntry0 with present := true, lastAt := 799000000 })] }, by decide +kernel⟩,
   ⟨.b, running, by decide +kernel⟩,
   ⟨.a, { running with ring.autoJoin := true }, by decide +kernel⟩,
   ⟨linked, by decide +kernel⟩,
   ⟨.a, { linked with ring.linkB := false, streams := [(127, { streamCtx0 with isOpen := true, ring := true, ringNext := 5, ringPoint := 4 })] }, by decide +kernel⟩⟩

/-- Hypotheses of `Obligations.JoiningAndLeaving` that a state meets, clause by clause. -/
theorem witness_JoiningAndLeaving :
    (∃ (h : CmdHdr) (s : State), (Accepts h 0x0804 s) ∧ ((s.ring.state = .pass ∨ s.ring.state = .refused))) ∧
    (∃ (h : CmdHdr) (s : State), (s.ring.state = .listen) ∧ (joinCause (toCclk s.ring.listenEnd s) = none) ∧ (s.ring.joinHdr = some h)) ∧
    (∃ (s : State), (s.ring.state = .listen) ∧ (joinCause (toCclk s.ring.listenEnd s) = none) ∧ (s.ring.joinHdr = none)) ∧
    (∃ (h : CmdHdr) (cause : Nat) (hub : Nat) (s : State), (s.ring.state = .listen) ∧ (joinCause (toCclk s.ring.listenEnd s) = some (cause, hub)) ∧ (s.ring.joinHdr = some h)) ∧
    (∃ (h : CmdHdr) (s : State), (Accepts h 0x0805 s) ∧ (s.ring.state = .joined) ∧ (recordsWait s = false)) ∧
    (∃ (h : CmdHdr) (s : State), (Accepts h 0x0805 s) ∧ (s.ring.state = .joined) ∧ (recordsWait s = true)) ∧
    (∃ (p : Port) (w : Waiting) (n : Nat) (q : Nat) (f : Nat) (last : Bool) (held : Bool) (d : List Byte) (s : State), (egressOf s p = [w]) ∧ (egressOf s (otherPort p) = []) ∧ (w.msg = .record n q f last held d) ∧ (s.ring.leaving ≠ [])) ∧
    (∃ (s : State), (s.ring.state = .joined)) :=
  ⟨⟨hdr, { linked with ring.state := .refused }, by decide +kernel⟩,
   ⟨hdr, { linked with ring.state := .listen, ring.listenEnd := 800000400, ring.joinHdr := some hdr }, by decide +kernel⟩,
   ⟨{ linked with ring.state := .listen, ring.listenEnd := 800000400 }, by decide +kernel⟩,
   ⟨hdr, 1, 0, { linked with ring.state := .listen, ring.listenEnd := 800000400, ring.joinHdr := some hdr, ring.topo := [(0, { topoEntry0 with present := true })] }, by decide +kernel⟩,
   ⟨hdr, { gatewayUp with streams := [(127, { streamCtx0 with isOpen := true, ring := true, type := tyScan, select := [7] })] }, by decide +kernel⟩,
   ⟨hdr, { gatewayUp with ring.egressA := [recordWaiting] }, by decide +kernel⟩,
   ⟨.b, recordWaiting, 127, 5, 0, true, false, [1], { gatewayUp with ring.egressB := [recordWaiting], ring.leaving := [hdr], streams := [(127, { streamCtx0 with isOpen := true, ring := true, type := tyScan, select := [7] })] }, by decide +kernel⟩,
   ⟨{ gatewayUp with ring.topo := [(63, { topoEntry0 with present := true })], ring.ledger := [(63, 127, 5, 5)] }, by decide +kernel⟩⟩

/-- Hypotheses of `Obligations.ForwardedCommands` that a state meets, clause by clause. -/
theorem witness_ForwardedCommands :
    (∃ (g : Nat) (term : Nat) (h : CmdHdr) (c : Completion) (s : State), (s.ring.state = .joined) ∧ (pairActive s = true) ∧ (s.ring.tags.find? (fun e => decide (e.1 = g) && decide (e.2.1 = term) && decide (e.2.2.1 = h.tag)) = some (g, term, h.tag, c))) ∧
    (∃ (g : Nat) (term : Nat) (h : CmdHdr) (s : State), (s.ring.state = .joined) ∧ (pairActive s = true) ∧ (s.ring.tags.find? (fun e => decide (e.1 = g) && decide (e.2.1 = term) && decide (e.2.2.1 = h.tag)) = none) ∧ ((g, term, h.tag) ∈ s.ring.running)) ∧
    (∃ (g : Nat) (term : Nat) (h : CmdHdr) (s : State), (s.ring.state = .joined) ∧ (pairActive s = true) ∧ (s.ring.tags.find? (fun e => decide (e.1 = g) && decide (e.2.1 = term) && decide (e.2.2.1 = h.tag)) = none) ∧ ((g, term, h.tag) ∉ s.ring.running)) ∧
    (∃ (c : RemoteCompletion) (f : Forwarded) (s : State), (outstanding s c.hub c.tag = some f) ∧ (s.ring.gateway.held = true) ∧ ((f.hdr.cmdRing, f.hdr.descIdx) ∉ s.host.orphans)) ∧
    (∃ (c : RemoteCompletion) (s : State), ((outstanding s c.hub c.tag = none ∨ s.ring.gateway.held = false))) ∧
    (∃ (hub : Nat) (tag : Nat) (f : Forwarded) (s : State) (u : State), (outstanding s hub tag = some f) ∧ (f.resent = false) ∧ (u = toCclk (f.at_ + 80000000 + f.bound) s)) ∧
    (∃ (hub : Nat) (tag : Nat) (f : Forwarded) (s : State) (u : State), (outstanding s hub tag = some f) ∧ (f.resent = true) ∧ ((f.hdr.cmdRing, f.hdr.descIdx) ∉ s.host.orphans) ∧ (u = toCclk (f.at_ + 80000000 + f.bound) s)) ∧
    (∃ (hub : Nat) (tag : Nat) (s : State), (outstanding s hub tag = none)) :=
  ⟨⟨3, 1, hdr, completion0, { linked with ring.tags := [(3, 1, 7, completion0)] }, by decide +kernel⟩,
   ⟨3, 1, hdr, { linked with ring.running := [(3, 1, 7)] }, by decide +kernel⟩,
   ⟨3, 1, hdr, linked, by decide +kernel⟩,
   ⟨{ hub := 63, tag := 7, opcode := 1, status := 0, reexecuted := false, repeated := false, effectFret := 0xFFFFFFFF, result := [], data := [] }, forwarded0, { gatewayUp with ring.forwarded := [forwarded0] }, by decide +kernel⟩,
   ⟨{ hub := 63, tag := 7, opcode := 1, status := 0, reexecuted := false, repeated := false, effectFret := 0xFFFFFFFF, result := [], data := [] }, { gatewayUp with ring.gateway.held := false, ring.forwarded := [forwarded0] }, by decide +kernel⟩,
   ⟨63, 7, forwarded0, { gatewayUp with ring.forwarded := [forwarded0] }, toCclk (forwarded0.at_ + 80000000 + forwarded0.bound) { gatewayUp with ring.forwarded := [forwarded0] }, by decide, by decide, rfl⟩,
   ⟨63, 7, { forwarded0 with resent := true }, { gatewayUp with ring.forwarded := [{ forwarded0 with resent := true }] }, toCclk (forwarded0.at_ + 80000000 + forwarded0.bound) { gatewayUp with ring.forwarded := [{ forwarded0 with resent := true }] }, by decide, by decide, by decide, rfl⟩,
   ⟨63, 8, { gatewayUp with ring.forwarded := [forwarded0] }, by decide +kernel⟩⟩

/-- Hypotheses of `Obligations.RingAndLaneSettings` that a state meets, clause by clause. -/
theorem witness_RingAndLaneSettings :
    (∃ (h : CmdHdr) (p : RingPortP) (s : State), (Accepts h 0x0801 s) ∧ (s.ring.state ≠ .listen) ∧ (s.ring.state ≠ .joined) ∧ (p.hubId ≤ 63) ∧ (p.rate ≤ 1) ∧ (p.fecA ≤ 1) ∧ (p.fecB ≤ 1) ∧ (8 ≤ p.streamReserve) ∧ (p.streamReserve ≤ 17)) ∧
    (∃ (h : CmdHdr) (s : State), (Accepts h 0x0802 s) ∧ (s.ring.state ≠ .listen) ∧ (s.ring.state ≠ .joined)) ∧
    (∃ (h : CmdHdr) (ge : Nat) (ae : Nat) (s : State), (Accepts h 0x0803 s) ∧ (ge ≤ 1) ∧ (ae ≤ 1)) ∧
    (∃ (h : CmdHdr) (l : Nat) (inv : Nat) (s : State), (Accepts h 0x0904 s) ∧ (ringLane l = true) ∧ (inv ≤ 1)) ∧
    (∃ (h : CmdHdr) (l : Nat) (s : State), (Accepts h 0x0902 s) ∧ (ringLane l = true) ∧ ((laneAt s l).gen = true)) ∧
    (∃ (h : CmdHdr) (l : Nat) (s : State), (Accepts h 0x0902 s) ∧ (ringLane l = true) ∧ ((laneAt s l).gen = false)) ∧
    (∃ (h : CmdHdr) (l : Nat) (fr : Nat) (s : State), (Accepts h 0x0903 s) ∧ (l ≤ 5) ∧ (fr ≤ 1)) ∧
    (∃ (h : CmdHdr) (p : LaneTestP) (s : State), (Accepts h 0x0901 s) ∧ (laneTestCheck h p s = none) ∧ (p.hasTarget = 1)) ∧
    (∃ (h : CmdHdr) (p : LaneTestP) (s : State), (Accepts h 0x0901 s) ∧ (laneTestCheck h p s = none) ∧ (p.hasTarget = 0)) :=
  ⟨⟨hdr, { hubId := 63, rate := 1, fecA := 1, fecB := 0, etherType := 0x88B5, streamReserve := 17 }, running, by decide +kernel⟩,
   ⟨hdr, running, by decide +kernel⟩,
   ⟨hdr, 1, 1, running, by decide +kernel⟩,
   ⟨hdr, 5, 1, running, by decide +kernel⟩,
   ⟨hdr, 4, { running with lanes := [(4, { lane0 with gen := true })] }, by decide +kernel⟩,
   ⟨hdr, 5, running, by decide +kernel⟩,
   ⟨hdr, 5, 1, { running with lanes := [(5, { lane0 with state := lnUp })] }, by decide +kernel⟩,
   ⟨hdr, { laneTestP0 with hasTarget := 1, target := 2000100000 }, running, by decide +kernel⟩,
   ⟨hdr, laneTestP0, running, by decide +kernel⟩⟩

/-- Hypotheses of `Obligations.LaneEvents` that a state meets, clause by clause. -/
theorem witness_LaneEvents :
    (∃ (l : Nat) (s : State), (ringLane l = true) ∧ ((laneAt s l).state = lnPll)) ∧
    (∃ (l : Nat) (s : State), (ringLane l = true) ∧ ((laneAt s l).state = lnCdr)) ∧
    (∃ (l : Nat) (s : State), (ringLane l = true) ∧ ((laneAt s l).state = lnAdapt)) ∧
    (∃ (l : Nat) (s : State), (ringLane l = true) ∧ ((laneAt s l).state = lnFec)) ∧
    (∃ (l : Nat) (s : State), (ringLane l = true) ∧ ((laneAt s l).state = lnAlign) ∧ ((laneAt s l).fecOn = true)) ∧
    (∃ (l : Nat) (s : State), (ringLane l = true) ∧ ((laneAt s l).state = lnAlign) ∧ ((laneAt s l).fecOn = false)) ∧
    (∃ (l : Nat) (bound : Nat) (cause : Nat) (s : State), (ringLane l = true) ∧ (stageBound (laneAt s l).state = some (bound, cause))) ∧
    (∃ (l : Nat) (s : State), ((laneAt s l).state = lnFault)) ∧
    (∃ (l : Nat) (s : State), ((laneAt s l).state = lnUp)) ∧
    (∃ (l : Nat) (s : State), ((laneAt s l).state = lnUp)) ∧
    (∃ (r : PrbsBits) (s : State), ((laneAt s r.lane).state = lnTest) ∧ ((laneAt s r.lane).chk = true) ∧ (checkerLocks (laneAt s r.lane).pattern r.bits = true)) ∧
    (∃ (r : PrbsBits) (s : State), (checkerLocks (laneAt s r.lane).pattern r.bits = false)) ∧
    (∃ (l : Nat) (bits : Nat) (errors : Nat) (s : State), ((laneAt s l).state = lnTest) ∧ ((laneAt s l).chkLock = true) ∧ ((laneAt s l).err + 256 ≤ errors) ∧ (bits < 2 ^ 48) ∧ (errors < 2 ^ 48)) ∧
    (∃ (l : Nat) (x : LaneTest) (s : State), ((laneAt s l).state = lnTest) ∧ ((laneAt s l).test = some x)) ∧
    (∃ (s : State), (s.host.perst = true)) :=
  ⟨⟨4, { running with lanes := [(4, { lane0 with state := lnPll })] }, by decide +kernel⟩,
   ⟨4, { running with lanes := [(4, { lane0 with state := lnCdr, noSignal := true })] }, by decide +kernel⟩,
   ⟨5, { running with lanes := [(5, { lane0 with state := lnAdapt })] }, by decide +kernel⟩,
   ⟨5, { running with lanes := [(5, { lane0 with state := lnFec })] }, by decide +kernel⟩,
   ⟨5, { running with lanes := [(5, { lane0 with state := lnAlign, fecOn := true })] }, by decide +kernel⟩,
   ⟨5, { running with lanes := [(5, { lane0 with state := lnAlign })] }, by decide +kernel⟩,
   ⟨4, 20000, 3, { running with lanes := [(4, { lane0 with state := lnCdr, entered := 799990000 })] }, by decide +kernel⟩,
   ⟨5, { running with lanes := [(5, { lane0 with state := lnFault, entered := 799990000 })] }, by decide +kernel⟩,
   ⟨4, { running with lanes := [(4, { lane0 with state := lnUp })] }, by decide +kernel⟩,
   ⟨3, { running with lanes := [(3, { lane0 with state := lnUp })] }, by decide +kernel⟩,
   ⟨⟨4, prbsRun 1 128⟩, { running with lanes := [(4, { lane0 with state := lnTest, chk := true, pattern := 1 })] }, by decide +kernel⟩,
   ⟨⟨4, List.replicate 200 false⟩, { running with lanes := [(4, { lane0 with state := lnTest, chk := true, pattern := 1 })] }, by decide +kernel⟩,
   ⟨4, 281474976710655, 256, { running with lanes := [(4, { lane0 with state := lnTest, chkLock := true })] }, by decide +kernel⟩,
   ⟨5, laneRun0, { running with lanes := [(5, { lane0 with state := lnTest, test := some laneRun0 })] }, by decide +kernel⟩,
   ⟨{ running with host.perst := true }, by decide +kernel⟩⟩

/-- Hypotheses of `Obligations.FieldPorts` that a state meets, clause by clause. -/
theorem witness_FieldPorts :
    (∃ (p : Nat) (s : State), ((fpAt s p).running = true) ∧ ((fpAt s p).done = false) ∧ ((fpAt s p).sent = false) ∧ (s.safety.safe = false) ∧ ((toInstant (fpAt s p).slotStart s).time.half + 5 * attemptCclk (fpOf s.live p) (dirAt s.live (slotEntry s p)) ≤ pollEnd s p)) ∧
    (∃ (p : Nat) (s : State), ((fpAt s p).running = true) ∧ ((fpAt s p).done = false) ∧ ((fpAt s p).sent = false) ∧ (s.safety.safe = false)) ∧
    (∃ (p : Nat) (cs : List Byte) (ok : Bool) (s : State), ((fpAt s p).running = true) ∧ ((fpAt s p).sent = true) ∧ (s.time.half ≤ (fpAt s p).reqEnd + 5 * (400000 * (fpOf s.live p).timeout + fpSilence (fpOf s.live p))) ∧ (responseStatus (dirAt s.live (slotEntry s p)) cs ok = 0)) ∧
    (∃ (p : Nat) (cs : List Byte) (ok : Bool) (s : State), ((fpAt s p).running = true) ∧ ((fpAt s p).sent = true) ∧ (s.time.half ≤ (fpAt s p).reqEnd + 5 * (400000 * (fpOf s.live p).timeout + fpSilence (fpOf s.live p))) ∧ (responseStatus (dirAt s.live (slotEntry s p)) cs ok = 5)) ∧
    (∃ (p : Nat) (st : Nat) (cs : List Byte) (ok : Bool) (s : State), ((fpAt s p).running = true) ∧ ((fpAt s p).sent = true) ∧ (s.time.half ≤ (fpAt s p).reqEnd + 5 * (400000 * (fpOf s.live p).timeout + fpSilence (fpOf s.live p))) ∧ (responseStatus (dirAt s.live (slotEntry s p)) cs ok = st) ∧ (st ≠ 0) ∧ (st ≠ 5)) ∧
    (∃ (p : Nat) (s : State), ((fpAt s p).running = true) ∧ ((fpAt s p).sent = true)) ∧
    (∃ (p : Nat) (o : PollOut) (s : State), ((fpAt s p).running = true) ∧ ((fpAt s p).result = some o) ∧ (o.port = p) ∧ ((fpAt s p).pos + 1 < (fpAt s p).entries.length) ∧ ((fpOf s.live p).enable = true)) ∧
    (∃ (h : CmdHdr) (p : FpPortP) (s : State), (Accepts h 0x0A01 s) ∧ (fpCheck p s = none) ∧ (((fpAt s p.port).running = false ∨ p.enable = 0))) ∧
    (∃ (h : CmdHdr) (p : FpPortP) (s : State), (Accepts h 0x0A01 s) ∧ (fpCheck p s = none) ∧ ((fpAt s p.port).running = true) ∧ (p.enable = 1)) ∧
    (∃ (h : CmdHdr) (first : Nat) (es : List DirEntry) (s : State), (Accepts h 0x0A02 s) ∧ (dirCheck first es s = none)) :=
  ⟨⟨7, polling7, by decide +kernel⟩,
   ⟨7, polling7, by decide +kernel⟩,
   ⟨7, respOk, true, { polling7 with loc.fp := [(7, { pollRun7 with sent := true, reqEnd := 4000000100, attempts := 1 })] }, by decide +kernel⟩,
   ⟨7, respExc, true, { polling7 with loc.fp := [(7, { pollRun7 with sent := true, reqEnd := 4000000100, attempts := 1 })] }, by decide +kernel⟩,
   ⟨7, 2, [1, 2, 3, 4, 5], true, { polling7 with loc.fp := [(7, { pollRun7 with sent := true, reqEnd := 4000000100, attempts := 1 })] }, by decide +kernel⟩,
   ⟨7, { polling7 with loc.fp := [(7, { pollRun7 with sent := true, reqEnd := 4000000100, attempts := 1 })] }, by decide +kernel⟩,
   ⟨7, pollOut7, { polling7 with loc.fp := [(7, { pollRun7 with done := true, result := some pollOut7, entries := [2047, 5] })] }, by decide +kernel⟩,
   ⟨hdr, { port := 7, enable := 0, baud := 5, parity := 2, slot := 6, timeout := 1000, retries := 3, downAfter := 1 }, dramUp, by decide +kernel⟩,
   ⟨hdr, { port := 7, enable := 1, baud := 5, parity := 0, slot := 2, timeout := 1, retries := 0, downAfter := 1 }, { dramUp with loc.fp := [(7, pollRun7)] }, by decide +kernel⟩,
   ⟨hdr, 2047, [{ dirEntry7 with enable := false }], dramUp, by decide +kernel⟩⟩

/-- Hypotheses of `Obligations.ValueOutputs` that a state meets, clause by clause. -/
theorem witness_ValueOutputs :
    (∃ (n : Nat) (v : Int) (s : State), (((valSetAt s.live n).mode = modeFreq ∨ (valSetAt s.live n).mode = modePwm)) ∧ (s.safety.safe = false) ∧ ((valAt s n).failWord = false) ∧ ((valAt s n).word = some v)) ∧
    (∃ (n : Nat) (s : State), (((valSetAt s.live n).mode = modeFreq ∨ (valSetAt s.live n).mode = modePwm)) ∧ (s.safety.safe = false) ∧ ((valAt s n).failWord = true)) ∧
    (∃ (n : Nat) (c : Nat) (s : State), ((valAt s n).staleAt = some c)) ∧
    (∃ (n : Nat) (c : Nat) (s : State), ((valAt s n).holdEnd = some c) ∧ (s.safety.safe = false) ∧ ((valSetAt s.live n).mode = modeTrip)) ∧
    (∃ (n : Nat) (c : Nat) (s : State), ((valAt s n).holdEnd = some c) ∧ (s.safety.safe = true)) ∧
    (∃ (n : Nat) (c : Nat) (s : State) (u : State), (findingFrom s n .openLoad = some c) ∧ (u = toCclk (c + 8000) s)) ∧
    (∃ (n : Nat) (c : Nat) (s : State) (u : State), (findingFrom s n .stuckOn = some c) ∧ (u = toCclk (c + 8000) s)) ∧
    (∃ (n : Nat) (f : FbFinding) (s : State), (findingFrom s n f = none)) ∧
    (∃ (n : Nat) (s : State), ((valAt s n).openLoad = true)) ∧
    (∃ (n : Nat) (s : State), ((valAt s n).stuckOn = true)) ∧
    (∃ (h : CmdHdr) (p : ValOutP) (s : State), (Accepts h 0x0B01 s) ∧ (valOutCheck p s = none)) ∧
    (∃ (h : CmdHdr) (s : State), (Accepts h 0x0B02 s)) :=
  ⟨⟨7, 50, { running with live.val := [(7, { valSet0 with mode := modePwm, lo := 0, hi := 100 })], loc.val := [(7, { valRun0 with word := some 50, high := 5 })] }, by decide +kernel⟩,
   ⟨0, { running with live.val := [(0, { valSet0 with mode := modeFreq, lo := 0, hi := 100, fail := 2 })], loc.val := [(0, { valRun0 with failWord := true })] }, by decide +kernel⟩,
   ⟨7, 800000400, { running with loc.val := [(7, { valRun0 with staleAt := some 800000400 })] }, by decide +kernel⟩,
   ⟨7, 800000400, { running with live.val := [(7, { valSet0 with mode := modeTrip })], loc.val := [(7, { valRun0 with holdEnd := some 800000400, tripped := true })] }, by decide +kernel⟩,
   ⟨7, 800000400, { running with safety.safe := true, live.val := [(7, { valSet0 with mode := modeTrip })], loc.val := [(7, { valRun0 with holdEnd := some 800000400, tripped := true })] }, by decide +kernel⟩,
   ⟨7, 799999000, { running with live.val := [(7, { valSet0 with mode := modeTrip })], loc.val := [(7, { valRun0 with on := true, switched := 799999000 })] }, toCclk 800007000 { running with live.val := [(7, { valSet0 with mode := modeTrip })], loc.val := [(7, { valRun0 with on := true, switched := 799999000 })] }, by decide, rfl⟩,
   ⟨7, 799999000, { running with live.val := [(7, { valSet0 with mode := modePwm })], loc.val := [(7, { valRun0 with start := 799999000, period := 400000 })] }, toCclk 800007000 { running with live.val := [(7, { valSet0 with mode := modePwm })], loc.val := [(7, { valRun0 with start := 799999000, period := 400000 })] }, by decide, rfl⟩,
   ⟨7, .stuckOn, { running with live.val := [(7, { valSet0 with mode := modeTrip })], loc.val := [(7, { valRun0 with on := true, switched := 799999000 })] }, by decide +kernel⟩,
   ⟨7, { running with loc.val := [(7, { valRun0 with openLoad := true, openAt := 799999000 })] }, by decide +kernel⟩,
   ⟨7, { running with loc.val := [(7, { valRun0 with stuckOn := true, stuckAt := 799999000 })] }, by decide +kernel⟩,
   ⟨hdr, { out := 7, mode := 1, safety := 0, src := ⟨.dynamic, 5⟩, comb := 15, hold := 60000, lo := 0, hi := 1, pulse := 0, fail := 2, stale := 1 }, running, by decide +kernel⟩,
   ⟨hdr, running, by decide +kernel⟩⟩

/-- Hypotheses of `Obligations.SafeStateEntry` that a state meets, clause by clause. -/
theorem witness_SafeStateEntry :
    (∃ (i : Instr) (c : Nat) (s : State), ((i, c) ∈ [(Instr.safeForce, 10), (.configParityError, 8), (.residueMismatch, 9), (.clockLoss .refclk, 1), (.clockLoss .cclk, 2)]) ∧ (s.safety.safe = false)) ∧
    (∃ (s : State), (s.safety.safe = false)) ∧
    (∃ (v : Int) (s : State), (115 < v) ∧ (s.safety.safe = false)) ∧
    (∃ (i : Instr) (c : Nat) (s : State), ((i, c) ∈ [(Instr.safeForce, 10), (.configParityError, 8), (.residueMismatch, 9), (.clockLoss .refclk, 1), (.clockLoss .cclk, 2)]) ∧ (s.safety.safe = true)) :=
  ⟨⟨.clockLoss .cclk, 2, linked, by decide +kernel⟩,
   ⟨{ running with loc.val := [(0, { valRun0 with on := true })] }, by decide +kernel⟩,
   ⟨116, running, by decide +kernel⟩,
   ⟨.residueMismatch, 9, { running with safety := { running.safety with safe := true, first := 10, seen := [10], enteredAt := 800000000 } }, by decide +kernel⟩⟩

/-- Hypotheses of `Obligations.SafetyMonitor` that a state meets, clause by clause. -/
theorem witness_SafetyMonitor :
    (∃ (n : Nat) (s : State), ((∃ x ∈ s.safety.suppliesOut, x < 6 ∧ x ≠ n))) ∧
    (∃ (n : Nat) (s : State), ((∀ x ∈ s.safety.suppliesOut, x < 6 → x = n))) ∧
    (∃ (n : Nat) (s : State), ((dieAt s (dieOfSupply n)).isolated = none)) ∧
    (∃ (d : Nat) (s : State), ((dieAt s d).isolated = none)) ∧
    (∃ (d : Nat) (v : Int), (d < 4) ∧ (v ≤ 115)) ∧
    (∃ (v : Int), (v ≤ 115)) ∧
    (∃ (v : Int) (s : State), (v < 100) ∧ ((∀ k < 4, (dieAt s k).temp < 100))) ∧
    (∃ (d : Nat), (d < 4)) ∧
    (∃ (edges : Nat) (s : State), (1000000 * ((edges * 2 ^ 43 : Nat) - (16000000 * s.time.inc : Nat) : Int).natAbs ≤ 16000000 * s.time.inc)) ∧
    (∃ (edges : Nat) (s : State), (16000000 * s.time.inc < 1000000 * ((edges * 2 ^ 43 : Nat) - (16000000 * s.time.inc : Nat) : Int).natAbs)) ∧
    (∃ (s : State), (s.safety.closeDue = false)) ∧
    (∃ (s : State), (s.safety.closeDue = true) ∧ (s.safety.safe = true) ∧ (clockCause s = false)) ∧
    (∃ (s : State), (s.safety.closeDue = true) ∧ (s.safety.safe = true) ∧ (clockCause s = true)) ∧
    (∃ (h : CmdHdr) (s : State), (Accepts h 0x0C02 s) ∧ (s.safety.safe = true) ∧ (recoverBar s = none) ∧ (s.safety.leaveHdr = none)) ∧
    (∃ (h : CmdHdr) (g : CmdHdr) (s : State), (Accepts h 0x0C02 s) ∧ (s.safety.safe = true) ∧ (recoverBar s = none) ∧ (s.safety.leaveHdr = some g)) ∧
    (∃ (h : CmdHdr) (s : State), (Accepts h 0x0C02 s) ∧ (s.safety.safe = false) ∧ (recoverBar s = none)) ∧
    (∃ (h : CmdHdr) (c : Nat) (s : State), (Accepts h 0x0C02 s) ∧ (recoverBar s = some c)) ∧
    (∃ (h : CmdHdr) (key : Nat) (s : State), (Accepts h 0x0C02 s) ∧ (key ≠ 0x5AFE5AFE)) :=
  ⟨⟨0, { running with safety.suppliesOut := [0, 5] }, by decide +kernel⟩,
   ⟨5, { running with safety.suppliesOut := [5, 6], safety.present := [6] }, by decide +kernel⟩,
   ⟨13, running, by decide +kernel⟩,
   ⟨3, running, by decide +kernel⟩,
   ⟨3, 106, by decide +kernel⟩,
   ⟨115, by decide +kernel⟩,
   ⟨99, { running with safety.hubHot := true, safety.present := [7] }, by decide +kernel⟩,
   ⟨0, by decide +kernel⟩,
   ⟨80000000, { running with time.inc := 43980465111040, safety.xcheckRun := 1 }, by decide +kernel⟩,
   ⟨80000081, { running with time.inc := 43980465111040, safety.xcheckRun := 1 }, by decide +kernel⟩,
   ⟨running, by decide +kernel⟩,
   ⟨{ streaming with safety := { running.safety with safe := true, first := 10, seen := [10], closeDue := true }, fret.closeAt := 800000100 }, by decide +kernel⟩,
   ⟨{ streaming with safety := { running.safety with safe := true, first := 2, seen := [2], closeDue := true }, fret.closeAt := 800000100 }, by decide +kernel⟩,
   ⟨hdr, { running with safety := { running.safety with safe := true, first := 10, seen := [10] } }, by decide +kernel⟩,
   ⟨hdr, { hdr with tag := 6 }, { running with safety := { running.safety with safe := true, first := 10, seen := [10], leaveHdr := some { hdr with tag := 6 } } }, by decide +kernel⟩,
   ⟨hdr, running, by decide +kernel⟩,
   ⟨hdr, 8, { running with safety := { running.safety with safe := true, first := 8, seen := [8] } }, by decide +kernel⟩,
   ⟨hdr, 0, running, by decide +kernel⟩⟩

/-- Hypotheses of `Obligations.Fences` that a state meets, clause by clause. -/
theorem witness_Fences :
    (∃ (i : Instr) (c : Nat) (p : Pair) (s : State), ((i, c) ∈ [(Instr.lockstepDivergence, 1), (.watchdogExpiry, 2), (.pairSramUe, 3), (.busErrorTimeout, 4), (.clesinFatalCheck, 6)]) ∧ ((i = .watchdogExpiry → runningExpired s = false)) ∧ (pairIn .active s = some p) ∧ ((pairOf s (otherPair p)).state = .standby)) ∧
    (∃ (i : Instr) (c : Nat) (p : Pair) (s : State), ((i, c) ∈ [(Instr.lockstepDivergence, 1), (.watchdogExpiry, 2), (.pairSramUe, 3), (.busErrorTimeout, 4), (.clesinFatalCheck, 6)]) ∧ ((i = .watchdogExpiry → runningExpired s = false)) ∧ (pairIn .active s = some p) ∧ ((pairOf s (otherPair p)).state ≠ .standby)) ∧
    (∃ (i : Instr) (c : Nat) (p : Pair) (s : State), ((i, c) ∈ [(Instr.lockstepDivergence, 1), (.watchdogExpiry, 2), (.pairSramUe, 3), (.busErrorTimeout, 4), (.clesinFatalCheck, 6)]) ∧ ((i = .watchdogExpiry → runningExpired s = false)) ∧ (pairIn .active s = none) ∧ (pairIn .starting s = some p) ∧ (s.pairs.stage ≠ .taking)) ∧
    (∃ (i : Instr) (c : Nat) (p : Pair) (s : State), ((i, c) ∈ [(Instr.lockstepDivergence, 1), (.watchdogExpiry, 2), (.pairSramUe, 3), (.busErrorTimeout, 4), (.clesinFatalCheck, 6)]) ∧ ((i = .watchdogExpiry → runningExpired s = false)) ∧ (pairIn .active s = none) ∧ (pairIn .starting s = some p) ∧ (s.pairs.stage = .taking)) ∧
    (∃ (i : Instr) (s : State), (i ∈ [Instr.lockstepDivergence, .watchdogExpiry, .pairSramUe, .busErrorTimeout, .clesinFatalCheck]) ∧ (pairIn .active s = none) ∧ (pairIn .starting s = none)) ∧
    (∃ (s : State), (runningExpired s = true) ∧ (((pairIn .active s).isSome = true ∨ (pairIn .starting s).isSome = true))) :=
  ⟨⟨.pairSramUe, 3, .p0, { streaming with pairs.staging := [(127, 4)] }, by decide +kernel⟩,
   ⟨.watchdogExpiry, 2, .p1, { running with pairs.p0.state := .disabled, pairs.p1.state := .active }, by decide +kernel⟩,
   ⟨.lockstepDivergence, 1, .p1, { running with pairs.p0.state := .fenced, pairs.p1.state := .starting, host.ready := false }, by decide +kernel⟩,
   ⟨.clesinFatalCheck, 6, .p1, { running with pairs.p0.state := .halted, pairs.p1.state := .starting, pairs.stage := .taking, pairs.drillHdr := some hdr, host.ready := false }, by decide +kernel⟩,
   ⟨.busErrorTimeout, { running with pairs.p0.state := .disabled, pairs.p1.state := .disabled }, by decide +kernel⟩,
   ⟨expiredRun, by decide +kernel⟩⟩

/-- Hypotheses of `Obligations.PairEvents` that a state meets, clause by clause. -/
theorem witness_PairEvents :
    (∃ (p : Pair) (s : State), (pairIn .active s = some p) ∧ (s.fret.idx * period2 s % 20000000 = 0)) ∧
    (∃ (p : Pair) (d : Nat) (s : State), (pairIn .starting s = some p) ∧ (s.pairs.startDeadline = some d) ∧ (s.pairs.stage ≠ .taking)) ∧
    (∃ (p : Pair) (d : Nat) (s : State), (pairIn .starting s = some p) ∧ (s.pairs.startDeadline = some d) ∧ (s.pairs.stage = .taking)) ∧
    (∃ (r : TakeoverRead) (p : Pair) (d : Nat) (slot : Nat × Nat) (s : State), (pairIn .starting s = some p) ∧ (s.boot.up = true) ∧ (s.pairs.startDeadline = some d) ∧ (s.pairs.fencedAt + 400 * r.micros ≤ d) ∧ (slotUsed r s = some slot) ∧ (r.stepsOk = true) ∧ (s.pairs.stage ≠ .taking)) ∧
    (∃ (r : TakeoverRead) (p : Pair) (d : Nat) (slot : Nat × Nat) (s : State), (pairIn .starting s = some p) ∧ (s.boot.up = true) ∧ (s.pairs.startDeadline = some d) ∧ (s.pairs.fencedAt + 400 * r.micros ≤ d) ∧ (slotUsed r s = some slot) ∧ (r.stepsOk = true) ∧ (s.pairs.stage = .taking)) ∧
    (∃ (r : TakeoverRead) (p : Pair) (d : Nat) (s : State), (pairIn .starting s = some p) ∧ (s.boot.up = true) ∧ (s.pairs.startDeadline = some d) ∧ (s.pairs.fencedAt + 400 * r.micros ≤ d) ∧ ((slotUsed r s = none ∨ r.stepsOk = false)) ∧ (s.pairs.stage ≠ .taking)) ∧
    (∃ (p : Pair) (s : State), ((pairOf s p).state = .fenced)) ∧
    (∃ (p : Pair) (s : State), ((pairOf s p).state = .selftest) ∧ (s.pairs.stage ≠ .oldTest)) ∧
    (∃ (p : Pair) (s : State), ((pairOf s p).state = .selftest) ∧ (s.pairs.stage ≠ .oldTest) ∧ (((pairOf s p).fences.filter (fun c => decide (s.time.cclk < c + 34560000000000))).length < 3)) ∧
    (∃ (p : Pair) (s : State), ((pairOf s p).state = .selftest) ∧ (s.pairs.stage = .oldTest) ∧ (s.pairs.commitSwap = false)) ∧
    (∃ (h : CmdHdr) (s : State), (Accepts h 0x0C01 s) ∧ (drillCheck h s = none)) ∧
    (∃ (h : CmdHdr) (s : State), (Accepts h 0x0C01 s) ∧ (pairIn .standby s = none)) ∧
    (∃ (s : State), (s.pairs.stage = .quiescing) ∧ (quiesced s = true)) ∧
    (∃ (s : State), (s.pairs.stage = .quiescing)) ∧
    (∃ (s : State), (s.pairs.stage ≠ .quiescing)) :=
  ⟨⟨.p0, { running with fret.idx := 0, pairs.toSlotB := true }, by decide +kernel⟩,
   ⟨.p1, 816000000, { running with pairs.p0.state := .fenced, pairs.p1.state := .starting, pairs.startDeadline := some 816000000 }, by decide +kernel⟩,
   ⟨.p1, 816000000, { running with pairs.p0.state := .halted, pairs.p1.state := .starting, pairs.startDeadline := some 816000000, pairs.stage := .taking, pairs.drillHdr := some hdr }, by decide +kernel⟩,
   ⟨{ newestWhole := true, olderWhole := true, stepsOk := true, micros := 30000 }, .p1, 816000000, (1, 9), { running with pairs.p0.state := .fenced, pairs.p1.state := .starting, pairs.startDeadline := some 816000000, pairs.slotB := some (ckptOf 9 running), pairs.slotA := some (ckptOf 8 running), pairs.fencedAt := 799999990 }, by decide +kernel⟩,
   ⟨{ newestWhole := false, olderWhole := true, stepsOk := true, micros := 30000 }, .p1, 816000000, (0, 8), { running with pairs.p0.state := .halted, pairs.p1.state := .starting, pairs.startDeadline := some 816000000, pairs.slotB := some (ckptOf 9 running), pairs.slotA := some (ckptOf 8 running), pairs.fencedAt := 799999990, pairs.stage := .taking }, by decide +kernel⟩,
   ⟨{ newestWhole := false, olderWhole := false, stepsOk := true, micros := 30000 }, .p1, 816000000, { running with pairs.p0.state := .fenced, pairs.p1.state := .starting, pairs.startDeadline := some 816000000, pairs.slotB := some (ckptOf 9 running), pairs.fencedAt := 799999990 }, by decide +kernel⟩,
   ⟨.p0, { running with pairs.p0.state := .fenced, pairs.p0.holdEnd := 800000001 }, by decide +kernel⟩,
   ⟨.p0, { running with pairs.p0.state := .selftest, pairs.p0.fences := [799999999, 1, 2] }, by decide +kernel⟩,
   ⟨.p0, { running with pairs.p0.state := .selftest, pairs.p0.fails := 1 }, by decide +kernel⟩,
   ⟨.p0, { running with pairs.p0.state := .selftest, pairs.p1.state := .active, pairs.stage := .oldTest, pairs.drillHdr := some hdr }, by decide +kernel⟩,
   ⟨hdr, running, by decide +kernel⟩,
   ⟨hdr, { running with pairs.p1.state := .disabled }, by decide +kernel⟩,
   ⟨{ running with pairs.stage := .quiescing, pairs.drillHdr := some hdr }, by decide +kernel⟩,
   ⟨{ running with pairs.stage := .quiescing, pairs.drillStart := 760000001 }, by decide +kernel⟩,
   ⟨running, by decide +kernel⟩⟩

/-- Hypotheses of `Obligations.FretBoundaries` that a state meets, clause by clause. -/
theorem witness_FretBoundaries :
    (∃ (s : State), (ClockName.cclk ∈ s.safety.clockLost)) ∧
    (∃ (s : State), (ClockName.cclk ∉ s.safety.clockLost) ∧ (s.safety.safe = false) ∧ (s.time.reload = none) ∧ (s.time.step.natAbs ≤ 40) ∧ (s.cfg.period = s.live.period)) ∧
    (∃ (s : State), (ClockName.cclk ∉ s.safety.clockLost) ∧ (s.safety.safe = false) ∧ (s.safety.leaveHdr = none)) ∧
    (∃ (t2 : Nat) (s : State), (ClockName.cclk ∉ s.safety.clockLost) ∧ (s.safety.safe = false) ∧ (s.time.reload = some t2)) ∧
    (∃ (h : CmdHdr) (s : State), (ClockName.cclk ∉ s.safety.clockLost) ∧ (s.safety.safe = true) ∧ (s.time.reload = none) ∧ (s.time.step.natAbs ≤ 40) ∧ (s.safety.leaveHdr = some h) ∧ (recoverBar s = none)) ∧
    (∃ (s : State), ((s.fret.closeDue = false ∨ s.safety.safe = true))) ∧
    (∃ (s : State), (s.fret.closeDue = true) ∧ (s.safety.safe = false)) ∧
    (∃ (x : FretBuf) (s : State), (s.safety.safe = false) ∧ (s.fret.gather = some x) ∧ ((epochInstant s / 2, 0) ∉ x.epochs)) ∧
    (∃ (s : State), ((s.safety.safe = true ∨ s.fret.gather = none))) ∧
    (∃ (h : CmdHdr) (has : Nat) (target : Nat) (s : State), (Accepts h 0x0003 s) ∧ (acqStartCheck has target s = none) ∧ (stillRunning s = false)) ∧
    (∃ (h : CmdHdr) (has : Nat) (s : State), (Accepts h 0x0003 s) ∧ (has ≤ 1) ∧ (stillRunning s = true)) ∧
    (∃ (h : CmdHdr) (s : State), (Accepts h 0x0004 s) ∧ (s.fret.acquiring = true)) ∧
    (∃ (h : CmdHdr) (s : State), (Accepts h 0x0004 s) ∧ (s.fret.acquiring = false)) ∧
    (∃ (h : CmdHdr) (s : State), (Accepts h 0x0005 s)) ∧
    (∃ (h : CmdHdr) (key : Nat) (s : State), (Accepts h 0x0005 s) ∧ (key ≠ 0x0D1E0D1E)) :=
  ⟨⟨{ running with safety.clockLost := [.cclk] }, by decide +kernel⟩,
   ⟨{ running with fret.atBoundary := [(hdr, 0x0501)], time.step := 0 }, by decide +kernel⟩,
   ⟨{ running with fret.acquiring := true }, by decide +kernel⟩,
   ⟨9000000000, { running with time.reload := some 9000000000, fret.atBoundary := [(hdr, 0x0101)] }, by decide +kernel⟩,
   ⟨hdr, { running with safety := { running.safety with safe := true, first := 10, seen := [10], leaveHdr := some hdr, closed := true } }, by decide +kernel⟩,
   ⟨running, by decide +kernel⟩,
   ⟨{ streaming with fret.closeDue := true, fret.closeAt := 800000128, fret.closing := [{ newBuf 1906 3997171712 running with due := true, gathered := true }] }, by decide +kernel⟩,
   ⟨newBuf 1907 3999268864 running, { running with fret.gather := some (newBuf 1907 3999268864 running) }, by decide +kernel⟩,
   ⟨running, by decide +kernel⟩,
   ⟨hdr, 0, 0, dramUp, by decide +kernel⟩,
   ⟨hdr, 1, { running with fret.acquiring := true }, by decide +kernel⟩,
   ⟨hdr, { running with fret.acquiring := true }, by decide +kernel⟩,
   ⟨hdr, running, by decide +kernel⟩,
   ⟨hdr, running, by decide +kernel⟩,
   ⟨hdr, 0, running, by decide +kernel⟩⟩

/-- Hypotheses of `Obligations.BootAndReset` that a state meets, clause by clause. -/
theorem witness_BootAndReset :
    (∃ (i : Instr), (i ∈ [Instr.powerOnReset, .resetAssert])) ∧
    (∃ (f : BootFindings) (n : Nat) (s : State), (s.boot.resetDue = false) ∧ ((s.boot.inReset = true ∨ s.boot.resetAt = none)) ∧ ((f.copy0Whole = true ∨ (f.copy1Whole = true ∧ f.copy1Old = false))) ∧ (f.p0Passes = true) ∧ ((pairIn .starting s).isSome = true) ∧ (n = b2n s.boot.bcb.preferB) ∧ ((if n = 0 then f.slotAValid else f.slotBValid) = true) ∧ (slotState s n = slConfirmed)) ∧
    (∃ (f : BootFindings) (n : Nat) (s : State), (s.boot.resetDue = false) ∧ ((s.boot.inReset = true ∨ s.boot.resetAt = none)) ∧ ((f.copy0Whole = true ∨ (f.copy1Whole = true ∧ f.copy1Old = false))) ∧ (f.p0Passes = true) ∧ ((pairIn .starting s).isSome = true) ∧ (n = b2n s.boot.bcb.preferB) ∧ ((if n = 0 then f.slotAValid else f.slotBValid) = true) ∧ (slotState s n = slTrial) ∧ (slotBooted s n = false)) ∧
    (∃ (f : BootFindings) (s : State), (s.boot.resetDue = false) ∧ ((s.boot.inReset = true ∨ s.boot.resetAt = none)) ∧ ((f.copy0Whole = true ∨ (f.copy1Whole = true ∧ f.copy1Old = false))) ∧ (f.p0Passes = true) ∧ ((pairIn .starting s).isSome = true) ∧ (f.slotAValid = false) ∧ (f.slotBValid = false)) ∧
    (∃ (f : BootFindings) (s : State), (s.boot.resetDue = false) ∧ ((s.boot.inReset = true ∨ s.boot.resetAt = none)) ∧ ((f.copy0Whole = true ∨ (f.copy1Whole = true ∧ f.copy1Old = false))) ∧ (f.p0Passes = false) ∧ (f.p1Passes = true) ∧ (s.pairs.p0.fails = 0) ∧ (s.pairs.p0.fences = [])) ∧
    (∃ (f : BootFindings) (s : State), (s.boot.resetDue = false) ∧ (f.copy0Whole = false) ∧ (f.copy1Whole = true) ∧ (f.copy1Old = true) ∧ ((s.boot.inReset = true ∨ s.boot.resetAt = none))) ∧
    (∃ (f : BootFindings) (s : State), (s.boot.resetDue = false) ∧ (f.copy0Whole = false) ∧ (f.copy1Whole = false) ∧ ((s.boot.inReset = true ∨ s.boot.resetAt = none))) ∧
    (∃ (s : State), (s.boot.resetDue = true)) ∧
    (∃ (s : State), (s.boot.resetDue = false) ∧ (s.boot.inReset = false) ∧ (s.boot.resetAt ≠ none)) ∧
    (∃ (f : BootFindings) (p : Pair) (r : Nat) (s : State), (s.boot.booting = some f) ∧ (s.boot.resetAt = some r) ∧ (pairIn .starting s = some p)) ∧
    (∃ (s : State), (s.boot.booting = none)) :=
  ⟨⟨.resetAssert, by decide +kernel⟩,
   ⟨boot1, 0, cold, by decide +kernel⟩,
   ⟨{ boot1 with slotBValid := true }, 1, { State.reset with boot.inReset := true, boot.bcb := { State.reset.boot.bcb with slotB := slTrial, preferB := true } }, by decide +kernel⟩,
   ⟨{ boot1 with slotAValid := false }, State.reset, by decide +kernel⟩,
   ⟨{ boot1 with p0Passes := false }, cold, by decide +kernel⟩,
   ⟨{ boot1 with copy0Whole := false, copy1Old := true }, { cold with boot.bcbOld := { State.reset.boot.bcb with slotB := slConfirmed, preferB := true } }, by decide +kernel⟩,
   ⟨{ boot1 with copy0Whole := false, copy1Whole := false }, cold, by decide +kernel⟩,
   ⟨{ running with boot.resetDue := true }, by decide +kernel⟩,
   ⟨{ running with boot.resetAt := some 5 }, by decide +kernel⟩,
   ⟨boot1, .p0, 0, { cold with boot.booting := some boot1, boot.resetAt := some 0 }, by decide +kernel⟩,
   ⟨running, by decide +kernel⟩⟩

/-- Hypotheses of `Obligations.UpdateCommands` that a state meets, clause by clause. -/
theorem witness_UpdateCommands :
    (∃ (h : CmdHdr) (len : Nat) (s : State), (Accepts h 0x0D01 s) ∧ (openCheck (holderOf (some h) none) len s = none)) ∧
    (∃ (h : CmdHdr) (len : Nat) (c : Nat) (s : State), (Accepts h 0x0D01 s) ∧ (256 ≤ len) ∧ (len ≤ slotBytes) ∧ (barredBy s = some c)) ∧
    (∃ (h : CmdHdr) (off : Nat) (data : List Byte) (x : Session) (s : State), (Accepts h 0x0D02 s) ∧ (s.boot.session = some x) ∧ (holds (holderOf (some h) none) s = true) ∧ (s.boot.ops = []) ∧ (off = x.written) ∧ (off + data.length ≤ x.length) ∧ (data ≠ []) ∧ (((off % 4 = 0 ∧ data.length % 4 = 0) ∨ off + data.length = x.length))) ∧
    (∃ (h : CmdHdr) (off : Nat) (data : List Byte) (x : Session) (s : State), (Accepts h 0x0D02 s) ∧ (s.boot.session = some x) ∧ (holds (holderOf (some h) none) s = true) ∧ (s.boot.ops = []) ∧ (off < x.written) ∧ (off + data.length ≤ x.length) ∧ (data ≠ []) ∧ (off % 4 = 0) ∧ (data.length % 4 = 0) ∧ (flashMatches s (slotBase (otherSlot s) + off) data = true)) ∧
    (∃ (h : CmdHdr) (s : State), (Accepts h 0x0D02 s) ∧ (s.boot.ops ≠ [])) ∧
    (∃ (h : CmdHdr) (s : State), (Accepts h 0x0D02 s) ∧ (s.boot.ops = []) ∧ (s.boot.session = none)) ∧
    (∃ (h : CmdHdr) (f : ImageFacts) (s : State), (Accepts h 0x0D03 s) ∧ (commitCheck (holderOf (some h) none) 1 f s = none) ∧ (f.diesChanged = [])) ∧
    (∃ (h : CmdHdr) (f : ImageFacts) (s : State), (Accepts h 0x0D03 s) ∧ (commitCheck (holderOf (some h) none) 0 f s = none) ∧ (f.diesChanged = []) ∧ (s.boot.recovery = false)) ∧
    (∃ (h : CmdHdr) (a : Nat) (k : Nat) (f : ImageFacts) (s : State), (Accepts h 0x0D03 s) ∧ (commitCheck (holderOf (some h) none) a f s = none) ∧ (f.diesChanged = [k])) ∧
    (∃ (h : CmdHdr) (x : Session) (s : State), (Accepts h 0x0D04 s) ∧ (s.boot.session = some x) ∧ (holds (holderOf (some h) none) s = true) ∧ (updating s = false)) ∧
    (∃ (h : CmdHdr) (s : State), (Accepts h 0x0D04 s) ∧ (s.boot.session = none) ∧ (updating s = false)) ∧
    (∃ (h : CmdHdr) (s : State), (Accepts h 0x0D05 s) ∧ (runningExpired s = false) ∧ (s.boot.trialOpen = true)) ∧
    (∃ (h : CmdHdr) (s : State), (Accepts h 0x0D05 s) ∧ (runningExpired s = false) ∧ (s.boot.trialOpen = false)) ∧
    (∃ (h : CmdHdr) (s : State), (Accepts h 0x0D05 s) ∧ (runningExpired s = true)) ∧
    (∃ (h : CmdHdr) (lock : Nat) (guard_ : Nat) (key : Nat) (s : State), (Accepts h 0x0C03 s) ∧ (lockCheck lock guard_ key s = none) ∧ (b2n s.boot.bcb.lock = lock) ∧ (b2n s.boot.bcb.capoGuard = guard_)) ∧
    (∃ (h : CmdHdr) (lock : Nat) (guard_ : Nat) (key : Nat) (s : State), (Accepts h 0x0C03 s) ∧ (lockCheck lock guard_ key s = none) ∧ ((b2n s.boot.bcb.lock ≠ lock ∨ b2n s.boot.bcb.capoGuard ≠ guard_))) :=
  ⟨⟨hdr, 256, running, by decide +kernel⟩,
   ⟨hdr, slotBytes, 3, { running with boot.bcb := { running.boot.bcb with lock := true } }, by decide +kernel⟩,
   ⟨hdr, 0, [1, 2, 3, 4], session0, updatingHub, by decide +kernel⟩,
   ⟨hdr, 0, [1, 2, 3, 4], { session0 with written := 8 }, { updatingHub with boot.session := some { session0 with written := 8 }, boot.flash := [(0x2100000, 1), (0x2100001, 2), (0x2100002, 3), (0x2100003, 4)] }, by decide +kernel⟩,
   ⟨hdr, { updatingHub with boot.ops := [write0] }, by decide +kernel⟩,
   ⟨hdr, running, by decide +kernel⟩,
   ⟨hdr, imageGood, readyImage, by decide +kernel⟩,
   ⟨hdr, imageGood, readyImage, by decide +kernel⟩,
   ⟨hdr, 1, 3, { imageGood with diesChanged := [3] }, readyImage, by decide +kernel⟩,
   ⟨hdr, session0, updatingHub, by decide +kernel⟩,
   ⟨hdr, running, by decide +kernel⟩,
   ⟨hdr, { running with boot.trialOpen := true, boot.bcb := { running.boot.bcb with slotA := slTrial } }, by decide +kernel⟩,
   ⟨hdr, running, by decide +kernel⟩,
   ⟨hdr, expiredRun, by decide +kernel⟩,
   ⟨hdr, 0, 0, 5, running, by decide +kernel⟩,
   ⟨hdr, 1, 1, 4294967295, running, by decide +kernel⟩⟩

/-- Hypotheses of `Obligations.UpdateEvents` that a state meets, clause by clause. -/
theorem witness_UpdateEvents :
    (∃ (x : Session) (s : State), (s.boot.session = some x) ∧ (s.boot.commit = none)) ∧
    (∃ (s : State), ((s.boot.session = none ∨ s.boot.commit.isSome = true))) ∧
    (∃ (o : FlashOp) (x : Session) (s : State), (s.boot.ops = [o]) ∧ (s.boot.session = some x)) ∧
    (∃ (o : FlashOp) (s : State), (s.boot.ops = [o])) ∧
    (∃ (k : Nat) (e : Nat) (s : State), ((dieAt s k).loadEnd = some e) ∧ (s.boot.commit = none)) ∧
    (∃ (k : Nat) (j : Nat) (e : Nat) (js : List Nat) (c : Commit) (s : State), ((dieAt s k).loadEnd = some e) ∧ (s.boot.commit = some c) ∧ (c.dies = k :: j :: js) ∧ (k ∉ j :: js)) ∧
    (∃ (c : Nat) (s : State), (s.boot.trialFrom = some c) ∧ (s.boot.trialOpen = true)) ∧
    (∃ (req : Requester) (s : State), (req ≠ .controller) ∧ ((clesinUp s = true ∨ s.boot.recovery = true)) ∧ ((reqOf s req).updBusy = false) ∧ (s.safety.safe = false) ∧ (openCheck (holderOf none (some req)) (reqOf s req).updArg.toNat s = none)) ∧
    (∃ (req : Requester) (words : Nat) (x : Session) (s : State), (req ≠ .controller) ∧ ((clesinUp s = true ∨ s.boot.recovery = true)) ∧ ((reqOf s req).updBusy = false) ∧ (s.safety.safe = false) ∧ (s.boot.session = some x) ∧ (holds (holderOf none (some req)) s = true) ∧ (s.boot.ops = []) ∧ (x.written = (reqOf s req).updArg.toNat) ∧ (x.written % 4 = 0) ∧ (x.written + 4 * (words + 1) ≤ x.length)) ∧
    (∃ (req : Requester) (f : ImageFacts) (s : State), (req ≠ .controller) ∧ ((clesinUp s = true ∨ s.boot.recovery = true)) ∧ ((reqOf s req).updBusy = false) ∧ (s.safety.safe = false) ∧ ((reqOf s req).updArg = 1#32) ∧ (f.diesChanged = []) ∧ (commitCheck (holderOf none (some req)) 1 f s = none)) ∧
    (∃ (req : Requester) (x : Session) (s : State), (req ≠ .controller) ∧ ((clesinUp s = true ∨ s.boot.recovery = true)) ∧ ((reqOf s req).updBusy = false) ∧ (s.safety.safe = false) ∧ (s.boot.session = some x) ∧ (holds (holderOf none (some req)) s = true) ∧ (updating s = false)) ∧
    (∃ (req : Requester) (s : State), (req ≠ .controller) ∧ ((clesinUp s = true ∨ s.boot.recovery = true)) ∧ ((reqOf s req).updBusy = false) ∧ (s.safety.safe = false) ∧ (runningExpired s = false) ∧ (s.boot.trialOpen = true)) ∧
    (∃ (req : Requester) (s : State), (req ≠ .controller) ∧ ((clesinUp s = true ∨ s.boot.recovery = true)) ∧ ((reqOf s req).updBusy = false) ∧ (s.safety.safe = false) ∧ (s.boot.bcb.lock = true) ∧ ((reqOf s req).updArg.toNat = s.boot.bcb.key)) ∧
    (∃ (i : Instr) (req : Requester) (f : ImageFacts) (words : Nat) (s : State), (i ∈ [Instr.updCmdOpen req, .updCmdWrite req words, .updCmdCommit req f, .updCmdAbort req, .updCmdHealthConfirm req, .updCmdUnlock req]) ∧ ((reqOf s req).updBusy = true)) ∧
    (∃ (i : Instr) (req : Requester) (f : ImageFacts) (words : Nat) (s : State), (i ∈ [Instr.updCmdOpen req, .updCmdWrite req words, .updCmdCommit req f, .updCmdAbort req, .updCmdHealthConfirm req, .updCmdUnlock req]) ∧ (req ≠ .controller) ∧ ((clesinUp s = true ∨ s.boot.recovery = true)) ∧ ((reqOf s req).updBusy = false) ∧ (s.safety.safe = true)) ∧
    (∃ (req : Requester) (st : Nat) (s : State), ((reqOf s req).updBusy = true) ∧ ((reqOf s req).updResult = some st)) :=
  ⟨⟨session0, updatingHub, by decide +kernel⟩,
   ⟨running, by decide +kernel⟩,
   ⟨write0, session0, { updatingHub with boot.ops := [write0] }, by decide +kernel⟩,
   ⟨write0, { updatingHub with boot.ops := [write0] }, by decide +kernel⟩,
   ⟨3, 4000000100, { running with fe.dies := [(3, { dieRun0 with loadEnd := some 4000000100 })] }, by decide +kernel⟩,
   ⟨3, 0, 4000000100, [], commit0, { updatingHub with boot.commit := some commit0, fe.dies := [(3, { dieRun0 with loadEnd := some 4000000100 })] }, by decide +kernel⟩,
   ⟨799000000, { running with boot.trialFrom := some 799000000, boot.trialOpen := true }, by decide +kernel⟩,
   ⟨.service, { running with host.reqSvc := { running.host.reqSvc with updArg := 256#32 } }, by decide +kernel⟩,
   ⟨.pcie, 0, session0, updatingHub, by decide +kernel⟩,
   ⟨.pcie, imageGood, { readyImage with host.reqPcie := { running.host.reqPcie with updArg := 1#32 } }, by decide +kernel⟩,
   ⟨.pcie, session0, updatingHub, by decide +kernel⟩,
   ⟨.service, { running with boot.trialOpen := true, boot.bcb := { running.boot.bcb with slotA := slTrial } }, by decide +kernel⟩,
   ⟨.pcie, { running with boot.bcb := { running.boot.bcb with lock := true, key := 5 }, host.reqPcie := { running.host.reqPcie with updArg := 5#32 } }, by decide +kernel⟩,
   ⟨.updCmdAbort .service, .service, imageGood, 0, { running with host.reqSvc := { running.host.reqSvc with updBusy := true } }, by decide +kernel⟩,
   ⟨.updCmdUnlock .service, .service, imageGood, 0, { running with safety.safe := true }, by decide +kernel⟩,
   ⟨.service, 0, { running with host.reqSvc := { running.host.reqSvc with updBusy := true, updResult := some 0 } }, by decide +kernel⟩⟩

/-- Hypotheses of `Obligations.HostRings` that a state meets, clause by clause. -/
theorem witness_HostRings :
    (∃ (r : Nat) (idx : Nat) (s : State), (indexOk (ringAt s r) idx = true)) ∧
    (∃ (r : Nat) (idx : Nat) (s : State), (indexOk (ringAt s r) idx = false)) ∧
    (∃ (r : Nat) (d : List Byte) (data : List Byte) (readable : Bool) (s : State), (takesDescriptors s = true) ∧ (((List.range 128).map (fun i => (s.host.fetchNext + i) % 128)).find? (hasDescriptor s) = some r) ∧ ((bitOf (fieldAt d 2 1) 6 = true ∨ fieldAt d 2 1 % 64 = s.live.ring.hubId)) ∧ (mayStart s r (bitOf (fieldAt d 3 1) 1) = true) ∧ ((∀ e ∈ descFaults (descHdr r (ringAt s r).hubIdx d) 262144 d data readable s, e.2 = true → e.1 = 3 ∨ e.1 = 8))) ∧
    (∃ (r : Nat) (d : List Byte) (data : List Byte) (readable : Bool) (s : State), (takesDescriptors s = true) ∧ (((List.range 128).map (fun i => (s.host.fetchNext + i) % 128)).find? (hasDescriptor s) = some r) ∧ ((bitOf (fieldAt d 2 1) 6 = true ∨ fieldAt d 2 1 % 64 = s.live.ring.hubId)) ∧ (mayStart s r (bitOf (fieldAt d 3 1) 1) = true) ∧ ((∃ e ∈ descFaults (descHdr r (ringAt s r).hubIdx d) 262144 d data readable s, e.2 = true ∧ e.1 ≠ 3 ∧ e.1 ≠ 8)) ∧ (s.host.orphans = [])) ∧
    (∃ (r : Nat) (d : List Byte) (data : List Byte) (readable : Bool) (s : State), (takesDescriptors s = true) ∧ (((List.range 128).map (fun i => (s.host.fetchNext + i) % 128)).find? (hasDescriptor s) = some r) ∧ (bitOf (fieldAt d 2 1) 6 = false) ∧ (fieldAt d 2 1 % 64 ≠ s.live.ring.hubId) ∧ (mayForward s r (fieldAt d 2 1 % 64) (bitOf (fieldAt d 3 1) 1) = true) ∧ ((∀ e ∈ descFaults (descHdr r (ringAt s r).hubIdx d) 65536 d data readable s, e.2 = false)) ∧ (s.ring.gateway.held = true) ∧ ((topoAt s (fieldAt d 2 1 % 64)).present = true)) ∧
    (∃ (r : Nat) (d : List Byte) (s : State), (takesDescriptors s = true) ∧ (((List.range 128).map (fun i => (s.host.fetchNext + i) % 128)).find? (hasDescriptor s) = some r) ∧ ((bitOf (fieldAt d 2 1) 6 = true ∨ fieldAt d 2 1 % 64 = s.live.ring.hubId)) ∧ (mayStart s r (bitOf (fieldAt d 3 1) 1) = false)) ∧
    (∃ (r : Nat) (s : State), ((takesDescriptors s = false ∨ ((List.range 128).map (fun i => (s.host.fetchNext + i) % 128)).find? (hasDescriptor s) ≠ some r))) ∧
    (∃ (c : Completion) (cs : List Completion) (s : State), (s.host.waiting = c :: cs) ∧ (completionRing s c.ring = true) ∧ ((ringAt s c.ring).flush = false) ∧ (0 < ringFree (ringAt s c.ring)) ∧ ((∀ d ∈ c :: cs, (ringAt s d.ring).configured = true ∧ (ringAt s d.ring).type = rtCompletion))) ∧
    (∃ (r : Nat) (i : RingItem) (q : Queue) (s : State), ((ringAt s r).active = true) ∧ ((ringAt s r).flush = false) ∧ ((ringAt s r).fifo = false) ∧ (hubHeld (ringAt s r).type = true) ∧ (0 < ringFree (ringAt s r)) ∧ (serve (ringAt s r).type (queueOf s (ringAt s r)) = some (i, q))) ∧
    (∃ (req : Requester) (r : Nat) (i : RingItem) (q : Queue) (s : State), (req ≠ .service) ∧ ((ringAt s r).active = true) ∧ ((ringAt s r).fifo = true) ∧ (serve (ringAt s r).type (queueOf s (ringAt s r)) = some (i, q))) ∧
    (∃ (req : Requester) (r : Nat) (s : State), (req ≠ .service) ∧ (((ringAt s r).active = false ∨ (ringAt s r).fifo = false))) ∧
    (∃ (r : Nat) (s : State), ((ringAt s r).active = true)) ∧
    (∃ (r : Nat) (s : State), ((ringAt s r).active = true) ∧ ((ringAt s r).flush = true)) ∧
    (∃ (r : Nat) (s : State), ((ringAt s r).active = true)) ∧
    (∃ (x : HostRing) (s : State), ((ringAt s 0).active = false) ∧ ((ringAt s 1).active = true) ∧ (bootRing s 0 = some x)) ∧
    (∃ (s : State), ((ringAt s 0).active = false) ∧ ((ringAt s 1).active = true) ∧ (bootRing s 0 = none)) ∧
    (∃ (h : CmdHdr) (p : RingConfigP) (s : State), (Accepts h 0x0406 s) ∧ (ringConfigCheck p s = none) ∧ (sameRing (ringAt s p.ring) p = false) ∧ (p.type ≠ 0)) ∧
    (∃ (h : CmdHdr) (p : RingConfigP) (s : State), (Accepts h 0x0406 s) ∧ (ringConfigCheck p s = none) ∧ (sameRing (ringAt s p.ring) p = false) ∧ (p.type = 0)) ∧
    (∃ (h : CmdHdr) (p : RingConfigP) (s : State), (Accepts h 0x0406 s) ∧ (ringConfigCheck p s = none) ∧ (sameRing (ringAt s p.ring) p = true)) :=
  ⟨⟨0, 256, commanded, by decide +kernel⟩,
   ⟨0, 257, commanded, by decide +kernel⟩,
   ⟨0, nopDesc, [], true, commanded, by decide +kernel⟩,
   ⟨0, badDesc, [], true, commanded, by decide +kernel⟩,
   ⟨0, farDesc, [], true, farCommanded, by decide +kernel⟩,
   ⟨0, nopDesc, { commanded with host.handed := [{ ring := 0, descIdx := 9, tag := 1, opcode := 0x0501, idem := false, cplRing := 1, gateway := none, since := 0, reexec := false }] }, by decide +kernel⟩,
   ⟨127, commanded, by decide +kernel⟩,
   ⟨completion0, [{ completion0 with tag := 8 }], { running with host.waiting := [completion0, { completion0 with tag := 8 }] }, by decide +kernel⟩,
   ⟨7, .entry trace0, { queue0 with entryNo := 1 }, tracing false, by decide +kernel⟩,
   ⟨.pcie, 7, .entry trace0, { queue0 with entryNo := 1 }, tracing true, by decide +kernel⟩,
   ⟨.controller, 7, tracing false, by decide +kernel⟩,
   ⟨127, { running with host.rings := [(127, cmdRing0)] }, by decide +kernel⟩,
   ⟨127, { running with host.rings := [(127, { cmdRing0 with flush := true })] }, by decide +kernel⟩,
   ⟨127, { running with host.rings := [(127, cmdRing0)] }, by decide +kernel⟩,
   ⟨{ hostRing0 with type := 1, log2Size := 12, level := 5, base := 4096 }, { running with host.boot := [(0, 4096#32), (2, 0x0005000C#32)] }, by decide +kernel⟩,
   ⟨{ running with host.boot := [(2, 0x0005000D#32)] }, by decide +kernel⟩,
   ⟨hdr, { ring := 127, type := 6, mode := 1, groups := 0, log2Size := 12, base := 8192, level := 4095 }, running, by decide +kernel⟩,
   ⟨hdr, { ring := 2, type := 0, mode := 0, groups := 0, log2Size := 0, base := 0, level := 0 }, { running with host.rings := [(1, cplRing1), (2, { recordRing2 with active := false })] }, by decide +kernel⟩,
   ⟨hdr, { ring := 2, type := 3, mode := 0, groups := 0, log2Size := 16, base := 0, level := 0 }, { running with host.rings := [(1, cplRing1), (2, recordRing2)] }, by decide +kernel⟩⟩

/-- Hypotheses of `Obligations.RegistersAndLocalPorts` that a state meets, clause by clause. -/
theorem witness_RegistersAndLocalPorts :
    (∃ (req : Requester) (l : Nat), (req ≠ .service) ∧ (l < 6)) ∧
    (∃ (l : Nat), (l < 6)) ∧
    (∃ (req : Requester) (off : Nat) (reg : Nat) (s : State), (reaches req off = true) ∧ (latchOf off = some reg) ∧ ((tget latch0 (reqOf s req).latches reg).unread = [])) ∧
    (∃ (req : Requester) (off : Nat) (reg : Nat) (s : State), (reaches req off = true) ∧ (latchOf off = some reg) ∧ ((tget latch0 (reqOf s req).latches reg).unread ≠ [])) ∧
    (∃ (off : Nat), (off ∈ [0x0000, 0x0004, 0x0008, 0x000C, 0x0010, 0x2000, 0x200C, 0x3004, 0x3008, 0x3440])) ∧
    (∃ (req : Requester) (off : Nat), (reaches req off = false)) ∧
    (∃ (n : Nat), (n < 15)) ∧
    (∃ (n : Nat), (16 ≤ n) ∧ (n < 32)) ∧
    (∃ (s : State), (s.safety.safe = false)) ∧
    (∃ (h : Word), (svcCmd h = 1) ∧ (svcN h = 1) ∧ (svcAddr h % 4 = 0) ∧ (reaches .service (svcAddr h) = true) ∧ (latchSet (svcAddr h) = []) ∧ (latchOf (svcAddr h) = none)) ∧
    (∃ (h : Word), ((svcAlign h = true ∨ svcNoReach h = true))) ∧
    (∃ (h : Word) (data : List Word) (crc : Nat) (whole : Bool) (early : Bool), ((whole = false ∨ data.length ≠ svcN h ∨ svcAlign h = true ∨ svcNoReach h = true ∨ early = true ∨ svcCmd h ≠ 2 ∨ crc ≠ svcCrc h data))) ∧
    (∃ (b : Nat) (s : State), (b = (s.time.half + 1999999999) / 2000000000) ∧ (s.safety.safe = false) ∧ ((s.time.locked = true ∨ s.time.holdover = true))) ∧
    (∃ (s : State), ((s.safety.safe = true ∨ (s.time.locked = false ∧ s.time.holdover = false)))) ∧
    (∃ (s : State), (s.loc.pps = true)) ∧
    (∃ (level : Bool) (s : State), (s.loc.reserve = level)) ∧
    (∃ (level : Bool) (s : State), (s.loc.reserve ≠ level)) :=
  ⟨⟨.pcie, 5, by decide +kernel⟩,
   ⟨5, by decide +kernel⟩,
   ⟨.controller, 0x2008, 0x2000, running, by decide +kernel⟩,
   ⟨.service, 0x2044, 0x2040, { running with host.reqSvc := { running.host.reqSvc with latches := [(0x2040, { shadow := [(0x2044, 9#32)], unread := [0x2044] })] } }, by decide +kernel⟩,
   ⟨0x3440, by decide +kernel⟩,
   ⟨.service, 0x4000, by decide +kernel⟩,
   ⟨14, by decide +kernel⟩,
   ⟨31, by decide +kernel⟩,
   ⟨running, by decide +kernel⟩,
   ⟨0x01013108#32, by decide +kernel⟩,
   ⟨0x01011000#32, by decide +kernel⟩,
   ⟨0x02010044#32, [1#32], 0, true, true, by decide +kernel⟩,
   ⟨2, { running with time.locked := true }, by decide +kernel⟩,
   ⟨running, by decide +kernel⟩,
   ⟨{ running with loc.pps := true, loc.ppsFall := 4200000000 }, by decide +kernel⟩,
   ⟨false, running, by decide +kernel⟩,
   ⟨true, running, by decide +kernel⟩⟩

/-- Hypotheses of `Obligations.IncrementSaturates` that a state meets, clause by clause. -/
theorem witness_IncrementSaturates :
    (∃ (v : Nat) (s : State), (ClockName.cclk ∉ s.safety.clockLost) ∧ (s.time.incNext = some v) ∧ (8795213412906 ≤ v) ∧ (v ≤ 8796972631510)) ∧
    (∃ (v : Nat) (s : State), (ClockName.cclk ∉ s.safety.clockLost) ∧ (s.time.incNext = some v) ∧ (v < 8795213412906)) ∧
    (∃ (v : Nat) (s : State), (ClockName.cclk ∉ s.safety.clockLost) ∧ (s.time.incNext = some v) ∧ (8796972631510 < v)) :=
  ⟨⟨8795213412906, { running with time.incNext := some 8795213412906 }, by decide +kernel⟩,
   ⟨8795213412905, { running with time.incNext := some 8795213412905 }, by decide +kernel⟩,
   ⟨8796972631511, { running with time.incNext := some 8796972631511, safety.safe := true }, by decide +kernel⟩⟩

/-- Hypotheses of `Obligations.LaneErrorLatch` that a state meets, clause by clause. -/
theorem witness_LaneErrorLatch :
    (∃ (req : Requester) (l : Nat) (o : Nat), (req ≠ .service) ∧ (l < 6) ∧ (o ∈ [0x10, 0x14, 0x18])) :=
  ⟨.pcie, 5, 0x18, by decide +kernel⟩

/-! ### Ill-formed commands are refused by WellFormed -/

/-- Numbers of things the hub does not have (R37), in events. -/
theorem test_wf_event_numbers : [Instr.decimatorOutput 132 [1], .decimatorOutput 0 [], .decimatorOutput 0 [2], .modulatorOverload 132, .toneWindowEnd 132 0, .gpioEdge 16 true, .termExpiry 16,
    .captureClose 8, .rearmEnd 8, .fullToArmed 8, .autoTrigger 8, .sympatheticRx .a [1], .mergeWindowEnd 16, .sympatheticFallback 16,
    .captureDataDeliver 128 [], .replayDeliver 128 [], .ringHoldResend 128, .railRegulationChange 16 0 false, .railCurrentLimitTimeout 16,
    .vexcHigh 4 50, .vexcLow 0 65536, .vexcRecovered 4 50, .openWireDetect .tap (.rail 16), .openWireClearTimeout .tap (.course 32),
    .openWireDetect .input (.channel ⟨.dynamic, 16384⟩)].all (fun i => !i.wf) = true := by decide

/-- The same, in events of dies, courses, hubs, lanes and rings. -/
theorem test_wf_more_event_numbers : [Instr.learningRunEnd 4, .rotationCycleStart 4, .rotationOutPeriodEnd 4, .microcodeReloadEnd 4,
    .dieLinkFault 4, .calSelfEnd 0 [], .tempDrift 0 128, .slotEnd 32 slotMeas0, .statsRecordClose 8 none, .rainflowRecordClose 8 none,
    .spectrumRecordClose 8 none, .hubAbsentTimeout 64, .forwardRetryTimeout 64 0, .leaveMsgRx 64, .hsrSupervisionRx 64, .nodeForget 64,
    .creditReturnTimeout 64, .reassemblyTimeout .a 64 0 0, .reassemblyTimeout .a 0 128 0, .laneStageTimeout 6, .laneFaultRetry 6,
    .eyeScanComplete 6 0 0, .laneTestEnd 6 0 0, .prbsCheckerLock ⟨6, []⟩, .prbsLockLost 6 0 0, .readLaneErrLo .pcie 6, .ringDoorbell 128 0,
    .ringDoorbell 0 4294967296, .descriptorFetch 0 [] [] true, .descriptorFetch 128 nopDesc [] true, .queueEntryDma 128, .ringPop .pcie 128,
    .ringFlushRequest 128, .ringFlushComplete 128, .dmaReadFailure 128].all (fun i => !i.wf) = true := by decide

/-- The same, in events of registers, safety, ports and updates. -/
theorem test_wf_port_numbers : [Instr.evtMaskWrite 8 0, .shadowRead .pcie 65536, .registerWrite .pcie 65536 0 15, .registerWrite .pcie 0 0 32,
    .hubSupplyFault 6 0, .hubSupplyRestored 6, .feSupplyFault 5 0, .feSupplyFault 14 0, .tempHigh 5 0, .tempRecovered 5 0, .sramUe 65536,
    .fpRequestSend 8 true, .fpResponseComplete 8 [] true, .fpResponseTimeout 8, .fpSlotEnd 8, .valPeriodStart 8, .valStaleTimeout 8,
    .valTripHoldEnd 8, .valFbFinding 8 .openLoad, .valDiagClear 8 .stuckOn, .ospiLineRead 4294967296, .ospiWindowWrite 4294967296,
    .serviceReadFrame 0 [256], .updCmdWrite .pcie 64, .budgetMsgRx (.request 64 0 0 0), .beaconRx .a { beacon0 with hub := 64 },
    .ringFrameRx .a { frame0 with path := 16 }].all (fun i => !i.wf) = true := by decide

/-- Header fields and operands that do not fit their fields (R387, R396 to R398). -/
theorem test_wf_command_fields : [Instr.nop { hdr with tag := 4294967296 }, .hubInfo { hdr with cplRing := 256 }, .acqStop { hdr with cmdRing := 128 },
    .join { hdr with descIdx := 65536 }, .leave { hdr with dataLen := 4294967296 }, .topologyRead { hdr with gateway := some 64 },
    .acqStart hdr 256 0, .resetHub hdr 4294967296, .counterRead hdr 256, .timeSet hdr 281474976710656 0, .timeAdjust hdr 2147483648 0,
    .timeAsym hdr 0 (-2147483649), .fretSet hdr 256, .dynChanSet hdr { dynChanP0 with chans := [127, 0] },
    .dynChanSet hdr { dynChanP0 with chans := [128] }, .railSet hdr 256 0 0, .vexcSet hdr 0 256, .dynChainSet hdr { chainP0 with osr := 256 },
    .courseSet hdr { courseP0 with scan := [256] }, .scanChanSet hdr { scanP0 with positions := [8] }, .courseRealign hdr 256,
    .urgentRead hdr ⟨.scanned, 16384⟩, .courseResultRead hdr 256, .spareSet hdr 256 0 0, .spareSubst hdr ⟨.dynamic, 0⟩ 256,
    .sliceTest hdr ⟨.dynamic, 0⟩ 256, .dieIsolate hdr 256 0, .bankWrite hdr ⟨.dynamic, 0⟩ 0 2147483648 0 0,
    .bankSwap hdr ⟨.dynamic, 0⟩ 0 65536, .calSelf hdr [8], .calRead hdr 0 [64], .unsubscribe hdr 256].all (fun i => !i.wf) = true := by decide

/-- The same, in the other families. -/
theorem test_wf_more_command_fields : [Instr.recvSubscribe hdr 256 0 0 0, .streamStateRead hdr 0 4294967296, .condWrite hdr 65536 [],
    .arm hdr 256, .disarm hdr 256, .captureRelease hdr 0 4294967296, .sympGroupSet hdr 0 0 65536, .statsSet hdr 0 4294967296 0 [],
    .rainflowSet hdr 256 0 0 [], .memPartition hdr 256 0, .rosterSet hdr [64], .rosterSet hdr [5, 5], .roleSet hdr 0 256 0 0, .laneInject hdr 256,
    .laneAdapt hdr 0 256, .laneTxSet hdr 0 (-129) 0 0 0, .fpDirWrite hdr 65536 [], .gpioSet hdr 65536 0 0, .syncInSet hdr 256 0,
    .safeRecover hdr 4294967296, .ownerLock hdr 256 0 0, .updOpen hdr 4294967296, .updWrite hdr 4294967296 [], .updCommit hdr 256 imageGood,
    .timeAsymTwin hdr 256, .dynChanSetTwin hdr [128], .scanChanSetTwin hdr 0 [8], .bankWriteTwin hdr ⟨.dynamic, 0⟩ 256,
    .condWriteTwin hdr 65536 0].all (fun i => !i.wf) = true := by decide

/-- Well-formed neighbours at the bounds are taken. -/
theorem test_wf_taken : [Instr.decimatorOutput 131 [-15], .gpioEdge 15 true, .slotEnd 31 slotMeas0, .ringDoorbell 127 4294967295, .nop hdr,
    .descriptorFetch 127 nopDesc [] true, .dynChanSet hdr dynChanP0, .rosterSet hdr [0, 63], .fretSet hdr 255].all (·.wf) = true := by decide

/-! ### Worked examples of the manual -/

/-- R19: the check value for the nine ASCII bytes 123456789. -/
theorem test_crc32c : crc32c [0x31, 0x32, 0x33, 0x34, 0x35, 0x36, 0x37, 0x38, 0x39] = 0xE3069283#32 := by decide +kernel

/-- R206: the HCRC's check value for the same bytes. -/
theorem test_crc16 : crc16 [0x31, 0x32, 0x33, 0x34, 0x35, 0x36, 0x37, 0x38, 0x39] = 0x29B1#16 := by decide +kernel

/-- 00, the placing of D077 and C173: FE2, rail E09, course 21 at position 5 of FE2. -/
theorem test_placing : (dieOfSlice 77, railOf 77, 173 / 8, 173 % 8, dieOfCourse 21) = (2, 9, 21, 5, 2) := by decide

/-- 06, R158: Medium's delay of 150.45 us, and K of Extra-heavy/50. -/
theorem test_chains : (delayTotal { dynSet0 with chain := 2 }, chainK { dynSet0 with chain := 4 }) = (150450, 2) := by decide +kernel

/-- 06, R162: Medium with a 50 Hz notch of B = 2 Hz delays by 277.73 us. -/
theorem test_notch_delay : (delayTotal { dynSet0 with chain := 2, notch := 1, width := 1 } + 5) / 10 = 27773 := by decide +kernel

/-- 02, R61: hub 17's offset of +2.75 ns, in 2^-4 ns, whatever the port's receive delay. -/
theorem test_sync_offset : (onSync .a
    { sync0 with origin16 := 8000000000, correction16 := 1096680, ingress16 := 8001096724 + rxDelay16 running .a } running).time.offset16 = 44 := by
  have h : ∀ c : Int, 8001096724 + c - c = 8001096724 := by omega
  simp only [onSync, h]
  decide +kernel

/-- 02, R47: the increment for a TCXO 1.5 ppm fast lies within R48's range. -/
theorem test_increment : (takeIncrement { running with time.incNext := some 8796079828088 }).time = { running.time with inc := 8796079828088 } := by
  decide +kernel

/-- 05, R151: 154 periods in 75,815,385 CCLK are 812.5 Hz; a crossing before the window is not counted. -/
theorem test_vw_value :
    (let n := vwCount (vwWindowStart scanSet0) 120000000 (24003239 :: (List.range 155).map (fun k => 24003240 + 75815385 * k / 154))
     (n, roundDiv (n.1 * 256 * 400000000) n.2)) = ((154, 75815385), 208000) := by decide +kernel

/-- 05, R151 and R152: fewer than 32 periods are NO_SIGNAL. -/
theorem test_vw_no_signal : (let r := vwResult scanSet0 120000000 slotMeas0; (r.1, r.2.1)) = (0, 1) := by decide +kernel

/-- 11, R293: 16 GiB at the default shares give a history of 12 GiB and a pin margin of 832 MiB. -/
theorem test_partitions : (let s := { running with dram := { running.dram with mib := 16384 } }
    (historyBytes settings0 s, pinMargin settings0 s)) = (12884901888, 872415232) := by decide +kernel

/-- 08, R221: the EPOCH payload of T_E. -/
theorem test_epoch : epochPayload 1700001742848000000 0 =
    [0xCE, 0xF7, 0x53, 0x65, 0, 0, 0, 0, 0x00, 0x74, 0x8B, 0x32, 0, 0, 0, 0] := by decide +kernel

/-- 08, R43: the short stamp of T_E. -/
theorem test_stamp : stampOf 1700001742848000000 = 0 := by decide

/-- 10, R273: the turning point 10 closes a cycle of r = 10 and m = 35. -/
theorem test_rainflow : pushPoint 10 { cand := none, up := none, stack := [40, 30, 48, 20] } [] =
    ({ cand := none, up := none, stack := [10, 48, 20] }, [(64 * 10 + 35, 2)]) := by decide

/-- 10, R273: 2,147,484 lies on level 48. -/
theorem test_rain_level : rainQuant { chan := ⟨.dynamic, 77⟩, lo := -4194304, hi := 4194304, gate := 1, mode := 0 } 2147484 = 48 := by decide

/-- 10, R283 to R285: eight words code into nine bytes, the words' tags 0x01 and v = 5. -/
theorem test_coder :
    (codeBlock 1 { clearedCoder 1 with lastWord := 0x501, deltas := [0], words := 1 }
      ([0x501, 0x501, 0x501, 0x601, 0x701, 0x801, 0x901, 0xA01].map (leBytes 4)).flatten) =
    ([0x20, 0x00, 0x80, 0x02, 0x00, 0x80, 0x04, 0x80, 0x03], { lastWord := 0xA01, deltas := [256, 256, 256, 256], words := 9, level := 1 }) := by
  decide +kernel

/-- 17, R435: an attempt at 115,200 baud with 5 ms takes 3,009,008 CCLK; its request ends 309,008 after the slot start. -/
theorem test_attempt : (attemptCclk { fpSet0 with baud := 4, timeout := 5 } { dirEntry0 with func := 3 },
    sendCclk { fpSet0 with baud := 4, timeout := 5 } { dirEntry0 with func := 3 }) = (3009008, 309008) := by decide

/-- 17: the word of -2,000 with VALID, left-aligned. -/
theorem test_polled_word : sampleWord false (field24 (-2000)) 1 = 0xFFF83001 := by decide

/-- 18: the header 0x0103_2000 reads the time's nanoseconds, then the latched seconds, and status 0. -/
theorem test_service_time :
    (match exec (.serviceReadFrame 0x01032000#32 []) { running with time.half := 8600000001000 } with
      | .next t => t.loc.svcOut.map (fun w => w.toNat % 65536) | _ => []) =
    [500, 4300, 0, 0] := by decide +kernel

/-! ### One step -/

/-- R371: a doorbell of ring 0 past its size is ignored and sets BAD_IDX. -/
theorem test_bad_doorbell : (match step { commanded with pending := [.ringDoorbell 0 300] } with
    | .next t => some (t.host.badIdx, (ringAt t 0).hostIdx, t.pending.length) | _ => none) = some (true, 1, 0) := by decide +kernel

/-- R404: a NOP's descriptor is handed to Clesin, and the hub index passes it. -/
theorem test_fetch : (match step { commanded with pending := [.descriptorFetch 0 nopDesc [] true, .ppsRise] } with
    | .next t => some (t.host.handed.map (·.tag), (ringAt t 0).hubIdx, t.pending.length) | _ => none) = some ([0x03020104], 1, 1) := by decide +kernel

/-- R471: SAFE_RECOVER with another key is refused with BAD_PARAM. -/
theorem test_recover_key : (match exec (.safeRecover hdr 0x5AFE5AFF) running with
    | .next t => t.host.waiting.map (fun c => (c.status, c.result.take 2)) | _ => []) = [(3, [28, 0])] := by decide +kernel

/-- R470: in the safe state FRET_SET is refused with REFUSED_STATE, state 8, and NOP is not. -/
theorem test_safe_refuses : (match exec (.fretSet hdr 3) { running with safety.safe := true }, exec (.nop hdr) { running with safety.safe := true } with
    | .next t, .next u => t.host.waiting.map (fun c => (c.status, c.result.take 1)) ++ u.host.waiting.map (fun c => (c.status, c.result.take 1))
    | _, _ => []) = [(2, [8]), (0, [0])] := by decide +kernel

/-- R23: a rail's setting is accepted, and takes effect at the next fret boundary. -/
theorem test_rail_waits : (match exec (.railSet hdr 9 2 1) running with
    | .next t => some ((tget railSet0 t.cfg.rails 9).voltage, (railLive t 9).voltage, t.fret.atBoundary.length) | _ => none) = some (2, 0, 1) := by
  decide +kernel

/-- R29, R467: a lost CCLK is cause 2. -/
theorem test_clock_loss : (match exec (.clockLoss .cclk) running with
    | .next t => some (t.safety.safe, t.safety.first, t.loc.alarmN) | _ => none) = some (true, 2, true) := by decide +kernel

/-- R412: a fence leaves the pair in reset for 100 ms and starts the standby. -/
theorem test_fence : (match exec .lockstepDivergence running with
    | .next t => some (t.pairs.p0.state, t.pairs.p0.holdEnd - t.time.cclk, t.pairs.p1.state, t.host.ready) | _ => none) =
    some (.fenced, 39999992, .starting, false) := by decide +kernel

/-- R497: UPD_CMD UNLOCK with the key clears the lock. -/
theorem test_unlock : (match exec (.updCmdUnlock .service) { running with boot.bcb := { running.boot.bcb with lock := true, key := 9 }, host.reqSvc := { running.host.reqSvc with updArg := 9#32 } } with
    | .next t => some (t.boot.bcb.lock, t.host.reqSvc.updResult) | _ => none) = some (false, some 0) := by decide +kernel

/-- R365: a partial write is dropped and sets PARTIAL for the PCIe requester. -/
theorem test_partial_write : (match exec (.registerWrite .pcie 0x0044 5#32 7) running with
    | .next t => some (t.host.scratch, t.host.reqPcie.partialWrite) | _ => none) = some (0#32, true) := by decide +kernel

/-- R461: PPS_OUT rises at the next whole second. -/
theorem test_pps : (match exec .ppsRise { running with time.half := 4000000005, time.locked := true } with
    | .next t => some (t.loc.pps, decide (6000000000 ≤ t.time.half ∧ t.time.half < 6000000005)) | _ => none) = some (true, true) := by decide +kernel

/-- The idle block lets one CCLK pass (log 1). -/
theorem test_idle : step running = .next { running with time.half := 4000000005, time.cclk := 800000001 } := rfl

end Sys2Proof.Tests
end

section
/-! The statements about every command: each answers a next state, and Clesin's own checks of a descriptor and of the safe
state refuse before anything changes. -/

namespace Sys2Proof.Machine

/-! ### What the checks of Clesin answer -/

/-- A stray flag is named before a bad ring: its offset is the lower (R388, R394). -/
theorem headerFault_of_flagFault {h : CmdHdr} {op : Nat} {s : State} (flag : flagFault h op = true) :
    headerFault h op s = some (badParam 3) := by
  cases ring : decide (h.gateway = none) && !completionRing s h.cplRing with
  | false => simp [headerFault, firstBad, flag, ring]
  | true => simp [headerFault, firstBad, flag, ring]

/-- A command of this hub's host needs an active COMPLETION ring for its answer (R388). -/
theorem headerFault_of_no_completionRing {h : CmdHdr} {op : Nat} {s : State} (flags : flagFault h op = false)
    (own : h.gateway = none) (ring : completionRing s h.cplRing = false) : headerFault h op s = some (badParam 8) := by
  simp [headerFault, firstBad, flags, own, ring]

theorem headerFault_eq_none {h : CmdHdr} {op : Nat} {s : State} (flags : flagFault h op = false)
    (ring : h.gateway = none → completionRing s h.cplRing = true) : headerFault h op s = none := by
  simpa [headerFault, flags] using ring

/-- The header is checked first: what it refuses is answered whatever the safe state and the command's own check say. -/
theorem runCommand_of_headerFault {h : CmdHdr} {op : Nat} {chk : State → Option Reply} {eff : State → State} {s : State}
    {r : Reply} (up : clesinUp s = true) (fault : headerFault h op s = some r) : runCommand h op chk eff s = finish h op r s := by
  simp [runCommand, up, fault, orElseReply]

/-- The safe state is checked before the command's own check (R470). -/
theorem runCommand_of_safe {h : CmdHdr} {op : Nat} {chk : State → Option Reply} {eff : State → State} {s : State}
    (up : clesinUp s = true) (header : headerFault h op s = none) (safe : s.safety.safe = true) (other : safeOp op = false) :
    runCommand h op chk eff s = finish h op (refusedState 8 0) s := by
  simp [runCommand, up, header, safe, other, orElseReply]

/-- A command that is refused whatever its own check and effect are does nothing but answer, apart from messages. -/
theorem does_answered_of_refused {c : Instr} {h : CmdHdr} {op : Nat} {r : Reply} {s : State} (cmd : commandOf c = some (h, op))
    (refused : ∀ chk eff, runCommand h op chk eff s = finish h op r s) : Does c s (answered h op r s) := by
  obtain ⟨chk, eff, run⟩ := exec_command cmd s
  rw [refused chk eff] at run
  exact does_of run (finish_silent h op r s)

/-- The answer of a command that names no active COMPLETION ring goes to ring 1 (R388). -/
theorem completionOf_ring_of_no_completionRing {h : CmdHdr} {op effect : Nat} {r : Reply} {s : State}
    (ring : completionRing s h.cplRing = false) : (completionOf h op r effect s).ring = 1 := by
  simp [completionOf, ring]

/-! ### The obligations -/

/-- Settles O3: each constructor's arm of the dispatch is a next state by definition. -/
theorem everyCommandAnswersNext : Obligations.EveryCommandAnswersNext := by
  intro c s
  cases c <;> exact ⟨_, rfl⟩

/-- Settles O10: both faults of the header are answered before any effect, the flag's first. -/
theorem badDescriptorRefused : Obligations.BadDescriptorRefused := by
  constructor
  · intro c h op s cmd up flag
    exact does_answered_of_refused cmd fun _ _ => runCommand_of_headerFault up (headerFault_of_flagFault flag)
  · intro c h op s cmd up flags own ring
    have fault := headerFault_of_no_completionRing flags own ring
    exact ⟨completionOf_ring_of_no_completionRing ring, does_answered_of_refused cmd fun _ _ => runCommand_of_headerFault up fault⟩

/-- Settles O11: with a good header, the safe state's check refuses before the command's own. -/
theorem safeStateRefusesCommands : Obligations.SafeStateRefusesCommands := by
  intro c h op s cmd up flags ring safe other
  have header := headerFault_eq_none flags ring
  exact does_answered_of_refused cmd fun _ _ => runCommand_of_safe up header safe other

end Sys2Proof.Machine
end

section
/-! Rails and VEXC as measured; before them, facts of the state that the statements about the front ends share: two writes of one
entry, the parts of the front ends written and read, and what an alarm or an event is apart from messages. -/

namespace Sys2Proof.Machine

/-! ### Two writes of one entry of a table -/

theorem tdrop_tinsert {α : Type} (k : Nat) (v : α) : ∀ t : Table α, tdrop (tinsert k v t) k = tdrop t k
  | [] => by simp [tinsert, tdrop]
  | (j, w) :: rest => by
    have ih := tdrop_tinsert k v rest
    unfold tinsert
    split
    · simp [tdrop]
    · by_cases h : j = k
      · simpa [tdrop, h] using ih
      · simpa [tdrop, h] using ih

/-- A write removes what the table held for the number. -/
theorem tdrop_tput {α : Type} [DecidableEq α] (d : α) (t : Table α) (k : Nat) (v : α) : tdrop (tput d t k v) k = tdrop t k := by
  have twice : tdrop (tdrop t k) k = tdrop t k := by simp [tdrop]
  unfold tput
  split
  · exact twice
  · rw [tdrop_tinsert, twice]

/-- Of two writes of one entry, the second stands. -/
@[simp] theorem tput_tput {α : Type} [DecidableEq α] (d : α) (t : Table α) (k : Nat) (v w : α) :
    tput d (tput d t k v) k w = tput d t k w := by
  rw [tput, tdrop_tput, ← tput]

/-! ### Parts of the front ends, written and read -/

@[simp] theorem putDie_rest (k : Nat) (d : DieRun) (s : State) :
    (putDie k d s).time = s.time ∧ (putDie k d s).cfg = s.cfg ∧ (putDie k d s).live = s.live ∧ (putDie k d s).streams = s.streams ∧
    (putDie k d s).boot = s.boot := by
  simp [putDie]

@[simp] theorem putDyn_rest (n : Nat) (r : DynRun) (s : State) :
    (putDyn n r s).time = s.time ∧ (putDyn n r s).cfg = s.cfg ∧ (putDyn n r s).live = s.live ∧ (putDyn n r s).streams = s.streams ∧
    (putDyn n r s).boot = s.boot ∧ (putDyn n r s).fe.spares = s.fe.spares ∧ (putDyn n r s).fe.rotation = s.fe.rotation := by
  simp [putDyn]

@[simp] theorem putSpare_rest (k : Nat) (r : SpareRun) (s : State) :
    (putSpare k r s).time = s.time ∧ (putSpare k r s).cfg = s.cfg ∧ (putSpare k r s).live = s.live ∧
    (putSpare k r s).streams = s.streams ∧ (putSpare k r s).boot = s.boot ∧ (putSpare k r s).fe.dyn = s.fe.dyn ∧
    (putSpare k r s).fe.rotation = s.fe.rotation ∧ (putSpare k r s).host = s.host := by
  simp [putSpare]

@[simp] theorem putFactors_rest (n : Nat) (f : Factors) (s : State) :
    (putFactors n f s).time = s.time ∧ (putFactors n f s).cfg = s.cfg ∧ (putFactors n f s).live = s.live ∧
    (putFactors n f s).streams = s.streams ∧ (putFactors n f s).boot = s.boot := by
  simp [putFactors]

@[simp] theorem putCourse_rest (c : Nat) (r : CourseRun) (s : State) :
    (putCourse c r s).time = s.time ∧ (putCourse c r s).cfg = s.cfg ∧ (putCourse c r s).trig = s.trig ∧
    (putCourse c r s).streams = s.streams ∧ (putCourse c r s).boot = s.boot := by
  simp [putCourse]

@[simp] theorem dieAt_putDie (k : Nat) (d : DieRun) (s : State) : dieAt (putDie k d s) k = d := by simp [dieAt, putDie]

@[simp] theorem spareAt_putSpare (k : Nat) (r : SpareRun) (s : State) : spareAt (putSpare k r s) k = r := by simp [spareAt, putSpare]

@[simp] theorem putDie_putDie (k : Nat) (d e : DieRun) (s : State) : putDie k e (putDie k d s) = putDie k e s := by simp [putDie]

/-- A part of the front ends reads the same in states that hold the same table of it. -/
theorem dieAt_congr {s t : State} (h : t.fe.dies = s.fe.dies) (k : Nat) : dieAt t k = dieAt s k := by rw [dieAt, dieAt, h]

theorem dynRun_congr {s t : State} (h : t.fe.dyn = s.fe.dyn) (n : Nat) : dynRun t n = dynRun s n := by rw [dynRun, dynRun, h]

theorem spareAt_congr {s t : State} (h : t.fe.spares = s.fe.spares) (k : Nat) : spareAt t k = spareAt s k := by rw [spareAt, spareAt, h]

theorem railAt_congr {s t : State} (h : t.fe.rails = s.fe.rails) (e : Nat) : railAt t e = railAt s e := by rw [railAt, railAt, h]

theorem railLive_congr {s t : State} (h : t.live = s.live) (e : Nat) : railLive t e = railLive s e := by rw [railLive, railLive, h]

/-! ### Alarms and events -/

/-- An alarm that is raised is listed. -/
theorem mem_alarms_raiseAlarm (code source : Nat) (args : List Byte) (s : State) :
    (code, source) ∈ (raiseAlarm code source args s).host.alarms := by
  unfold raiseAlarm raiseAs
  extract_lets t
  by_cases listed : (code, source) ∈ t.host.alarms <;> simp [alarmPin, listed]

@[simp] theorem raiseAlarm_silent (code source : Nat) (args : List Byte) (s : State) : silent (raiseAlarm code source args s) = silent s := by
  simp [silent]

@[simp] theorem endAlarm_silent (code source : Nat) (args : List Byte) (s : State) : silent (endAlarm code source args s) = silent s := by
  simp [silent]

theorem fileEvent_silent (e : Event) (s : State) : silent (fileEvent e s) = silent s := by
  cases gather : s.fret.gather with
  | none => by_cases hw : hardwareCode e.code = true <;> simp [silent, fileEvent, gather, hw]
  | some x => by_cases hw : hardwareCode e.code = true <;> simp [silent, fileEvent, gather, hw]

@[simp] theorem event_silent (code source : Nat) (args : List Byte) (s : State) : silent (event code source args s) = silent s := by
  unfold event eventAt
  rw [fileEvent_silent]
  simp [silent]

theorem silent_putDie (k : Nat) (d : DieRun) (s : State) : silent (putDie k d s) = putDie k d (silent s) := rfl

/-! ### Rails and VEXC -/

theorem railZero_voltage (e : Nat) (c : Settings) : (tget railSet0 (railZero e c).rails e).voltage = 0 := by simp [railZero, tmod]

theorem railZero_other {e i : Nat} (c : Settings) (other : i ≠ e) : tget railSet0 (railZero e c).rails i = tget railSet0 c.rails i := by
  simp [railZero, tmod, other]

/-- Die `k` with VEXC as measured. -/
def vexcMeasured (k tenMv : Nat) (s : State) : DieRun :=
  { dieAt s k with vexc := tenMv, vexcHigh := decide (1050 * vexcNom s k < 100 * tenMv) }

/-- A measurement of VEXC writes its die, and otherwise only raises or ends the alarm. -/
theorem measureVexc_cases (k tenMv : Nat) (s : State) :
    measureVexc k tenMv s = raiseAlarm 0x020A k (leBytes 2 tenMv) (putDie k (vexcMeasured k tenMv s) s) ∨
    measureVexc k tenMv s = endAlarm 0x020A k (leBytes 2 tenMv) (putDie k (vexcMeasured k tenMv s) s) ∨
    measureVexc k tenMv s = putDie k (vexcMeasured k tenMv s) s := by
  unfold measureVexc
  extract_lets high t
  split
  · exact .inl rfl
  · split
    · exact .inr (.inl rfl)
    · exact .inr (.inr rfl)

theorem measureVexc_silent (k tenMv : Nat) (s : State) :
    silent (measureVexc k tenMv s) = silent (putDie k (vexcMeasured k tenMv s) s) := by
  rcases measureVexc_cases k tenMv s with h | h | h <;> simp [h]

theorem measureVexc_live (k tenMv : Nat) (s : State) : (measureVexc k tenMv s).live = s.live := by
  rcases measureVexc_cases k tenMv s with h | h | h <;> simp [h]

theorem dieAt_measureVexc (k tenMv : Nat) (s : State) : dieAt (measureVexc k tenMv s) k = vexcMeasured k tenMv s := by
  have dies : (measureVexc k tenMv s).fe.dies = (putDie k (vexcMeasured k tenMv s) s).fe.dies := by
    rcases measureVexc_cases k tenMv s with h | h | h <;> simp [h]
  rw [dieAt_congr dies, dieAt_putDie]

/-- What follows a measurement writes the same die again. -/
theorem putDie_measureVexc_silent (k tenMv : Nat) (d : DieRun) (s : State) :
    silent (putDie k d (measureVexc k tenMv s)) = silent (putDie k d s) := by
  rw [silent_putDie, measureVexc_silent, silent_putDie, putDie_putDie, silent_putDie]

theorem onRegulation_on {rail : Nat} (mv : Nat) (limiting : Bool) {s : State} (on : 0 < railMv (railLive s rail).voltage) :
    onRegulation rail mv limiting s = putRail rail { railAt s rail with
      outOfReg := limiting || decide (2 * railMv (railLive s rail).voltage < 100 * ((mv : Int) - railMv (railLive s rail).voltage).natAbs)
      limitSince := if limiting then some ((railAt s rail).limitSince.getD s.time.half) else none } s := by
  simp only [onRegulation, if_neg (Nat.ne_of_gt on)]

/-- A rail trips: it is off in the settings in force, noted as tripped, and its alarm is raised. -/
def tripRail (e : Nat) (cfg : Settings) (s : State) : State :=
  raiseAlarm 0x0203 e [] (putRail e { railAt s e with tripped := true, outOfReg := false, limitSince := none }
    { s with live := railZero e s.live, cfg := cfg })

@[simp] theorem tripRail_rest (e : Nat) (cfg : Settings) (s : State) :
    (tripRail e cfg s).time = s.time ∧ (tripRail e cfg s).fret = s.fret ∧ (tripRail e cfg s).trig = s.trig ∧
    (tripRail e cfg s).streams = s.streams ∧ (tripRail e cfg s).boot = s.boot := by
  simp [tripRail, putRail]

theorem tripRail_same (e : Nat) (cfg : Settings) (s : State) :
    (railLive (tripRail e cfg s) e).voltage = 0 ∧ (railAt (tripRail e cfg s) e).tripped = true ∧
    (0x0203, e) ∈ (tripRail e cfg s).host.alarms := by
  refine ⟨?_, by simp [tripRail, railAt, putRail], mem_alarms_raiseAlarm ..⟩
  simpa [tripRail, railLive, putRail] using railZero_voltage e s.live

theorem tripRail_other {e i : Nat} (cfg : Settings) (s : State) (other : i ≠ e) :
    railLive (tripRail e cfg s) i = railLive s i ∧ railAt (tripRail e cfg s) i = railAt s i := by
  refine ⟨?_, by simp [tripRail, railAt, putRail, other]⟩
  simpa [tripRail, railLive, putRail] using railZero_other s.live other

/-- A rail that has been in limit trips 10 ms after the limit began (R104). -/
theorem onLimitTimeout_of_since {rail since : Nat} {s : State} (limit : (railAt s rail).limitSince = some since) :
    ∃ cfg, onLimitTimeout rail s = tripRail rail cfg (toInstant (since + 20000000) s) := by
  simp only [onLimitTimeout, limit]
  exact ⟨_, rfl⟩

theorem onVexcLow_silent {k tenMv : Nat} {s : State} (low : tenMv < 450) (used : dieHasChannel s k = true) :
    silent (onVexcLow k tenMv s) = silent (putDie k { vexcMeasured k tenMv s with vexcLow := true } s) := by
  have enabled : dieHasChannel (measureVexc k tenMv s) k = true := by simpa [dieHasChannel, measureVexc_live] using used
  simp only [onVexcLow, low, enabled, and_self, if_true, dieAt_measureVexc]
  exact putDie_measureVexc_silent ..

theorem onVexcRecovered_silent {k tenMv : Nat} {s : State} (back : 460 < tenMv) :
    silent (onVexcRecovered k tenMv s) = silent (putDie k { vexcMeasured k tenMv s with vexcLow := false } s) := by
  simp only [onVexcRecovered, back, if_true, dieAt_measureVexc]
  exact putDie_measureVexc_silent ..

/-! ### The statement -/

theorem exec_railRegulationChange (rail mv : Nat) (limiting : Bool) (s : State) :
    exec (.railRegulationChange rail mv limiting) s = .next (onRegulation rail mv limiting s) := rfl

theorem exec_railCurrentLimitTimeout (rail : Nat) (s : State) : exec (.railCurrentLimitTimeout rail) s = .next (onLimitTimeout rail s) := rfl

theorem exec_vexcHigh (die v : Nat) (s : State) : exec (.vexcHigh die v) s = .next (measureVexc die v s) := rfl

theorem exec_vexcLow (die v : Nat) (s : State) : exec (.vexcLow die v) s = .next (onVexcLow die v s) := rfl

theorem exec_vexcRecovered (die v : Nat) (s : State) : exec (.vexcRecovered die v) s = .next (onVexcRecovered die v s) := rfl

/-- Settles O20: each measurement is one write of its rail or die, and an alarm at most. -/
theorem supplyMeasurements : Obligations.SupplyMeasurements := by
  refine ⟨fun rail mv limiting s on => ?_, fun rail since s limit => ?_, fun die v s => ?_, fun die v s low used => ?_, fun die v s back => ?_⟩
  · rw [exec_railRegulationChange, onRegulation_on mv limiting on]
  · obtain ⟨cfg, trips⟩ := onLimitTimeout_of_since limit
    obtain ⟨off, tripped, alarm⟩ := tripRail_same rail cfg (toInstant (since + 20000000) s)
    refine ⟨_, exec_railCurrentLimitTimeout rail s, ?_⟩
    rw [trips]
    refine ⟨off, tripped, alarm, by simp, fun e _ other => ?_, by simp⟩
    obtain ⟨live, run⟩ := tripRail_other cfg (toInstant (since + 20000000) s) other
    exact ⟨live.trans (railLive_congr (by simp) e), run.trans (railAt_congr (by simp) e)⟩
  · exact does_of (exec_vexcHigh die v s) (measureVexc_silent die v s)
  · exact does_of (exec_vexcLow die v s) (onVexcLow_silent low used)
  · exact does_of (exec_vexcRecovered die v s) (onVexcRecovered_silent back)

end Sys2Proof.Machine
end

section
/-! Spares: learning, slice tests and rotation. -/

namespace Sys2Proof.Machine

/-! ### A spare's life -/

@[simp] theorem dynRun_putSpare (k : Nat) (r : SpareRun) (s : State) (n : Nat) : dynRun (putSpare k r s) n = dynRun s n := by
  simp [dynRun]

@[simp] theorem clearStuck_rest (n : Nat) (s : State) :
    (clearStuck n s).time = s.time ∧ (clearStuck n s).cfg = s.cfg ∧ (clearStuck n s).live = s.live ∧
    (clearStuck n s).streams = s.streams ∧ (clearStuck n s).boot = s.boot ∧ (clearStuck n s).fe.spares = s.fe.spares := by
  unfold clearStuck
  extract_lets r
  split <;> simp

theorem clearStuck_stuck (n : Nat) (s : State) : (dynRun (clearStuck n s) n).stuck = false := by
  unfold clearStuck
  extract_lets r
  split
  case isTrue => simp [dynRun, putDyn]
  case isFalse sound => simp_all [r]

@[simp] theorem finishSpare_rest (k : Nat) (r : Reply) (s : State) :
    (finishSpare k r s).time = s.time ∧ (finishSpare k r s).cfg = s.cfg ∧ (finishSpare k r s).live = s.live ∧
    (finishSpare k r s).streams = s.streams ∧ (finishSpare k r s).boot = s.boot := by
  unfold finishSpare
  split <;> simp

/-- A spare whose command is answered goes on with no command. -/
@[simp] theorem spareAt_finishSpare (k : Nat) (r : Reply) (s : State) : spareAt (finishSpare k r s) k = { spareAt s k with hdr := none } := by
  unfold finishSpare
  split
  case h_1 none => rw [← none]
  case h_2 => simp [spareAt, putSpare]

@[simp] theorem stopRotation_rest (k : Nat) (s : State) :
    (stopRotation k s).time = s.time ∧ (stopRotation k s).cfg = s.cfg ∧ (stopRotation k s).live = s.live ∧
    (stopRotation k s).streams = s.streams ∧ (stopRotation k s).boot = s.boot ∧ (stopRotation k s).fe.spares = s.fe.spares ∧
    (stopRotation k s).fe.dyn = s.fe.dyn ∧ (stopRotation k s).host = s.host := by
  simp [stopRotation]

theorem stopRotation_running (k : Nat) (s : State) : (tget rotationRun0 (stopRotation k s).fe.rotation k).running = false := by
  simp [stopRotation, rotationRun0]

theorem spareAt_stopRotation (k i : Nat) (s : State) : spareAt (stopRotation k s) i = spareAt s i := spareAt_congr (by simp) i

theorem dynRun_stopRotation (k n : Nat) (s : State) : dynRun (stopRotation k s) n = dynRun s n := dynRun_congr (by simp) n

/-! ### Learning -/

/-- The learning run of a replacing spare leads to its swap, with unit gain and no offset where the match fails (R118). -/
theorem onLearningEnd_replace {k : Nat} {s : State} (learning : (spareAt s k).phase = .learning) (replace : (spareAt s k).use = .replace)
    (done : learningDone s (spareAt s k) = true) :
    ∃ r : SpareRun, onLearningEnd k s = putSpare k r (useFree s) ∧ r.phase = .swapDue ∧ r.chan = (spareAt s k).chan ∧
      (r.matchFail = true → r.fitG = 16777216 ∧ r.fitO = 0) := by
  simp only [onLearningEnd, learning, replace, done]
  simp only [reduceCtorEq, decide_false, Bool.false_eq_true, if_false, or_false, and_self, if_true, not_false_eq_true, true_or]
  split
  case isTrue matched => exact ⟨_, rfl, rfl, rfl, by simp⟩
  case isFalse failed => exact ⟨_, rfl, rfl, rfl, by simp⟩

/-! ### Slice tests -/

theorem testedSet_toInstant (h : Nat) (s : State) (k : Nat) (m : CalReading) : testedSet (toInstant h s) k m = testedSet s k m := by
  simp [testedSet, spareAt, freshNat, dynLive, dieAt, factorsAt]

/-- The test's readings are judged, at the instant at which the test ends (R196). -/
def sliceTested (k : Nat) (m : CalReading) (s : State) : State :=
  useFree (putSpare k { spareAt s k with tested := some (testedSet s k m) } (toInstant (spareAt s k).dueAt s))

@[simp] theorem sliceTested_rest (k : Nat) (m : CalReading) (s : State) :
    (sliceTested k m s).time = (toInstant (spareAt s k).dueAt s).time ∧ (sliceTested k m s).cfg = s.cfg ∧
    (sliceTested k m s).live = s.live ∧ (sliceTested k m s).streams = s.streams ∧ (sliceTested k m s).boot = s.boot := by
  simp [sliceTested]

@[simp] theorem spareAt_sliceTested (k : Nat) (m : CalReading) (s : State) :
    spareAt (sliceTested k m s) k = { spareAt s k with tested := some (testedSet s k m) } := by
  simp [sliceTested, spareAt, putSpare]

theorem spareAt_clearStuck (n : Nat) (s : State) (k : Nat) : spareAt (clearStuck n s) k = spareAt s k := spareAt_congr (by simp) k

/-- A passed test whose spare is not to stay: the slice is sound, and the swap back waits (R196). -/
theorem onSliceTestEnd_passed {k : Nat} {m : CalReading} {s : State} (testing : (spareAt s k).phase = .testing)
    (back : (spareAt s k).keep = false) (passed : (testedSet s k m).result = 0) :
    onSliceTestEnd k m s = putSpare k { spareAt s k with tested := some (testedSet s k m), phase := .backWait }
      (clearStuck (spareAt s k).chan (sliceTested k m s)) := by
  have same : spareAt (toInstant (spareAt s k).dueAt s) k = spareAt s k := spareAt_congr (by simp) k
  have run : onSliceTestEnd k m s = putSpare k { spareAt (clearStuck (spareAt s k).chan (sliceTested k m s)) k with phase := .backWait }
      (clearStuck (spareAt s k).chan (sliceTested k m s)) := by
    rw [onSliceTestEnd, if_pos testing]
    simp only [same, testedSet_toInstant]
    rw [if_pos passed, if_neg (by simp [back]), sliceTested]
  rw [run, spareAt_clearStuck, spareAt_sliceTested]

/-- A spare stays in the place of a slice that is declared stuck, with its alarm (R199). -/
def spareStays (k c : Nat) (s : State) : State :=
  let t := putDyn c { dynRun s c with stuck := true, stuckDue := true } s
  let u := putSpare k { spareAt t k with phase := .serving, use := .replace } t
  raiseAlarm 0x0205 (dynCode c) (leBytes 4 (dynRun u c).tone) u

@[simp] theorem spareStays_rest (k c : Nat) (s : State) :
    (spareStays k c s).cfg = s.cfg ∧ (spareStays k c s).live = s.live ∧ (spareStays k c s).streams = s.streams ∧
    (spareStays k c s).boot = s.boot := by
  simp [spareStays]

theorem spareStays_declares (k c : Nat) (s : State) :
    (spareAt (spareStays k c s) k).phase = .serving ∧ (spareAt (spareStays k c s) k).use = .replace ∧
    (dynRun (spareStays k c s) c).stuck = true ∧ (0x0205, dynCode c) ∈ (spareStays k c s).host.alarms := by
  refine ⟨?_, ?_, ?_, mem_alarms_raiseAlarm ..⟩
  · simp [spareStays, spareAt, putSpare]
  · simp [spareStays, spareAt, putSpare]
  · simp [spareStays, dynRun, putDyn]

/-- A failed test: its command is answered, the spare stays, and a rotation stops (R196, R199). -/
theorem onSliceTestEnd_failed {k : Nat} {m : CalReading} {s : State} (testing : (spareAt s k).phase = .testing)
    (failed : (testedSet s k m).result ≠ 0) :
    ∃ reply, let u := spareStays k (spareAt s k).chan (finishSpare k reply (sliceTested k m s))
      onSliceTestEnd k m s = if (spareAt s k).use = .rotation then stopRotation k u else u := by
  have same : spareAt (toInstant (spareAt s k).dueAt s) k = spareAt s k := spareAt_congr (by simp) k
  refine ⟨testReply (sliceTested k m s) k, ?_⟩
  rw [onSliceTestEnd, if_pos testing]
  simp only [same, testedSet_toInstant]
  rw [if_neg failed]
  rfl

/-! ### Rotation -/

/-- The rotation of die `k` stands as given. -/
def putRotation (k : Nat) (r : RotationRun) (s : State) : State := { s with fe.rotation := tput rotationRun0 s.fe.rotation k r }

@[simp] theorem putRotation_rest (k : Nat) (r : RotationRun) (s : State) :
    (putRotation k r s).time = s.time ∧ (putRotation k r s).cfg = s.cfg ∧ (putRotation k r s).live = s.live ∧
    (putRotation k r s).streams = s.streams ∧ (putRotation k r s).boot = s.boot := by
  simp [putRotation]

@[simp] theorem rotation_putRotation (k : Nat) (r : RotationRun) (s : State) :
    tget rotationRun0 (putRotation k r s).fe.rotation k = r := by
  simp [putRotation]

/-- An out-period that begins asks for the spare at most, or raises the event of a channel that is skipped (R197, R198). -/
@[simp] theorem outPeriod_rest (k j : Nat) (s : State) :
    (outPeriod k j s).time = s.time ∧ (outPeriod k j s).cfg = s.cfg ∧ (outPeriod k j s).live = s.live ∧
    (outPeriod k j s).streams = s.streams ∧ (outPeriod k j s).boot = s.boot ∧ (outPeriod k j s).fe.rotation = s.fe.rotation := by
  unfold outPeriod
  extract_lets c d
  (repeat' split) <;> simp [askSpare]

/-- A rotation cycle that begins: the die's rotation stands at channel 0 at the next multiple of 64 s (R197). -/
theorem onRotationStart_begins {k : Nat} {s : State} (on : (tget spareSet0 s.live.spare k).rotation = true)
    (rests : (tget rotationRun0 s.fe.rotation k).running = false) (here : dieOut s k = false) (idle : (spareAt s k).phase = .idle) :
    let start := rotationCycle * ceilDiv s.time.half rotationCycle
    onRotationStart k s = outPeriod k 0
      (putRotation k { running := true, start := start, j := 0, replaceNext := none } (toInstant start s)) := by
  have due : ((tget spareSet0 s.live.spare k).rotation && !(tget rotationRun0 s.fe.rotation k).running && !dieOut s k &&
      decide ((spareAt s k).phase = .idle)) = true := by simp [on, rests, here, idle]
  exact if_pos due

/-- The run of a rotation at the end of an out-period: the next channel, or channel 0 of the next cycle (R197). -/
def nextOutPeriod (r : RotationRun) : RotationRun :=
  if r.j = 31 then { r with start := r.start + rotationCycle, j := 0 } else { r with j := r.j + 1 }

theorem nextOutPeriod_j (r : RotationRun) : (nextOutPeriod r).j = if r.j = 31 then 0 else r.j + 1 := by
  unfold nextOutPeriod
  split <;> rfl

/-- A spare that its out-period has not connected is withdrawn (R116). -/
def withdrawSpare (k : Nat) (s : State) : State :=
  if (spareAt s k).phase = .waiting ∧ (spareAt s k).use = .rotation then putSpare k spareRun0 s else s

@[simp] theorem withdrawSpare_rest (k : Nat) (s : State) :
    (withdrawSpare k s).time = s.time ∧ (withdrawSpare k s).cfg = s.cfg ∧ (withdrawSpare k s).live = s.live ∧
    (withdrawSpare k s).streams = s.streams ∧ (withdrawSpare k s).boot = s.boot := by
  unfold withdrawSpare
  split <;> simp

/-- An out-period ends while rotation goes on and no replacement waits: the next channel's out-period begins (R197). -/
theorem onOutPeriodEnd_goesOn {k : Nat} {s : State} (runs : (tget rotationRun0 s.fe.rotation k).running = true)
    (free : (tget rotationRun0 s.fe.rotation k).replaceNext = none) (on : (tget spareSet0 s.live.spare k).rotation = true) :
    let rot := tget rotationRun0 s.fe.rotation k
    let t := withdrawSpare k (toInstant (rot.start + outPeriodLen * (rot.j + 1)) s)
    onOutPeriodEnd k s = outPeriod k (nextOutPeriod rot).j (putRotation k (nextOutPeriod rot) t) := by
  have goesOn : ∀ h, (tget spareSet0 (withdrawSpare k (toInstant h s)).live.spare k).rotation = true := by simpa using on
  rw [onOutPeriodEnd, if_pos runs]
  split
  case h_1 c waits => simp [free] at waits
  case h_2 => exact if_pos (goesOn _)

/-! ### The statement -/

theorem exec_learningRunEnd (die : Nat) (s : State) : exec (.learningRunEnd die) s = .next (onLearningEnd die s) := rfl

theorem exec_sliceTestEnd (die : Nat) (m : CalReading) (s : State) : exec (.sliceTestEnd die m) s = .next (onSliceTestEnd die m s) := rfl

theorem exec_rotationCycleStart (die : Nat) (s : State) : exec (.rotationCycleStart die) s = .next (onRotationStart die s) := rfl

theorem exec_rotationOutPeriodEnd (die : Nat) (s : State) :
    exec (.rotationOutPeriodEnd die) s = .next (onOutPeriodEnd die s) := rfl

/-- Settles O21: each event of a spare is one of the operations above, and none touches settings, streams or the boot state. -/
theorem sparesLearnAndTest : Obligations.SparesLearnAndTest := by
  refine ⟨fun die s learning replace done => ?_, fun die m s testing back passed => ?_, fun die m s testing failed => ?_,
    fun die s on rests here idle => ?_, fun die s runs free on => ?_⟩
  · obtain ⟨r, run, due, chan, unmatched⟩ := onLearningEnd_replace learning replace done
    refine ⟨_, exec_learningRunEnd die s, ?_⟩
    rw [run]
    exact ⟨by simp [due], by simp [chan], by simpa using unmatched, by simp [putSpare, useFree]⟩
  · refine ⟨_, exec_sliceTestEnd die m s, ?_⟩
    rw [onSliceTestEnd_passed testing back passed]
    exact ⟨by simp, by simp, by simp [clearStuck_stuck], by simp⟩
  · obtain ⟨reply, run⟩ := onSliceTestEnd_failed testing failed
    obtain ⟨serving, use, stuck, alarm⟩ :=
      spareStays_declares die (spareAt s die).chan (finishSpare die reply (sliceTested die m s))
    refine ⟨_, exec_sliceTestEnd die m s, ?_⟩
    rw [run]
    split
    case isTrue rotation =>
      rw [spareAt_stopRotation, dynRun_stopRotation]
      exact ⟨serving, use, stuck, by simpa using alarm, fun _ => stopRotation_running die _, by simp⟩
    case isFalse other => exact ⟨serving, use, stuck, alarm, fun rotation => absurd rotation other, by simp⟩
  · refine ⟨_, exec_rotationCycleStart die s, ?_⟩
    rw [onRotationStart_begins on rests here idle]
    simp only [outPeriod_rest, putRotation_rest, rotation_putRotation, toInstant_rest, rotationCycle, and_self]
  · refine ⟨_, exec_rotationOutPeriodEnd die s, ?_⟩
    rw [onOutPeriodEnd_goesOn runs free on]
    simp only [outPeriod_rest, putRotation_rest, rotation_putRotation, withdrawSpare_rest, toInstant_rest, nextOutPeriod_j,
      outPeriodLen, and_self]

end Sys2Proof.Machine
end

section
/-! Slots of courses, open wires, temperature and the end of self-calibration. -/

namespace Sys2Proof.Machine

/-! ### Slots: what starting and ending one leaves unchanged -/

@[simp] theorem applyChan_rest (n : Nat) (s : State) :
    (applyChan n s).time = s.time ∧ (applyChan n s).cfg = s.cfg ∧ (applyChan n s).trig = s.trig ∧
    (applyChan n s).streams = s.streams ∧ (applyChan n s).boot = s.boot := by
  unfold applyChan
  split <;> simp

@[simp] theorem applySlot_rest (c : Nat) (s : State) :
    (applySlot c s).time = s.time ∧ (applySlot c s).cfg = s.cfg ∧ (applySlot c s).trig = s.trig ∧
    (applySlot c s).streams = s.streams ∧ (applySlot c s).boot = s.boot := by
  simp only [applySlot]
  split <;> simp

@[simp] theorem applyCourse_rest (c : Nat) (s : State) :
    (applyCourse c s).time = s.time ∧ (applyCourse c s).cfg = s.cfg ∧ (applyCourse c s).trig = s.trig ∧
    (applyCourse c s).streams = s.streams ∧ (applyCourse c s).boot = s.boot := by
  simp [applyCourse]

@[simp] theorem cycleEvent_rest (c b : Nat) (s : State) :
    (cycleEvent c b s).time = s.time ∧ (cycleEvent c b s).cfg = s.cfg ∧ (cycleEvent c b s).trig = s.trig ∧
    (cycleEvent c b s).streams = s.streams ∧ (cycleEvent c b s).boot = s.boot := by
  simp [cycleEvent]

@[simp] theorem startSlot_rest (c b pos : Nat) (urgent : Option CmdHdr) (redo : Bool) (s : State) :
    (startSlot c b pos urgent redo s).time = s.time ∧ (startSlot c b pos urgent redo s).cfg = s.cfg ∧
    (startSlot c b pos urgent redo s).trig = s.trig ∧ (startSlot c b pos urgent redo s).streams = s.streams ∧
    (startSlot c b pos urgent redo s).boot = s.boot := by
  simp [startSlot]

@[simp] theorem noteSlip_rest (c b : Nat) (s : State) :
    (noteSlip c b s).time = s.time ∧ (noteSlip c b s).cfg = s.cfg ∧ (noteSlip c b s).trig = s.trig ∧
    (noteSlip c b s).streams = s.streams ∧ (noteSlip c b s).boot = s.boot := by
  simp only [noteSlip]
  split <;> simp

@[simp] theorem startEntry_rest (c b : Nat) (s : State) :
    (startEntry c b s).time = s.time ∧ (startEntry c b s).cfg = s.cfg ∧ (startEntry c b s).trig = s.trig ∧
    (startEntry c b s).streams = s.streams ∧ (startEntry c b s).boot = s.boot := by
  simp [startEntry]

@[simp] theorem awaitCycle_rest (c b : Nat) (s : State) :
    (awaitCycle c b s).time = s.time ∧ (awaitCycle c b s).cfg = s.cfg ∧ (awaitCycle c b s).trig = s.trig ∧
    (awaitCycle c b s).streams = s.streams ∧ (awaitCycle c b s).boot = s.boot := by
  unfold awaitCycle
  extract_lets changed t l r
  (repeat' split) <;> simp [t]

@[simp] theorem runSequence_rest (c b : Nat) (s : State) :
    (runSequence c b s).time = s.time ∧ (runSequence c b s).cfg = s.cfg ∧ (runSequence c b s).trig = s.trig ∧
    (runSequence c b s).streams = s.streams ∧ (runSequence c b s).boot = s.boot := by
  unfold runSequence
  extract_lets r t
  (repeat' split) <;> simp [t]

@[simp] theorem nextSlot_rest (c b : Nat) (s : State) :
    (nextSlot c b s).time = s.time ∧ (nextSlot c b s).cfg = s.cfg ∧ (nextSlot c b s).trig = s.trig ∧
    (nextSlot c b s).streams = s.streams ∧ (nextSlot c b s).boot = s.boot := by
  unfold nextSlot
  extract_lets t r
  (repeat' split) <;> simp [t]

@[simp] theorem noteLimit_rest (c : Nat) (limited : Bool) (s : State) :
    (noteLimit c limited s).time = s.time ∧ (noteLimit c limited s).cfg = s.cfg ∧ (noteLimit c limited s).trig = s.trig ∧
    (noteLimit c limited s).streams = s.streams ∧ (noteLimit c limited s).boot = s.boot := by
  unfold noteLimit
  extract_lets r k
  split <;> simp

@[simp] theorem bufferEntry_rest (c : Nat) (e : ResultEntry) (s : State) :
    (bufferEntry c e s).time = s.time ∧ (bufferEntry c e s).cfg = s.cfg ∧ (bufferEntry c e s).trig = s.trig ∧
    (bufferEntry c e s).streams = s.streams ∧ (bufferEntry c e s).boot = s.boot := by
  unfold bufferEntry
  extract_lets r
  split <;> simp

@[simp] theorem noteScanWire_rest (o : ScanOut) (mon : Nat) (s : State) :
    (noteScanWire o mon s).time = s.time ∧ (noteScanWire o mon s).cfg = s.cfg ∧ (noteScanWire o mon s).trig = s.trig ∧
    (noteScanWire o mon s).streams = s.streams ∧ (noteScanWire o mon s).boot = s.boot := by
  simp only [noteScanWire]
  (repeat' split) <;> simp

@[simp] theorem noteVw_rest (o : ScanOut) (s : State) :
    (noteVw o s).time = s.time ∧ (noteVw o s).cfg = s.cfg ∧ (noteVw o s).trig = s.trig ∧ (noteVw o s).streams = s.streams ∧
    (noteVw o s).boot = s.boot := by
  unfold noteVw
  extract_lets n r fails fe t
  split <;> simp [t]

/-- The word that a slot's result sends to the trigger unit, 80 CCLK after the slot's end (R232). -/
def scanTrigWord (o : ScanOut) : TrigWord :=
  { src := ⟨.scanned, 8 * o.course + o.pos⟩, x := o.x, tags := o.tags, inst := o.stamp, arrive := o.slotEnd + 400 }

/-- A result that is delivered sends one word to the trigger unit, and leaves time, settings accepted, streams and the boot state. -/
theorem deliverScan_rest (o : ScanOut) (mon : Nat) (urgent : Option CmdHdr) (s : State) :
    (deliverScan o mon urgent s).time = s.time ∧ (deliverScan o mon urgent s).cfg = s.cfg ∧
    (deliverScan o mon urgent s).trig.flight = s.trig.flight ++ [scanTrigWord o] ∧
    (deliverScan o mon urgent s).streams = s.streams ∧ (deliverScan o mon urgent s).boot = s.boot := by
  unfold deliverScan
  extract_lets e fret t1 trig t2 t3
  have gathered : t1.time = s.time ∧ t1.cfg = s.cfg ∧ t1.trig = s.trig ∧ t1.streams = s.streams ∧ t1.boot = s.boot := by
    unfold t1
    split <;> simp
  split <;> simp [t3, t2, trig, gathered, scanTrigWord]

/-- A slot that no large step cuts ends with its result delivered. -/
theorem onSlotEnd_delivers {c : Nat} (m : SlotMeas) {sl : Slot} {s : State} (slot : (courseAt s c).slot = some sl)
    (whole : cutByStep sl s = false) :
    let s1 := toInstant (sl.start + sl.len) s
    ∃ limited r, onSlotEnd c m s = nextSlot c (sl.start + sl.len) (putCourse c r
      (deliverScan (slotResult s1 c sl m) (slotMonitorCode s1 c sl) sl.urgent (noteLimit c limited s1))) := by
  simp only [onSlotEnd, slot, whole, Bool.false_eq_true, if_false]
  exact ⟨_, _, rfl⟩

theorem onSlotEnd_cut {c : Nat} (m : SlotMeas) {sl : Slot} {s : State} (slot : (courseAt s c).slot = some sl)
    (cut : cutByStep sl s = true) : onSlotEnd c m s = toInstant (sl.start + sl.len) s := by
  simp [onSlotEnd, slot, cut]

/-- The result of a slot names its course and position, and the slot's end (R131, R155). -/
theorem slotResult_place (s : State) (c : Nat) (sl : Slot) (m : SlotMeas) :
    (slotResult s c sl m).course = c ∧ (slotResult s c sl m).pos = sl.pos ∧ (slotResult s c sl m).slotEnd = sl.start + sl.len :=
  ⟨rfl, rfl, rfl⟩

/-! ### Open wires -/

/-- The input monitor of a dynamic channel with detection on reports: the fault is noted, and no longer due to clear (R108, R111). -/
theorem dynWire_input {c : Nat} {s : State} (on : (dynLive s c).enable = true) (detects : (dynLive s c).openWire = true)
    (here : dieOut s (c / 32) = false) (settled : (spareAt s (c / 32)).phase ≠ .learning) :
    dynWire .input c s = putDyn c { dynRun s c with
      openMon := if (dynRun s c).openMon.contains .input then (dynRun s c).openMon else (dynRun s c).openMon ++ [.input]
      owClear := (dynRun s c).owClear.filter (fun k => decide (k ≠ .input)) } s := by
  have quiet : ∀ r, wireInLearning c (putDyn c r s) = putDyn c r s := fun r => by
    have same : spareAt (putDyn c r s) (c / 32) = spareAt s (c / 32) := spareAt_congr (by simp) _
    rw [wireInLearning, same]
    exact if_neg (fun h => settled h.1)
  simp [dynWire, on, detects, here, monitorWatches, quiet]

/-- What a course's running slot sees of a fault that begins: it, from its settle phase on (R143). -/
theorem seeBreaks_course (m : Monitor) {course : Nat} {sl : Slot} {s : State} (slot : (courseAt s course).slot = some sl) :
    seeBreaks s course [(m, none)] =
      if slotWatches s course sl ∧ m ∉ (courseAt s course).seen then (courseAt s course).seen ++ [m] else (courseAt s course).seen := by
  by_cases watches : slotWatches s course sl = true <;> by_cases new : m ∈ (courseAt s course).seen <;>
    simp [seeBreaks, slot, watches, new, breaksOf]

/-- A course whose slot has ended sees nothing of a fault that ends. -/
theorem slotClear_idle (m : Monitor) {course : Nat} {s : State} (idle : (courseAt s course).slot = none) :
    slotClear m course none s = putCourse course { courseAt s course with
      breaks := (courseAt s course).breaks.filter (fun e => decide (e ≠ (m, none))) } s := by
  simp only [slotClear, seeBreaks, idle]

theorem wireQuiet_notes {m : Monitor} {c : Nat} {s : State} (there : m ∈ (dynRun s c).openMon) (new : m ∉ (dynRun s c).owClear) :
    wireQuiet m c s = putDyn c { dynRun s c with owClear := (dynRun s c).owClear ++ [m] } s := by
  simp [wireQuiet, there, new]

/-! ### Temperature and self-calibration -/

theorem driftEvent_silent (k : Nat) (temp : Int) (s : State) : silent (driftEvent k temp s) = silent s := by
  unfold driftEvent
  split <;> simp

@[simp] theorem takeMeasured_rest (k i : Nat) (m : CalReading) (s : State) :
    (takeMeasured k i m s).time = s.time ∧ (takeMeasured k i m s).cfg = s.cfg ∧ (takeMeasured k i m s).live = s.live ∧
    (takeMeasured k i m s).streams = s.streams ∧ (takeMeasured k i m s).boot = s.boot := by
  unfold takeMeasured
  extract_lets n j t
  (repeat' split) <;> simp [t]

/-- The sets of a die judged, one after another. -/
def takeAllMeasured (k : Nat) (ms : List CalReading) (is : List Nat) (s : State) : State :=
  is.foldl (fun u i => takeMeasured k i ((ms[i]?).getD calReading0) u) s

@[simp] theorem takeAllMeasured_rest (k : Nat) (ms : List CalReading) (is : List Nat) (s : State) :
    (takeAllMeasured k ms is s).time = s.time ∧ (takeAllMeasured k ms is s).cfg = s.cfg ∧ (takeAllMeasured k ms is s).live = s.live ∧
    (takeAllMeasured k ms is s).streams = s.streams ∧ (takeAllMeasured k ms is s).boot = s.boot := by
  induction is generalizing s with
  | nil => simp [takeAllMeasured]
  | cons i is ih => simpa [takeAllMeasured] using ih (takeMeasured k i ((ms[i]?).getD calReading0) s)

@[simp] theorem calResult_rest (k : Nat) (s : State) :
    (calResult k s).time = s.time ∧ (calResult k s).cfg = s.cfg ∧ (calResult k s).live = s.live ∧
    (calResult k s).streams = s.streams ∧ (calResult k s).boot = s.boot := by
  simp [calResult]

theorem dieAt_calResult (k i : Nat) (s : State) : dieAt (calResult k s) i = dieAt s i := dieAt_congr (by simp [calResult]) i

@[simp] theorem jobDieDone_rest (k : Nat) (s : State) :
    (jobDieDone k s).time = s.time ∧ (jobDieDone k s).cfg = s.cfg ∧ (jobDieDone k s).live = s.live ∧
    (jobDieDone k s).streams = s.streams ∧ (jobDieDone k s).boot = s.boot := by
  simp only [jobDieDone]
  (repeat' split) <;> simp

/-- A die of a CAL_SELF that ends may start another's, which changes no die's end or return. -/
theorem jobDieDone_die (k i : Nat) (s : State) :
    (dieAt (jobDieDone k s) i).calEnd = (dieAt s i).calEnd ∧ (dieAt (jobDieDone k s) i).returnWait = (dieAt s i).returnWait := by
  simp only [jobDieDone]
  split
  case h_1 => exact ⟨rfl, rfl⟩
  case h_2 j _ =>
    split
    case h_1 => simp [dieAt]
    case h_2 d _ _ =>
      split
      case isFalse => simp [dieAt]
      case isTrue =>
        by_cases h : i = d <;> simp [dieAt, putDie, h]

/-- The end of a self-calibration: the sets are judged at its instant, and the die waits to return (R188). -/
theorem onCalEnd_of_calEnd {k t0 : Nat} (ms : List CalReading) {s : State} (runs : (dieAt s k).calEnd = some t0) :
    ∃ d : DieRun, d.calEnd = none ∧ d.returnWait = true ∧ onCalEnd k ms s =
      jobDieDone k (calResult k (putDie k d (takeAllMeasured k ms (List.range 41) (toInstant t0 s)))) := by
  simp only [onCalEnd, runs]
  exact ⟨_, rfl, rfl, rfl⟩

/-! ### The statement -/

theorem exec_slotEnd (course : Nat) (m : SlotMeas) (s : State) : exec (.slotEnd course m) s = .next (onSlotEnd course m s) := rfl

theorem exec_openWireDetect (m : Monitor) (site : WireSite) (s : State) : exec (.openWireDetect m site) s = .next (onWire m site s) := rfl

theorem exec_openWireClearTimeout (m : Monitor) (site : WireSite) (s : State) :
    exec (.openWireClearTimeout m site) s = .next (onWireQuiet m site s) := rfl

theorem exec_tempDrift (die : Nat) (temp : Int) (s : State) :
    exec (.tempDrift die temp) s = .next (let t := putDie die { dieAt s die with temp := temp } s; driftEvent die (setsTemp t die) t) := rfl

theorem exec_calSelfEnd (die : Nat) (ms : List CalReading) (s : State) : exec (.calSelfEnd die ms) s = .next (onCalEnd die ms s) := rfl

/-- Settles O22: a slot's end delivers one result and starts the next slot, a monitor's report writes its channel or course, and the
end of a self-calibration writes its die before the command goes on. -/
theorem coursesDiesAndWires : Obligations.CoursesDiesAndWires := by
  refine ⟨fun course m sl s slot whole => ?_, fun course m sl s slot cut => ?_, fun c s on detects here settled => ?_,
    fun m course sl s slot => ?_, fun m course s idle => ?_, fun m c s there new => ?_, fun die temp s => ?_,
    fun die t0 ms s runs => ?_⟩
  · obtain ⟨limited, r, delivers⟩ := onSlotEnd_delivers m slot whole
    refine ⟨_, exec_slotEnd course m s, ?_⟩
    rw [delivers]
    simp [deliverScan_rest, scanTrigWord, slotResult_place]
  · rw [exec_slotEnd, onSlotEnd_cut m slot cut]
  · rw [exec_openWireDetect]
    exact congrArg _ (dynWire_input on detects here settled)
  · rw [exec_openWireDetect, ← seeBreaks_course m slot]
    rfl
  · rw [exec_openWireClearTimeout]
    exact congrArg _ (slotClear_idle m idle)
  · rw [exec_openWireClearTimeout]
    exact congrArg _ (wireQuiet_notes there new)
  · exact does_of (exec_tempDrift die temp s) (driftEvent_silent _ _ _)
  · obtain ⟨d, ended, waits, ends⟩ := onCalEnd_of_calEnd ms runs
    refine ⟨_, exec_calSelfEnd die ms s, ?_⟩
    rw [ends]
    simp [jobDieDone_die, dieAt_calResult, ended, waits]

end Sys2Proof.Machine
end

section
/-! Scanned courses and banks as their commands set them; before them, a table after a write of several entries. -/

namespace Sys2Proof.Machine

/-! ### Settings of a command that names several entries -/

/-- Every entry after a write of several: the named ones hold their value, the others stand. -/
theorem tget_tputAll {α : Type} [DecidableEq α] (d : α) (ks : List Nat) (f : Nat → α) (k : Nat) (t : Table α) :
    tget d (tputAll d t ks f) k = if k ∈ ks then f k else tget d t k := by
  induction ks generalizing t with
  | nil => rfl
  | cons j ks ih =>
    have tail : tputAll d t (j :: ks) f = tputAll d (tput d t j (f j)) ks f := rfl
    rw [tail, ih]
    by_cases later : k ∈ ks
    · simp [later]
    · by_cases same : k = j <;> simp [later, same]

/-! ### Courses and scanned positions -/

theorem courseOf_courseConfig_same (p : CourseP) (g : Settings) : courseOf (courseConfig p g) p.course = courseNew p :=
  tget_tput_same ..

theorem courseOf_courseConfig_other {p : CourseP} {c : Nat} (g : Settings) (other : c ≠ p.course) :
    courseOf (courseConfig p g) c = courseOf g c :=
  tget_tput_other _ _ _ _ _ other

theorem scanOf_scanConfig (p : ScanChanP) (g : Settings) (n : Nat) :
    scanOf (scanConfig p g) n = if n ∈ scanChans p then scanNew p else scanOf g n :=
  tget_tputAll ..

/-- What a course command leaves while acquisition is stopped: its settings accepted, its note for the course, and its completion
due at the boundary (R136, R392). -/
def courseAccepted (h : CmdHdr) (op c : Nat) (on : Bool) (what : List (Option Nat)) (f : Settings → Settings) (s : State) : State :=
  dueAtBoundary h op (noteExc c h.force on what (accept f s))

theorem courseAccepted_cfg (h : CmdHdr) (op c : Nat) (on : Bool) (what : List (Option Nat)) (f : Settings → Settings) (s : State) :
    (courseAccepted h op c on what f s).cfg = f s.cfg := rfl

/-- Beside the settings and the note for the course, only the completion due is new. -/
theorem courseAccepted_rest (h : CmdHdr) (op c : Nat) (on : Bool) (what : List (Option Nat)) (f : Settings → Settings) (s : State) :
    { courseAccepted h op c on what f s with cfg := s.cfg, fe.courses := s.fe.courses } = dueAtBoundary h op s := rfl

theorem courseDone_stopped (h : CmdHdr) (op c : Nat) {s : State} (stopped : s.fret.acquiring = false) :
    courseDone h op c s = dueAtBoundary h op s :=
  if_pos (by simp [stopped])

theorem exec_courseSet_stopped {h : CmdHdr} {p : CourseP} {s : State} (takes : Accepts h 0x0206 s) (good : courseCheck p s = none)
    (stopped : s.fret.acquiring = false) : exec (.courseSet h p) s =
      .next (courseAccepted h 0x0206 p.course (decide (p.driver = 1)) [none] (courseConfig p) s) := by
  refine congrArg Host.Outcome.next ((runCommand_eff takes good).trans ?_)
  exact courseDone_stopped h 0x0206 p.course stopped

theorem exec_scanChanSet_stopped {h : CmdHdr} {p : ScanChanP} {s : State} (takes : Accepts h 0x0207 s) (good : scanCheck p s = none)
    (stopped : s.fret.acquiring = false) : exec (.scanChanSet h p) s =
      .next (courseAccepted h 0x0207 p.course (decide (0 < p.exc)) (p.positions.map some) (scanConfig p) s) := by
  refine congrArg Host.Outcome.next ((runCommand_eff takes good).trans ?_)
  exact courseDone_stopped h 0x0207 p.course stopped

/-- A course of the hub is realigned alone; only 0xFF names all of them (R135). -/
theorem exec_courseRealign_one {h : CmdHdr} {course : Nat} {s : State} (takes : Accepts h 0x0208 s) (there : course < 32) :
    exec (.courseRealign h course) s =
      .next (finish h 0x0208 okReply (putCourse course { courseAt s course with realignOnce := true } s)) := by
  have low : ¬ 31 < course := by omega
  have one : ¬ course = 0xFF := by omega
  refine congrArg Host.Outcome.next ((runCommand_eff takes (by simp [low])).trans ?_)
  rw [if_neg one]
  rfl

theorem exec_urgentRead_scanned {h : CmdHdr} {n : Nat} {s : State} (takes : Accepts h 0x0209 s)
    (good : urgentCheck h ⟨.scanned, n⟩ s = none) : exec (.urgentRead h ⟨.scanned, n⟩) s =
      .next (putCourse (n / 8) { courseAt s (n / 8) with
        urgents := (courseAt s (n / 8)).urgents ++ [{ pos := n % 8, due := boundaryAfter 1 s, redo := false, hdr := h }] } s) :=
  congrArg Host.Outcome.next (runCommand_eff takes good)

/-! ### Banks -/

/-- The settings with bank B of channel `n` written. -/
def bankBConfig (n : Nat) (b : Bank) (g : Settings) : Settings :=
  { g with banks := tput bankPair0 g.banks n { banksAt g n with b := b } }

theorem banksAt_bankBConfig (n : Nat) (b : Bank) (g : Settings) : banksAt (bankBConfig n b g) n = { banksAt g n with b := b } :=
  tget_tput_same ..

/-- Bank B is written while bank A is active and no swap runs (R175). -/
theorem exec_bankWrite_inactive {h : CmdHdr} {c : Chan} {s : State} (gain offset : Int) (label : Nat) (takes : Accepts h 0x0210 s)
    (fitted : bankChanOk c = true) (settled : swapRuns s (bankNo c) = false) (onA : (bankRunAt s (bankNo c)).activeB = false) :
    exec (.bankWrite h c 1 gain offset label) s =
      .next (dueAtBoundary h 0x0210 (accept (bankBConfig (bankNo c) { gain := gain, offset := offset, label := label }) s)) :=
  congrArg Host.Outcome.next (runCommand_eff takes (by simp [fitted, settled, onA]))

/-- A swap to the other bank is noted while none is under way (R175, R177). -/
theorem takeSwap_noted (h : CmdHdr) {n : Nat} {toB : Bool} (fade : Nat) {s : State} (settled : swapRuns s n = false)
    (other : (bankRunAt s n).activeB ≠ toB) : takeSwap h n toB fade s =
      dueAtBoundary h 0x0211 (putBankRun n { bankRunAt s n with swap := some { toB := toB, fade := fade, done := 0, started := false } } s) := by
  simp only [takeSwap, settled, other, Bool.false_eq_true, if_false]
  rfl

theorem exec_bankSwap_good {h : CmdHdr} {c : Chan} {fade : Nat} {s : State} (takes : Accepts h 0x0211 s) (fitted : bankChanOk c = true)
    (short : fade ≤ 10000) : exec (.bankSwap h c 1 fade) s = .next (takeSwap h (bankNo c) true fade s) :=
  congrArg Host.Outcome.next (runCommand_eff takes (by simp [fitted, short]))

/-! ### The statement -/

/-- Settles O24: each command that Clesin accepts, and whose own check passes, writes the entries it names and leaves its
completion to the boundary; COURSE_REALIGN alone is answered at once. -/
theorem courseSettings : Obligations.CourseSettings := by
  refine ⟨fun h p s takes good stopped => ?_, fun h p s takes good stopped => ?_, fun h course s takes there => ?_,
    fun h n s takes good => ?_, fun h c gain offset label s takes fitted settled onA => ?_,
    fun h c fade s takes fitted short settled onA => ?_⟩
  · refine ⟨_, exec_courseSet_stopped takes good stopped, ?_, ?_, ?_, courseAccepted_rest ..⟩
    · rw [courseAccepted_cfg, courseOf_courseConfig_same]
    · intro c _ other
      rw [courseAccepted_cfg, courseOf_courseConfig_other s.cfg other]
    · rfl
  · refine ⟨_, exec_scanChanSet_stopped takes good stopped, ?_, ?_, ?_, courseAccepted_rest ..⟩
    · intro n named
      rw [courseAccepted_cfg, scanOf_scanConfig, if_pos named]
    · intro n _ other
      rw [courseAccepted_cfg, scanOf_scanConfig, if_neg other]
    · rfl
  · exact does_of (exec_courseRealign_one takes there) (finish_silent ..)
  · exact exec_urgentRead_scanned takes good
  · exact ⟨_, exec_bankWrite_inactive gain offset label takes fitted settled onA, banksAt_bankBConfig .., rfl, rfl⟩
  · rw [exec_bankSwap_good takes fitted short, takeSwap_noted h fade settled (by simp [onA])]

end Sys2Proof.Machine
end

section
/-! Commands that only read. -/

namespace Sys2Proof.Machine

/-- A command that only reads, accepted and with room for its answer, is answered with what it reads (R388, R392). -/
theorem does_of_readCommand {i : Instr} {h : CmdHdr} {op need : Nat} {chk : State → Option Reply} {data : State → List Byte}
    {bytes : List Byte} {s : State} (run : exec i s = .next (readCommand h op need chk data s)) (takes : Accepts h op s)
    (room : need ≤ h.dataLen) (good : chk s = none) (reads : data s = bytes) : Does i s (answered h op (okData bytes) s) := by
  rw [← reads]
  exact does_of run (readCommand_silent takes room good)

theorem does_nop {h : CmdHdr} {s : State} (takes : Accepts h 0x0001 s) : Does (.nop h) s (answered h 0x0001 okReply s) := by
  have run : exec (.nop h) s = .next (finish h 0x0001 okReply s) := congrArg Host.Outcome.next (runCommand_eff takes rfl)
  exact does_of run (finish_silent ..)

/-! ### What each command reads, and the room it needs -/

theorem exec_hubInfo (h : CmdHdr) (s : State) :
    exec (.hubInfo h) s = .next (readCommand h 0x0002 64 (fun _ => none) hubInfoBytes s) := rfl

theorem exec_counterRead (h : CmdHdr) (group : Nat) (s : State) :
    exec (.counterRead h group) s = .next (readCommand h 0x0006 (if group = 0 then 32 else 64)
      (fun _ => firstBad [(28, decide (2 < group))]) (fun t => ((counterGroup group t).map (leBytes 4)).flatten) s) := rfl

theorem exec_memStatus (h : CmdHdr) (s : State) :
    exec (.memStatus h) s = .next (readCommand h 0x0702 32 (fun _ => none) memStatusBytes s) := rfl

/-- A factor set as its block (R191). -/
def setBlockAt (s : State) (die i : Nat) : List Byte :=
  setBlock (setKind (dieSet die i)) die (setIndex (dieSet die i)) (factorsAt s (dieSet die i)).set

theorem exec_calRead (h : CmdHdr) (die : Nat) (sets : List Nat) (s : State) :
    exec (.calRead h die sets) s = .next (readCommand h 0x0302 (132 * sets.length)
      (fun _ => firstBad [(28, decide (3 < die)), (29, sets.any (fun i => decide (40 < i)))])
      (fun t => ((sortNats sets).map (setBlockAt t die)).flatten) s) := rfl

/-- The results that a course holds: overwrites, count, entries (R154). -/
def courseResultBytes (course : Nat) (s : State) : List Byte :=
  leBytes 4 (courseAt s course).overwrites ++ leBytes 4 (courseAt s course).buffer.length ++
    ((courseAt s course).buffer.map entryBytes).flatten

theorem exec_courseResultRead (h : CmdHdr) (course : Nat) (s : State) :
    exec (.courseResultRead h course) s = .next (readCommand h 0x020A 8 (fun _ => firstBad [(28, decide (31 < course))])
      (courseResultBytes course) s) := rfl

/-- The coder state of the first record held from `seq` on; none held, no bytes (R286). -/
def stateBytes (stream seq : Nat) (s : State) : List Byte :=
  match heldFrom (streamAt s stream) seq with
  | [] => []
  | x :: _ => coderBytes (x.coder.getD coder0)

theorem exec_streamStateRead (h : CmdHdr) (stream seq : Nat) (s : State) :
    exec (.streamStateRead h stream seq) s =
      .next (readCommand h 0x0405 32 (stateCheck stream seq) (stateBytes stream seq) s) := rfl

theorem stateBytes_of_held {stream seq : Nat} {x : Stored} {rest : List Stored} {k : Coder} {s : State}
    (held : heldFrom (streamAt s stream) seq = x :: rest) (coder : x.coder = some k) : stateBytes stream seq s = coderBytes k := by
  simp [stateBytes, held, coder]

/-- A record held with a coder state that can be read is not refused (R287). -/
theorem stateCheck_of_held {stream seq : Nat} {x : Stored} {rest : List Stored} {k : Coder} {s : State} (there : stream ≤ 127)
    (held : heldFrom (streamAt s stream) seq = x :: rest) (coder : x.coder = some k) (sound : storedBad s x = false) :
    stateCheck stream seq s = none := by
  simp [stateCheck, there, held, coder, sound]

theorem exec_topologyRead (h : CmdHdr) (s : State) :
    exec (.topologyRead h) s = .next (readCommand h 0x0806 512 (fun _ => none)
      (fun t => ((List.range 64).map (topoBytes t)).flatten) s) := rfl

/-! ### The statement -/

/-- Settles O28: NOP has no check and no effect but its answer, and each of the others is a command that only reads. -/
theorem readsAnswer : Obligations.ReadsAnswer := by
  refine ⟨fun h s takes => does_nop takes, fun h s takes room => ?_, fun h s takes room => ?_, fun h s takes room => ?_,
    fun h s takes room => ?_, fun h s takes room => ?_, fun h die i s takes there set room => ?_, fun h c s takes there room => ?_,
    fun h n seq x rest k s takes there held coder sound room => ?_, fun h s takes room => ?_⟩
  · exact does_of_readCommand (exec_hubInfo h s) takes room rfl rfl
  · exact does_of_readCommand (exec_counterRead h 0 s) takes room rfl rfl
  · exact does_of_readCommand (exec_counterRead h 1 s) takes room rfl rfl
  · exact does_of_readCommand (exec_counterRead h 2 s) takes room rfl rfl
  · exact does_of_readCommand (exec_memStatus h s) takes room rfl rfl
  · exact does_of_readCommand (exec_calRead h die [i] s) takes room (by simp [there, set]) (by simp [sortNats, insertNat, setBlockAt])
  · exact does_of_readCommand (exec_courseResultRead h c s) takes room (by simp [there]) rfl
  · exact does_of_readCommand (exec_streamStateRead h n seq s) takes room (stateCheck_of_held there held coder sound)
      (stateBytes_of_held held coder)
  · exact does_of_readCommand (exec_topologyRead h s) takes room rfl rfl

end Sys2Proof.Machine
end

section
/-! The register path of an update: what a write of UPD_CMD runs, what it changes of its requester, and how its operation ends
(R489, R497). Before them, what the shared operations of boot and update leave as it is. -/

namespace Sys2Proof.Machine

/-! ### A requester's registers -/

@[simp] theorem reqOf_putReq (r : Requester) (x : ReqState) (s : State) : reqOf (putReq r x s) r = x := by
  cases r <;> rfl

@[simp] theorem putReq_putReq (r : Requester) (x y : ReqState) (s : State) : putReq r y (putReq r x s) = putReq r y s := by
  cases r <;> rfl

@[simp] theorem putReq_rest (r : Requester) (x : ReqState) (s : State) :
    (putReq r x s).time = s.time ∧ (putReq r x s).cfg = s.cfg ∧ (putReq r x s).live = s.live ∧ (putReq r x s).fret = s.fret ∧
    (putReq r x s).fe = s.fe ∧ (putReq r x s).streams = s.streams ∧ (putReq r x s).trig = s.trig ∧
    (putReq r x s).safety = s.safety ∧ (putReq r x s).boot = s.boot := by
  cases r <;> exact ⟨rfl, rfl, rfl, rfl, rfl, rfl, rfl, rfl, rfl⟩

/-- A requester's registers read the same in states that hold the same of all three. -/
theorem reqOf_congr {s t : State} (pcie : t.host.reqPcie = s.host.reqPcie) (service : t.host.reqSvc = s.host.reqSvc)
    (controller : t.host.reqCtl = s.host.reqCtl) (r : Requester) : reqOf t r = reqOf s r := by
  cases r <;> assumption

/-! ### Events of Clesin -/

/-- An event that Clesin raises waits to be posted: the fret machine does not see it (R218, R421). -/
theorem event_fret {code : Nat} (clesin : hardwareCode code = false) (source : Nat) (args : List Byte) (s : State) :
    (event code source args s).fret = s.fret := by
  simp [event, eventAt, fileEvent, clesin]

@[simp] theorem reqOf_event (code source : Nat) (args : List Byte) (s : State) (r : Requester) :
    reqOf (event code source args s) r = reqOf s r := reqOf_congr (by simp) (by simp) (by simp) r

/-! ### The boot control block, the session, and the end of an operation -/

@[simp] theorem putBcb_rest (f : BootBlock → BootBlock) (s : State) :
    (putBcb f s).time = s.time ∧ (putBcb f s).cfg = s.cfg ∧ (putBcb f s).live = s.live ∧ (putBcb f s).fret = s.fret ∧
    (putBcb f s).fe = s.fe ∧ (putBcb f s).streams = s.streams ∧ (putBcb f s).trig = s.trig ∧ (putBcb f s).host = s.host ∧
    (putBcb f s).boot.flash = s.boot.flash ∧ (putBcb f s).boot.running = s.boot.running ∧
    (putBcb f s).boot.session = s.boot.session ∧ (putBcb f s).boot.ops = s.boot.ops ∧ (putBcb f s).boot.commit = s.boot.commit := by
  simp [putBcb]

@[simp] theorem putSlot_rest (n st : Nat) (s : State) :
    (putSlot n st s).time = s.time ∧ (putSlot n st s).cfg = s.cfg ∧ (putSlot n st s).live = s.live ∧ (putSlot n st s).fret = s.fret ∧
    (putSlot n st s).fe = s.fe ∧ (putSlot n st s).streams = s.streams ∧ (putSlot n st s).trig = s.trig ∧
    (putSlot n st s).host = s.host ∧ (putSlot n st s).boot.flash = s.boot.flash ∧ (putSlot n st s).boot.running = s.boot.running ∧
    (putSlot n st s).boot.session = s.boot.session ∧ (putSlot n st s).boot.ops = s.boot.ops ∧
    (putSlot n st s).boot.commit = s.boot.commit := by
  simp [putSlot]

@[simp] theorem reqOf_putSlot (n st : Nat) (s : State) (r : Requester) : reqOf (putSlot n st s) r = reqOf s r := by
  cases r <;> rfl

@[simp] theorem reqOf_putBcb (f : BootBlock → BootBlock) (s : State) (r : Requester) : reqOf (putBcb f s) r = reqOf s r := by
  cases r <;> rfl

theorem putBcb_bcb (f : BootBlock → BootBlock) (s : State) :
    (putBcb f s).boot.bcb = { f s.boot.bcb with writes := (s.boot.bcb.writes + 1) % 4294967296 } := rfl

theorem slotState_congr {s t : State} (h : t.boot.bcb = s.boot.bcb) (n : Nat) : slotState t n = slotState s n := by
  rw [slotState, slotState, h]

@[simp] theorem slotState_putSlot (n st : Nat) (s : State) : slotState (putSlot n st s) n = st := by
  by_cases h : n = 0 <;> simp [slotState, putSlot, putBcb, h]

@[simp] theorem sessionEvent_rest (what : Nat) (s : State) :
    (sessionEvent what s).time = s.time ∧ (sessionEvent what s).cfg = s.cfg ∧ (sessionEvent what s).live = s.live ∧
    (sessionEvent what s).fret = s.fret ∧ (sessionEvent what s).trig = s.trig := by
  unfold sessionEvent
  split
  · simp
  · simp [event_fret (code := 0x0B10) (by decide)]

@[simp] theorem sessionEvent_boot (what : Nat) (s : State) : (sessionEvent what s).boot = s.boot := kept_boot (sessionEvent_kept what s)

@[simp] theorem reqOf_sessionEvent (what : Nat) (s : State) (r : Requester) : reqOf (sessionEvent what s) r = reqOf s r := by
  unfold sessionEvent
  split <;> simp

theorem sessionEvent_silent (what : Nat) (s : State) : silent (sessionEvent what s) = silent s := by
  unfold sessionEvent
  split <;> simp

@[simp] theorem endSession_rest (what : Nat) (s : State) :
    (endSession what s).time = s.time ∧ (endSession what s).cfg = s.cfg ∧ (endSession what s).live = s.live ∧
    (endSession what s).fret = s.fret ∧ (endSession what s).trig = s.trig ∧
    (endSession what s).boot = { s.boot with session := none } := by
  simp [endSession]

@[simp] theorem reqOf_endSession (what : Nat) (s : State) (r : Requester) : reqOf (endSession what s) r = reqOf s r :=
  (reqOf_congr rfl rfl rfl r).trans (reqOf_sessionEvent what s r)

@[simp] theorem slotState_endSession (what : Nat) (s : State) (n : Nat) : slotState (endSession what s) n = slotState s n :=
  slotState_congr (by simp) n

theorem endSession_silent (what : Nat) (s : State) : silent (endSession what s) = silent { s with boot.session := none } :=
  congrArg (fun t : State => { t with boot.session := none }) (sessionEvent_silent what s)

@[simp] theorem opEnds_rest (hdr : Option CmdHdr) (req : Option Requester) (op : Nat) (r : Reply) (s : State) :
    (opEnds hdr req op r s).time = s.time ∧ (opEnds hdr req op r s).cfg = s.cfg ∧ (opEnds hdr req op r s).live = s.live ∧
    (opEnds hdr req op r s).fret = s.fret ∧ (opEnds hdr req op r s).fe = s.fe ∧ (opEnds hdr req op r s).streams = s.streams ∧
    (opEnds hdr req op r s).trig = s.trig ∧ (opEnds hdr req op r s).boot = s.boot := by
  cases hdr <;> cases req <;> simp [opEnds]

@[simp] theorem slotState_opEnds (hdr : Option CmdHdr) (req : Option Requester) (op : Nat) (r : Reply) (s : State) (n : Nat) :
    slotState (opEnds hdr req op r s) n = slotState s n := slotState_congr (by simp) n

/-- An operation of a requester ends with its status waiting to be set (R497). -/
@[simp] theorem reqOf_opEnds (req : Requester) (op : Nat) (r : Reply) (s : State) :
    reqOf (opEnds none (some req) op r s) req = { reqOf s req with updResult := some r.status } := reqOf_putReq ..

/-! ### A write of UPD_CMD -/

/-- The requester's write of UPD_CMD is an operation: it has the register, Clesin or the recovery image runs, and no operation of
its own does (R489, R497). -/
structure UpdCmdRuns (req : Requester) (s : State) : Prop where
  own : req ≠ .controller
  up : clesinUp s = true ∨ s.boot.recovery = true
  idle : (reqOf s req).updBusy = false

/-- BUSY of UPD_STATUS is set, and no status waits. -/
def updStarted (req : Requester) (s : State) : State := putReq req { reqOf s req with updBusy := true, updResult := none } s

@[simp] theorem updStarted_rest (req : Requester) (s : State) :
    (updStarted req s).time = s.time ∧ (updStarted req s).cfg = s.cfg ∧ (updStarted req s).live = s.live ∧
    (updStarted req s).fret = s.fret ∧ (updStarted req s).trig = s.trig := by
  simp [updStarted]

@[simp] theorem updStarted_boot (req : Requester) (s : State) : (updStarted req s).boot = s.boot := kept_boot (putReq_kept ..)

@[simp] theorem reqOf_updStarted (req : Requester) (s : State) :
    reqOf (updStarted req s) req = { reqOf s req with updBusy := true, updResult := none } := reqOf_putReq ..

/-- A write is discarded while an operation of its requester runs (R497). -/
theorem updCmd_of_busy {req : Requester} {op : Nat} {chk : State → Option Reply} {eff : State → State} {s : State}
    (busy : (reqOf s req).updBusy = true) : updCmd req op chk eff s = s := by
  simp [updCmd, busy]

theorem UpdCmdRuns.not_discarded {req : Requester} {s : State} (runs : UpdCmdRuns req s) :
    ((reqOf s req).updBusy || decide (req = .controller) || !(clesinUp s || s.boot.recovery)) = false := by
  obtain ⟨own, up, idle⟩ := runs
  rcases up with up | up <;> simp [own, up, idle]

/-- An operation whose own check passes has its effect, with BUSY set. -/
theorem updCmd_of_runs {req : Requester} {op : Nat} {chk : State → Option Reply} {eff : State → State} {s : State}
    (runs : UpdCmdRuns req s) (safe : s.safety.safe = false) (good : chk (updStarted req s) = none) :
    updCmd req op chk eff s = eff (updStarted req s) := by
  rw [updStarted] at good ⊢
  simp only [updCmd, runs.not_discarded]
  simp [safe, orElseReply, good]

/-- In the safe state the operation is refused before its own check (R470). -/
theorem updCmd_of_safe {req : Requester} {op : Nat} {chk : State → Option Reply} {eff : State → State} {s : State}
    (runs : UpdCmdRuns req s) (safe : s.safety.safe = true) :
    updCmd req op chk eff s = putReq req { reqOf s req with updBusy := true, updResult := some stRefused } s := by
  simp only [updCmd, runs.not_discarded]
  simp [safe, orElseReply, opEnds, refusedState]

/-- The six values of UPD_CMD are run through the same checks. -/
theorem exec_updCmd {i : Instr} {req : Requester} {f : ImageFacts} {words : Nat} (s : State)
    (value : i ∈ [Instr.updCmdOpen req, .updCmdWrite req words, .updCmdCommit req f, .updCmdAbort req, .updCmdHealthConfirm req,
      .updCmdUnlock req]) : ∃ op chk eff, exec i s = .next (updCmd req op chk eff s) := by
  simp only [List.mem_cons, List.not_mem_nil, or_false] at value
  rcases value with rfl | rfl | rfl | rfl | rfl | rfl <;> exact ⟨_, _, _, rfl⟩

theorem exec_updCmdDone {req : Requester} {st : Nat} {s : State} (busy : (reqOf s req).updBusy = true)
    (ended : (reqOf s req).updResult = some st) : exec (.updCmdDone req) s =
      .next (putReq req { reqOf s req with updStatus := st, updBusy := false, updResult := none } s) := by
  simp only [exec, execUpdCmdDone, busy, ended]

/-! ### The checks of an operation read nothing of a requester -/

theorem openCheck_updStarted (req : Requester) (w : Nat × Nat) (n : Nat) (s : State) :
    openCheck w n (updStarted req s) = openCheck w n s := by
  cases req <;> rfl

theorem commitCheck_updStarted (req : Requester) (w : Nat × Nat) (activate : Nat) (f : ImageFacts) (s : State) :
    commitCheck w activate f (updStarted req s) = commitCheck w activate f s := by
  cases req <;> rfl

theorem abortCheck_updStarted (req : Requester) (w : Nat × Nat) (s : State) : abortCheck w (updStarted req s) = abortCheck w s := by
  cases req <;> rfl

theorem confirmCheck_updStarted (req : Requester) (s : State) : confirmCheck (updStarted req s) = confirmCheck s := by
  cases req <;> rfl

theorem holds_updStarted (req : Requester) (w : Nat × Nat) (s : State) : holds w (updStarted req s) = holds w s := by
  cases req <;> rfl

theorem otherSlot_updStarted (req : Requester) (s : State) : otherSlot (updStarted req s) = otherSlot s := by
  cases req <;> rfl

end Sys2Proof.Machine
end

section
/-! Update sessions, writes, reloads, commits and trials: what each does to the state (R188, R490 to R497). -/

namespace Sys2Proof.Machine

/-! ### Sessions -/

theorem dropSession_of_session {x : Session} (what : Nat) {s : State} (opened : s.boot.session = some x) :
    dropSession what s = endSession what (putSlot (otherSlot s) slEmpty s) := by
  simp [dropSession, opened]

/-- A session with no commit expires 60 s after its last open or write (R491). -/
theorem onSessionExpiry_of_session {x : Session} {s : State} (opened : s.boot.session = some x) (free : s.boot.commit = none) :
    onSessionExpiry s = endSession 2 (putSlot (otherSlot s) slEmpty (toCclk (x.renewed + 24000000000) s)) := by
  have later : (toCclk (x.renewed + 24000000000) s).boot.session = some x := by simp [opened]
  have slot : otherSlot (toCclk (x.renewed + 24000000000) s) = otherSlot s := by simp [otherSlot]
  simp [onSessionExpiry, opened, free, dropSession_of_session 2 later, slot]

theorem onSessionExpiry_otherwise {s : State} (keeps : s.boot.session = none ∨ s.boot.commit.isSome = true) :
    onSessionExpiry s = s := by
  rcases keeps with closed | commits
  · simp [onSessionExpiry, closed]
  · cases opened : s.boot.session <;> simp [onSessionExpiry, opened, commits]

@[simp] theorem openSession_rest (w : Nat × Nat) (n : Nat) (s : State) :
    (openSession w n s).time = s.time ∧ (openSession w n s).cfg = s.cfg ∧ (openSession w n s).live = s.live ∧
    (openSession w n s).fret = s.fret ∧ (openSession w n s).trig = s.trig ∧ (openSession w n s).boot.flash = s.boot.flash := by
  simp [openSession]

@[simp] theorem reqOf_openSession (w : Nat × Nat) (n : Nat) (s : State) (r : Requester) :
    reqOf (openSession w n s) r = reqOf s r := by
  rw [openSession, reqOf_sessionEvent, reqOf_putSlot]
  exact reqOf_congr rfl rfl rfl r

theorem openSession_session (w : Nat × Nat) (n : Nat) (s : State) : (openSession w n s).boot.session =
    some { holder := w.1, hub := w.2, length := n, written := 0, renewed := s.time.cclk } := by
  simp [openSession]

theorem openSession_slot (w : Nat × Nat) (n : Nat) (s : State) : slotState (openSession w n s) (otherSlot s) = slWriting := by
  rw [openSession, slotState_congr (congrArg Boot.bcb (sessionEvent_boot ..))]
  exact slotState_putSlot ..

/-- The PCIe host and the service port hold a session of this hub (R491). -/
theorem holderOf_hub (req : Requester) : (holderOf none (some req)).2 = 0 := by
  cases req <;> rfl

theorem abortCheck_of_holds {w : Nat × Nat} {s : State} (free : updating s = false) (mine : holds w s = true) :
    abortCheck w s = none := by
  simp [abortCheck, free, mine]

/-! ### Writes -/

theorem leBytes_length (n v : Nat) : (leBytes n v).length = n := by
  induction n generalizing v with
  | zero => rfl
  | succ n ih => simp [leBytes, ih]

theorem updBytes_length (s : State) (req : Requester) (n : Nat) : (updBytes s req n).length = 4 * n := by
  rw [updBytes]
  induction n with
  | zero => rfl
  | succ n ih =>
    rw [List.range_succ, List.map_append, List.flatten_append, List.length_append, ih, List.map_singleton, List.flatten_singleton,
      leBytes_length, Nat.mul_succ]

/-- A write of the session's holder that comes next, is within the length and is of whole words or the last, programs the flash (R493). -/
theorem writeAnswer_inOrder {o : FlashOp} {x : Session} {s : State} (opened : s.boot.session = some x)
    (mine : holds (holderOf o.hdr o.req) s = true) (next : o.offset = x.written) (filled : 0 < o.data.length)
    (fits : o.offset + o.data.length ≤ x.length)
    (shape : (o.offset % 4 = 0 ∧ o.data.length % 4 = 0) ∨ o.offset + o.data.length = x.length) : writeAnswer o s = none := by
  have later : ¬ o.offset < x.written := by omega
  have order : ¬ x.written < o.offset := by omega
  have inside : ¬ x.length < o.offset + o.data.length := by omega
  have bytes : ¬ o.data.length = 0 := by omega
  simp only [writeAnswer, opened, mine]
  rcases shape with ⟨offset, words⟩ | last
  · simp [offset, words, later, order, inside, bytes]
  · simp [last, later, order, bytes]

/-- UPD_DATA's words, where UPD_ARG names the offset that comes next, program the flash (R493, R497). -/
theorem writeAnswer_updWrite {req : Requester} {x : Session} {s : State} (words : Nat) (opened : s.boot.session = some x)
    (mine : holds (holderOf none (some req)) s = true) (next : x.written = updArgOf s req) (aligned : x.written % 4 = 0)
    (fits : x.written + 4 * (words + 1) ≤ x.length) : writeAnswer
      { offset := updArgOf s req, data := updBytes s req (words + 1), hdr := none, req := some req } (updStarted req s) = none := by
  have bytes : (updBytes s req (words + 1)).length = 4 * (words + 1) := updBytes_length ..
  refine writeAnswer_inOrder (x := x) (by simp [opened]) (by simpa [holds_updStarted] using mine) next.symm ?_ ?_ (.inl ?_)
  · simp [bytes]
  · simpa [bytes, ← next] using fits
  · simpa [bytes, ← next] using aligned

/-- A write programs the flash, and the session's lease is renewed (R491). -/
def programming (o : FlashOp) (s : State) : State := { renewSession s with boot.ops := [o] }

@[simp] theorem programming_rest (o : FlashOp) (s : State) :
    (programming o s).time = s.time ∧ (programming o s).cfg = s.cfg ∧ (programming o s).live = s.live ∧
    (programming o s).fret = s.fret ∧ (programming o s).trig = s.trig ∧ (programming o s).host = s.host ∧
    (programming o s).boot = { s.boot with ops := [o], session := s.boot.session.map (fun x => { x with renewed := s.time.cclk }) } :=
  ⟨rfl, rfl, rfl, rfl, rfl, rfl, rfl⟩

@[simp] theorem reqOf_programming (o : FlashOp) (s : State) (r : Requester) : reqOf (programming o s) r = reqOf s r :=
  reqOf_congr rfl rfl rfl r

/-- A write handed while the flash is idle, and that answers nothing yet, runs at once (R493). -/
theorem addWrite_idle {o : FlashOp} {s : State} (idle : s.boot.ops = []) (runs : writeAnswer o s = none) :
    addWrite o s = programming o s := by
  simp [addWrite, idle, runWrites, runs, programming]

/-- The bytes of a write are in the flash. -/
def programmed (o : FlashOp) (s : State) : State :=
  { s with
    boot.flash := flashPut (slotBase (otherSlot s) + o.offset) (slotBase (otherSlot s) + slotBytes) o.data s.boot.flash
    boot.session := s.boot.session.map (fun x => { x with written := x.written + o.data.length }) }

/-- What the slot held from the write's first byte on is gone, and none of its bytes is in the flash (log 5). -/
def unprogrammed (cause addr : Nat) (o : FlashOp) (s : State) : State := flashError cause addr { s with
  boot.flash := flashPut (slotBase (otherSlot s) + o.offset) (slotBase (otherSlot s) + slotBytes) [] s.boot.flash }

@[simp] theorem programmed_rest (o : FlashOp) (s : State) :
    (programmed o s).time = s.time ∧ (programmed o s).cfg = s.cfg ∧ (programmed o s).live = s.live ∧ (programmed o s).fret = s.fret ∧
    (programmed o s).fe = s.fe ∧ (programmed o s).streams = s.streams ∧ (programmed o s).trig = s.trig ∧
    (programmed o s).boot.bcb = s.boot.bcb := ⟨rfl, rfl, rfl, rfl, rfl, rfl, rfl, rfl⟩

@[simp] theorem unprogrammed_rest (cause addr : Nat) (o : FlashOp) (s : State) :
    (unprogrammed cause addr o s).time = s.time ∧ (unprogrammed cause addr o s).cfg = s.cfg ∧
    (unprogrammed cause addr o s).live = s.live ∧ (unprogrammed cause addr o s).fret = s.fret ∧
    (unprogrammed cause addr o s).fe = s.fe ∧ (unprogrammed cause addr o s).streams = s.streams ∧
    (unprogrammed cause addr o s).trig = s.trig ∧ (unprogrammed cause addr o s).boot = { s.boot with
      flash := flashPut (slotBase (otherSlot s) + o.offset) (slotBase (otherSlot s) + slotBytes) [] s.boot.flash } := by
  simp [unprogrammed, flashError]

theorem onProgramDone_done {o : FlashOp} {s : State} (alone : s.boot.ops = [o]) :
    onProgramDone .done s = { opEnds o.hdr o.req 0x0D02 okReply (programmed o s) with boot.ops := [] } := by
  simp only [onProgramDone, alone, programmed, runWrites]

theorem onProgramDone_failed {cause addr : Nat} {o : FlashOp} {s : State} (alone : s.boot.ops = [o]) :
    ∃ r, onProgramDone (.failed cause addr) s =
      { opEnds o.hdr o.req 0x0D02 r (useFree (unprogrammed cause addr o s)) with boot.ops := [] } := by
  simp only [onProgramDone, alone, unprogrammed, runWrites]
  exact ⟨_, rfl⟩

/-! ### Commits in progress, and reloads -/

@[simp] theorem dieAt_putDie_other {k i : Nat} (d : DieRun) (s : State) (other : i ≠ k) : dieAt (putDie k d s) i = dieAt s i := by
  simp [dieAt, putDie, other]

theorem putDie_frame (k : Nat) (d : DieRun) (s : State) : (putDie k d s).fret = s.fret ∧ (putDie k d s).trig = s.trig := ⟨rfl, rfl⟩

/-- `s` with commit `c` in progress. -/
def committing (c : Commit) (s : State) : State := { s with boot.commit := some c }

@[simp] theorem committing_rest (c : Commit) (s : State) :
    (committing c s).time = s.time ∧ (committing c s).cfg = s.cfg ∧ (committing c s).live = s.live ∧ (committing c s).fret = s.fret ∧
    (committing c s).fe = s.fe ∧ (committing c s).trig = s.trig ∧ (committing c s).host = s.host ∧
    (committing c s).boot = { s.boot with commit := some c } := ⟨rfl, rfl, rfl, rfl, rfl, rfl, rfl, rfl⟩

@[simp] theorem reqOf_committing (c : Commit) (s : State) (r : Requester) : reqOf (committing c s) r = reqOf s r :=
  reqOf_congr rfl rfl rfl r

@[simp] theorem slotState_committing (c : Commit) (s : State) (n : Nat) : slotState (committing c s) n = slotState s n := rfl

@[simp] theorem dieAt_committing (c : Commit) (s : State) (k : Nat) : dieAt (committing c s) k = dieAt s k := rfl

/-- Die `k`, its reload ended at `e`, waits for a boundary to return at (R188). -/
def reloadedDie (k e : Nat) (s : State) : State :=
  putDie k { dieAt s k with loadEnd := none, returnWait := true } (toInstant e s)

@[simp] theorem reloadedDie_rest (k e : Nat) (s : State) :
    (reloadedDie k e s).time = (toInstant e s).time ∧ (reloadedDie k e s).cfg = s.cfg ∧ (reloadedDie k e s).live = s.live ∧
    (reloadedDie k e s).fret = s.fret ∧ (reloadedDie k e s).trig = s.trig ∧ (reloadedDie k e s).boot = s.boot := by
  simp [reloadedDie, putDie]

theorem dieAt_reloadedDie (k e : Nat) (s : State) :
    dieAt (reloadedDie k e s) k = { dieAt s k with loadEnd := none, returnWait := true } := dieAt_putDie ..

theorem onReloadEnd_of_loadEnd {k e : Nat} {s : State} (ends : (dieAt s k).loadEnd = some e) (free : s.boot.commit = none) :
    onReloadEnd k s = reloadedDie k e s := by
  have same : dieAt (toInstant e s) k = dieAt s k := dieAt_congr (by simp) k
  simp [onReloadEnd, ends, free, reloadedDie, same]

/-- The commit goes on to the next die to reload (R494). -/
theorem onReloadEnd_next {k j e : Nat} {js : List Nat} {c : Commit} {s : State} (ends : (dieAt s k).loadEnd = some e)
    (commits : s.boot.commit = some c) (dies : c.dies = k :: j :: js) (new : k ∉ j :: js) :
    ∃ d : DieRun, d.loadWait = true ∧ onReloadEnd k s = putDie j d
      (committing { c with dies := j :: js, reloaded := c.reloaded ++ [k] } (reloadedDie k e s)) := by
  have left : c.dies.filter (fun d => decide (d ≠ k)) = j :: js := by
    have others : ∀ d ∈ j :: js, decide (d ≠ k) = true := fun d there => decide_eq_true fun same => new (same ▸ there)
    rw [dies, List.filter_cons_of_neg (by simp), List.filter_eq_self.mpr others]
  have here : c.dies.contains k = true := by simp [dies]
  have same : dieAt (toInstant e s) k = dieAt s k := dieAt_congr (by simp) k
  simp only [onReloadEnd, ends, same]
  split
  case h_1 absent => simp [commits] at absent
  case h_2 c' commit =>
    obtain rfl : c = c' := by simpa [commits] using commit
    rw [if_pos here, left]
    exact ⟨_, rfl, rfl⟩

/-! ### The end of a commit by RESET -/

/-- The image of the inactive slot is TRIAL, not yet booted, and preferred (R494). -/
def markTrial (s : State) : State :=
  putBcb (fun c => if otherSlot s = 0 then { c with slotA := slTrial, bootedA := false, preferB := false }
                   else { c with slotB := slTrial, bootedB := false, preferB := true }) s

@[simp] theorem markTrial_rest (s : State) :
    (markTrial s).time = s.time ∧ (markTrial s).cfg = s.cfg ∧ (markTrial s).live = s.live ∧ (markTrial s).fret = s.fret ∧
    (markTrial s).trig = s.trig ∧ (markTrial s).host = s.host ∧ (markTrial s).boot.flash = s.boot.flash := by
  simp [markTrial]

@[simp] theorem reqOf_markTrial (s : State) (r : Requester) : reqOf (markTrial s) r = reqOf s r := reqOf_putBcb ..

theorem slotState_markTrial (s : State) : slotState (markTrial s) (otherSlot s) = slTrial := by
  by_cases first : otherSlot s = 0 <;> simp [slotState, markTrial, putBcb, first]

/-- A commit of the inactive slot's image by RESET, with no die to reload. -/
def resetCommit (hdr : Option CmdHdr) (req : Option Requester) (s : State) : Commit :=
  { activate := 1, image := imageHead s (otherSlot s), dies := [], reloaded := [], slot := otherSlot s, hdr := hdr, req := req }

/-- A commit by RESET with no die to reload comes to its end at once (R494). -/
theorem startCommit_resets {activate : Nat} {f : ImageFacts} (hdr : Option CmdHdr) (req : Option Requester) {s : State}
    (resets : swaps activate s = false) (dies : f.diesChanged = []) : startCommit activate f hdr req s =
      commitResets (resetCommit hdr req s) (committing (resetCommit hdr req s) (markTrial s)) := by
  simp only [startCommit, resets, dies, advanceCommit]
  rfl

@[simp] theorem commitResets_rest (c : Commit) (s : State) :
    (commitResets c s).time = s.time ∧ (commitResets c s).cfg = s.cfg ∧ (commitResets c s).live = s.live ∧
    (commitResets c s).fret = s.fret ∧ (commitResets c s).trig = s.trig ∧
    (commitResets c s).boot = { s.boot with session := none, commit := none, resetDue := true } := by
  simp [commitResets, event_fret (code := 0x0B11) (by decide)]

@[simp] theorem slotState_commitResets (c : Commit) (s : State) (n : Nat) : slotState (commitResets c s) n = slotState s n :=
  slotState_congr (by simp) n

/-- A commit of a requester ends with its status waiting to be set (R497). -/
theorem reqOf_commitResets {c : Commit} {req : Requester} (s : State) (register : c.hdr = none) (own : c.req = some req) :
    reqOf (commitResets c s) req = { reqOf s req with updResult := some 0 } := by
  have before (args : List Byte) : reqOf (event 0x0B11 0 args (endSession 1 s)) req = reqOf s req := by simp
  rw [commitResets, register, own, reqOf_opEnds]
  exact congrArg (fun x : ReqState => { x with updResult := some 0 }) (before _)

/-! ### Trials -/

/-- 600 s without confirmation leave the running slot EXPIRED, and the alarm is raised (R495). -/
theorem onTrialExpiry_of_trial {c : Nat} {s : State} (trial : s.boot.trialFrom = some c) (opened : s.boot.trialOpen = true) :
    onTrialExpiry s = raiseAlarm 0x0B12 0 [BitVec.ofNat 8 s.boot.running]
      { putSlot s.boot.running slExpired (toCclk (c + 240000000000) s) with boot.trialOpen := false, boot.trialFrom := none } := by
  simp [onTrialExpiry, trial, opened]

theorem confirmCheck_of_not_expired {s : State} (sound : runningExpired s = false) : confirmCheck s = none := by
  simp [confirmCheck, sound]

/-- The running image is confirmed: its slot, the lowest version that may boot, and no trial (R495). -/
def confirmed (s : State) : State :=
  { putBcb (fun c => { c with minSvn := flashAt s (slotBase s.boot.running + 15) }) (putSlot s.boot.running slConfirmed s) with
    boot.trialOpen := false, boot.trialFrom := none }

@[simp] theorem confirmed_rest (s : State) :
    (confirmed s).time = s.time ∧ (confirmed s).cfg = s.cfg ∧ (confirmed s).live = s.live ∧ (confirmed s).fret = s.fret ∧
    (confirmed s).trig = s.trig ∧ (confirmed s).host = s.host ∧ (confirmed s).boot.flash = s.boot.flash ∧
    (confirmed s).boot.trialOpen = false := by
  simp [confirmed]

theorem slotState_confirmed (s : State) : slotState (confirmed s) s.boot.running = slConfirmed := by
  by_cases first : s.boot.running = 0 <;> simp [slotState, confirmed, putSlot, putBcb, first]

theorem confirm_of_trial {s : State} (opened : s.boot.trialOpen = true) : ∃ args, confirm s = event 0x0B14 0 args (confirmed s) := by
  simp only [confirm, opened]
  exact ⟨_, rfl⟩

/-- Apart from its event, which is Clesin's, a confirmation writes the boot state only. -/
theorem confirm_rest {s : State} (opened : s.boot.trialOpen = true) :
    (confirm s).time = s.time ∧ (confirm s).cfg = s.cfg ∧ (confirm s).live = s.live ∧ (confirm s).fret = s.fret ∧
    (confirm s).trig = s.trig ∧ (confirm s).boot = (confirmed s).boot ∧ (∀ r, reqOf (confirm s) r = reqOf s r) := by
  obtain ⟨args, event⟩ := confirm_of_trial opened
  have registers (r : Requester) : reqOf (confirmed s) r = reqOf s r := reqOf_congr (by simp) (by simp) (by simp) r
  rw [event]
  simp [event_fret (code := 0x0B14) (by decide), registers]

theorem slotState_confirm {s : State} (opened : s.boot.trialOpen = true) :
    slotState (confirm s) s.boot.running = slConfirmed := by
  obtain ⟨args, event⟩ := confirm_of_trial opened
  rw [event, slotState_congr (s := confirmed s) (by simp), slotState_confirmed]

end Sys2Proof.Machine
end

section
/-! The events of an update, and the six operations of the register path. -/

namespace Sys2Proof.Machine

/-! ### Events -/

theorem exec_updSessionExpiry (s : State) : exec .updSessionExpiry s = .next (onSessionExpiry s) := rfl

theorem exec_flashProgramDone (e : FlashEnd) (s : State) : exec (.flashProgramDone e) s = .next (onProgramDone e s) := rfl

theorem exec_microcodeReloadEnd (k : Nat) (s : State) : exec (.microcodeReloadEnd k) s = .next (onReloadEnd k s) := rfl

theorem exec_trialExpiry (s : State) : exec .trialExpiry s = .next (onTrialExpiry s) := rfl

/-! ### Operations of a requester -/

section
variable {req : Requester} {s : State} (runs : UpdCmdRuns req s) (safe : s.safety.safe = false)
include runs safe

theorem exec_updCmdOpen_runs (good : openCheck (holderOf none (some req)) (updArgOf s req) s = none) :
    exec (.updCmdOpen req) s = .next (opEnds none (some req) 0x0D01 okReply
      (openSession (holderOf none (some req)) (updArgOf s req) (updStarted req s))) :=
  congrArg Host.Outcome.next (updCmd_of_runs runs safe ((openCheck_updStarted ..).trans good))

theorem exec_updCmdWrite_runs (words : Nat) : exec (.updCmdWrite req words) s = .next (addWrite
    { offset := updArgOf s req, data := updBytes s req (words + 1), hdr := none, req := some req } (updStarted req s)) :=
  congrArg Host.Outcome.next (updCmd_of_runs runs safe rfl)

theorem exec_updCmdCommit_runs {f : ImageFacts} (good : commitCheck (holderOf none (some req)) (updArgOf s req) f s = none) :
    exec (.updCmdCommit req f) s = .next (startCommit (updArgOf s req) f none (some req) (updStarted req s)) :=
  congrArg Host.Outcome.next (updCmd_of_runs runs safe ((commitCheck_updStarted ..).trans good))

theorem exec_updCmdAbort_runs (good : abortCheck (holderOf none (some req)) s = none) :
    exec (.updCmdAbort req) s = .next (opEnds none (some req) 0x0D04 okReply (dropSession 3 (updStarted req s))) :=
  congrArg Host.Outcome.next (updCmd_of_runs runs safe ((abortCheck_updStarted ..).trans good))

theorem exec_updCmdHealthConfirm_runs (good : confirmCheck s = none) :
    exec (.updCmdHealthConfirm req) s = .next (opEnds none (some req) 0x0D05 okReply (confirm (updStarted req s))) :=
  congrArg Host.Outcome.next (updCmd_of_runs runs safe ((confirmCheck_updStarted ..).trans good))

/-- The key of the owner lock clears it (R490). -/
theorem exec_updCmdUnlock_runs (locked : s.boot.bcb.lock = true) (key : updArgOf s req = s.boot.bcb.key) :
    exec (.updCmdUnlock req) s = .next (opEnds none (some req) 0x0C03 okReply
      (putBcb (fun c => { c with lock := false }) (updStarted req s))) := by
  have good : firstBad [(28, (updStarted req s).boot.bcb.lock && decide (updArgOf s req ≠ (updStarted req s).boot.bcb.key))] = none := by
    simp [key]
  have unlocks : (updStarted req s).boot.bcb.lock = true := by simp [locked]
  refine (congrArg Host.Outcome.next (updCmd_of_runs runs safe good)).trans ?_
  rw [if_pos unlocks]

end

/-! ### The statement -/

/-- Settles O56: an event of the update is one write of its session, flash, die or slot; an operation of a requester is the command's
effect after BUSY is set, and its status waits for UPD_CMD_DONE. -/
theorem updateEvents : Obligations.UpdateEvents := by
  refine ⟨fun x s opened free => ?_, fun s keeps => ?_, fun o x s alone opened => ?_, fun cause addr o s alone => ?_,
    fun k e s ends free => ?_, fun k j e js c s ends commits dies new => ?_, fun c s trial opened => ?_,
    fun req s own up idle safe good => ?_, fun req words x s own up idle safe opened mine free next words4 fits => ?_,
    fun req f s own up idle safe reset dies good => ?_, fun req x s own up idle safe opened mine free => ?_,
    fun req s own up idle safe sound opened => ?_, fun req s own up idle safe locked key => ?_,
    fun i req f words s value busy => ?_, fun i req f words s value own up idle safe => ?_, fun req st s busy ended => ?_⟩
  · refine does_of (exec_updSessionExpiry s) ?_
    rw [onSessionExpiry_of_session opened free, endSession_silent]
  · rw [exec_updSessionExpiry, onSessionExpiry_otherwise keeps]
  · refine ⟨_, exec_flashProgramDone .done s, ?_⟩
    rw [onProgramDone_done alone]
    simp [programmed, opened]
  · obtain ⟨r, ends⟩ := onProgramDone_failed (cause := cause) (addr := addr) alone
    refine ⟨_, exec_flashProgramDone (.failed cause addr) s, ?_⟩
    rw [ends]
    simp
  · rw [exec_microcodeReloadEnd, onReloadEnd_of_loadEnd ends free, reloadedDie]
  · obtain ⟨d, waits, goesOn⟩ := onReloadEnd_next ends commits dies new
    have other : k ≠ j := fun same => new (by simp [same])
    refine ⟨_, exec_microcodeReloadEnd k s, ?_⟩
    rw [goesOn]
    simp [other, dieAt_reloadedDie, waits, putDie_frame]
  · refine does_of (exec_trialExpiry s) ?_
    rw [onTrialExpiry_of_trial trial opened, raiseAlarm_silent]
  · have slot : slotState (openSession (holderOf none (some req)) (updArgOf s req) (updStarted req s)) (otherSlot s) = slWriting := by
      rw [← otherSlot_updStarted req s, openSession_slot]
    have arg : (reqOf s req).updArg.toNat = updArgOf s req := rfl
    refine ⟨_, exec_updCmdOpen_runs ⟨own, up, idle⟩ safe good, ?_⟩
    simp [openSession_session, holderOf_hub, slot, okReply, arg]
  · refine ⟨_, exec_updCmdWrite_runs ⟨own, up, idle⟩ safe words, ?_⟩
    rw [addWrite_idle (by simp [free]) (writeAnswer_updWrite words opened mine next words4 fits)]
    simp [opened, next, updArgOf]
  · have one : updArgOf s req = 1 := by simp [updArgOf, reset]
    have byReset : swaps 1 (updStarted req s) = false := rfl
    have slot := slotState_markTrial (updStarted req s)
    rw [otherSlot_updStarted] at slot
    refine ⟨_, exec_updCmdCommit_runs ⟨own, up, idle⟩ safe (one ▸ good), ?_⟩
    rw [one, startCommit_resets none (some req) byReset dies]
    simp [reqOf_commitResets _ (c := resetCommit none (some req) (updStarted req s)) rfl rfl, slot]
  · refine ⟨_, exec_updCmdAbort_runs ⟨own, up, idle⟩ safe (abortCheck_of_holds free mine), ?_⟩
    rw [dropSession_of_session 3 (x := x) (by simp [opened]), otherSlot_updStarted]
    simp [okReply]
  · have trial : (updStarted req s).boot.trialOpen = true := by simp [opened]
    have slot := slotState_confirm trial
    rw [updStarted_boot] at slot
    refine ⟨_, exec_updCmdHealthConfirm_runs ⟨own, up, idle⟩ safe (confirmCheck_of_not_expired sound), ?_⟩
    simp [confirm_rest trial, slot, okReply]
  · refine ⟨_, exec_updCmdUnlock_runs ⟨own, up, idle⟩ safe locked key, ?_⟩
    simp [putBcb_bcb, okReply]
  · obtain ⟨op, chk, eff, run⟩ := exec_updCmd s value
    rw [run, updCmd_of_busy busy]
  · obtain ⟨op, chk, eff, run⟩ := exec_updCmd s value
    rw [run, updCmd_of_safe ⟨own, up, idle⟩ safe]
  · exact exec_updCmdDone busy ended

end Sys2Proof.Machine
end

section
/-! What a frame of this hub reads and writes: apart from messages it changes the ring alone, by what it finds in the ring, the time,
the settings in force and the boot state (R314 to R323). A completion, which may leave in such frames (R336), is therefore the same
whatever the triggers are. -/

namespace Sys2Proof.Machine

/-! ### Operations on the ring -/

/-- The parts that a frame's way to the egress reads. -/
def ringPart (s : State) : State := { State.reset with time := s.time, live := s.live, ring := s.ring, boot := s.boot }

/-- Apart from messages an operation writes the ring alone, by what it finds in those parts. -/
def ActsOnRing (f : State → State) : Prop := ∀ s, silent (f s) = { silent s with ring := (f (ringPart s)).ring }

theorem actsOnRing_id : ActsOnRing (fun s => s) := fun _ => rfl

/-- What the operation leaves of the parts it reads comes from those parts. -/
theorem ActsOnRing.part {f : State → State} (acts : ActsOnRing f) (s : State) : ringPart (f (ringPart s)) = ringPart (f s) := by
  have of_silent (t : State) : ringPart t = ringPart (silent t) := rfl
  rw [of_silent (f s), of_silent (f (ringPart s)), acts s, acts (ringPart s)]
  rfl

theorem ActsOnRing.comp {f g : State → State} (outer : ActsOnRing f) (inner : ActsOnRing g) : ActsOnRing (fun s => f (g s)) := by
  intro s
  have ring (t : State) : (f t).ring = (f (ringPart t)).ring := by simpa [silent] using congrArg State.ring (outer t)
  rw [ring (g (ringPart s)), inner.part, outer (g s), inner s]

theorem ActsOnRing.ite {f g : State → State} {c : State → Prop} [DecidablePred c] (same : ∀ s, c (ringPart s) ↔ c s)
    (yes : ActsOnRing f) (no : ActsOnRing g) : ActsOnRing (fun s => if c s then f s else g s) := by
  intro s
  by_cases h : c s
  · simp only [h, same, if_true, yes s]
  · simp only [h, same, if_false, no s]

theorem ActsOnRing.foldl {α : Type} {f : State → α → State} (acts : ∀ a, ActsOnRing (fun s => f s a)) :
    ∀ l : List α, ActsOnRing (fun s => l.foldl f s)
  | [] => actsOnRing_id
  | a :: l => (ActsOnRing.foldl acts l).comp (acts a)

theorem ActsOnRing.alarmed {f : State → State} (acts : ActsOnRing f) (code source : Nat) (args : List Byte) :
    ActsOnRing (fun s => raiseAlarm code source args (f s)) := by
  intro s
  simp only [raiseAlarm_silent, raiseAlarm_rest]
  exact acts s

/-! ### Frames -/

theorem countFull_actsOnRing (p : Port) (cls : Nat) : ActsOnRing (countFull p cls) := by
  cases p <;> exact fun _ => rfl

theorem egressPut_actsOnRing (p : Port) (w : Waiting) : ActsOnRing (egressPut p w) := by
  have full (p : Port) (source : Nat) : ActsOnRing (fun s => raiseAlarm 0x0505 source [BitVec.ofNat 8 w.cls] (countFull p w.cls s)) :=
    (countFull_actsOnRing p w.cls).alarmed 0x0505 source _
  cases p with
  | a => exact .ite (fun _ => Iff.rfl) (.ite (fun _ => Iff.rfl) (fun _ => rfl) (full .a 0)) actsOnRing_id
  | b => exact .ite (fun _ => Iff.rfl) (.ite (fun _ => Iff.rfl) (fun _ => rfl) (full .b 1)) actsOnRing_id

theorem sendJorva_actsOnRing (cls p delay : Nat) (dst : Option Nat) (frag : Nat) (last : Bool) (msg : WireMsg) :
    ActsOnRing (sendJorva cls p delay dst frag last msg) := by
  have put (w : Waiting) (seq : Nat) : ActsOnRing (fun s => { egressPut .b w (egressPut .a w s) with
      ring.hsrSeq := (seq + 1) % 65536 }) :=
    ActsOnRing.comp (f := fun s => { s with ring.hsrSeq := (seq + 1) % 65536 }) (fun _ => rfl)
      ((egressPut_actsOnRing .b w).comp (egressPut_actsOnRing .a w))
  exact fun s => put _ s.ring.hsrSeq s

theorem controlFrame_actsOnRing (p : Nat) (dst : Option Nat) (frag : Nat) (last : Bool) (msg : WireMsg) :
    ActsOnRing (controlFrame p dst frag last msg) := by
  have held (wait whole : Nat) : ActsOnRing (fun s => sendJorva 2 p wait dst frag last msg { s with ring.controlAt := whole }) :=
    (sendJorva_actsOnRing 2 p wait dst frag last msg).comp fun _ => rfl
  exact fun s => held _ _ s

theorem sendControl_actsOnRing (p : Nat) (dst : Option Nat) (msg : WireMsg) : ActsOnRing (sendControl p dst msg) :=
  .foldl (fun i => controlFrame_actsOnRing (min 1472 (p - 1472 * i)) dst i (decide (i + 1 = ceilDiv p 1472)) msg) _

/-! ### Completions -/

/-- A state with other triggers. -/
def withTrig (x : Triggers) (s : State) : State := { s with trig := x }

theorem ActsOnRing.silent_withTrig {f : State → State} (acts : ActsOnRing f) {x : Triggers} {s t : State} (other : t = withTrig x s) :
    silent (f t) = withTrig x (silent (f s)) := by
  rw [other, acts (withTrig x s), acts s]
  rfl

/-- What answers a command is the same whatever the triggers are, and leaves them as they are. -/
theorem answered_withTrig (h : CmdHdr) (op : Nat) (r : Reply) (x : Triggers) (s : State) :
    silent (answered h op r (withTrig x s)) = withTrig x (silent (answered h op r s)) := by
  have orphans : (withTrig x s).host.orphans = s.host.orphans := rfl
  unfold answered deliverCompletion
  by_cases orphan : s.host.orphans.contains (orphanKey h) = true
  · simp only [orphans, orphan, if_true]
    rfl
  · simp only [orphans, orphan, Bool.false_eq_true, if_false]
    cases gate : h.gateway with
    | none => rfl
    | some g => exact (sendControl_actsOnRing _ _ _).silent_withTrig rfl

end Sys2Proof.Machine
end

section
/-! The commands of the capture units (R242 to R256). -/

namespace Sys2Proof.Machine

/-! ### Units, written and read -/

@[simp] theorem unitAt_putUnit (u : Nat) (x : UnitRun) (s : State) : unitAt (putUnit u x s) u = x := by simp [unitAt, putUnit]

@[simp] theorem unitAt_putUnit_other {u v : Nat} (x : UnitRun) (s : State) (other : v ≠ u) :
    unitAt (putUnit u x s) v = unitAt s v := by simp [unitAt, putUnit, other]

@[simp] theorem putUnit_putUnit (u : Nat) (x y : UnitRun) (s : State) : putUnit u y (putUnit u x s) = putUnit u y s := by
  simp [putUnit]

/-- Units read the same in states that hold the same triggers. -/
theorem unitAt_congr {s t : State} (h : t.trig = s.trig) (u : Nat) : unitAt t u = unitAt s u := by rw [unitAt, unitAt, h]

@[simp] theorem unitAt_dueAtBoundary (h : CmdHdr) (op : Nat) (s : State) (u : Nat) : unitAt (dueAtBoundary h op s) u = unitAt s u := rfl

@[simp] theorem unitAt_finish (h : CmdHdr) (op : Nat) (r : Reply) (s : State) (u : Nat) : unitAt (finish h op r s) u = unitAt s u :=
  unitAt_congr (by simp) u

/-! ### Captures -/

/-- A trigger that an ARMED unit takes while the hub acquires starts a capture, and writes that unit alone (R243, R247). -/
theorem unitTrigger_of_armed {u : Nat} (t : Trigger) {s : State} (armed : (unitAt s u).state = .armed) (on : s.fret.acquiring = true) :
    ∃ x : UnitRun, unitTrigger u t s = putUnit u x s ∧ x.state = .capturing ∧ x.cap.map (·.trig) = some t := by
  have starts : unitTrigger u t s = startCapture u t s := by simp only [unitTrigger, armed, on, if_true]
  exact ⟨_, starts.trans rfl, rfl, rfl⟩

/-- The trigger of a CAPTURE_TRIGGER for a unit (R256, R262). -/
def commandTrigger (time : Nat) (s : State) : Trigger :=
  { time := time, sub := 0, src := 0x20, status := setBit 0 stCommand, origin := s.live.ring.hubId, cond := 0xFFFF, comb := 0xFF
    merged := 1, reach := s.time.cclk }

/-- A unit whose capture DISARM cuts at the fret in progress: it ends there at the latest, in IDLE (R243, R255). -/
def cutUnit (u : Nat) (k : Capture) (s : State) : UnitRun :=
  { unitAt s u with
    toIdle := true
    cap := some { k with last := min s.fret.idx k.last, cut := some (min s.fret.idx k.last), status := setBit k.status stCutShort }
    capos := (unitAt s u).capos.map (fun c => if c.filling then { c with last := min s.fret.idx k.last } else c) }

theorem cutCapture_of_running {u : Nat} {k : Capture} {s : State} (runs : (unitAt s u).cap = some k) :
    cutCapture u s.fret.idx stCutShort true true s = putUnit u (cutUnit u k s) s := by
  simp only [cutCapture, runs, setLast, unitAt_putUnit, putUnit_putUnit, Bool.or_true, if_true, cutUnit]

/-- The first capo of a number leaves with CAPTURE_RELEASE (R249). -/
theorem find_capo {before after : List Capo} {k : Capo} (first : ∀ x ∈ before, x.no ≠ k.no) :
    (before ++ k :: after).find? (fun x => decide (x.no = k.no)) = some k := by
  have absent : before.find? (fun x => decide (x.no = k.no)) = none := List.find?_eq_none.mpr (by simpa using first)
  simp [List.find?_append, absent]

theorem takeWhile_capo {before after : List Capo} {k : Capo} (first : ∀ x ∈ before, x.no ≠ k.no) :
    (before ++ k :: after).takeWhile (fun x => decide (x.no ≠ k.no)) = before := by
  rw [List.takeWhile_append_of_pos (by simpa using first)]
  simp

/-! ### The commands run -/

theorem exec_unitSet {h : CmdHdr} {p : UnitP} {s : State} (takes : Accepts h 0x0503 s) (good : unitCheck p s = none) :
    exec (.unitSet h p) s = .next (dueAtBoundary h 0x0503 (accept (unitConfig p) s)) :=
  congrArg Host.Outcome.next (runCommand_eff takes good)

theorem exec_arm_idle {h : CmdHdr} {u : Nat} {s : State} (takes : Accepts h 0x0504 s) (there : u ≤ 7) (idle : (unitAt s u).state = .idle)
    (fits : quotaCheck s.cfg u = none) :
    exec (.arm h u) s = .next (dueAtBoundary h 0x0504 (putUnit u { unitAt s u with wait := some true } s)) := by
  refine congrArg Host.Outcome.next ((runCommand_eff takes (by simp [checks, there, idle, fits])).trans ?_)
  rw [if_pos idle]
  rfl

theorem exec_arm_other {h : CmdHdr} {u : Nat} {s : State} (takes : Accepts h 0x0504 s) (there : u ≤ 7)
    (busy : (unitAt s u).state ≠ .idle) : exec (.arm h u) s = .next (finish h 0x0504 okReply s) := by
  refine congrArg Host.Outcome.next ((runCommand_eff takes (by simp [checks, there, busy])).trans ?_)
  rw [if_neg busy]

theorem exec_disarm_idle {h : CmdHdr} {u : Nat} {s : State} (takes : Accepts h 0x0505 s) (there : u ≤ 7)
    (idle : (unitAt s u).state = .idle) (quiet : (unitAt s u).wait = none) :
    exec (.disarm h u) s = .next (finish h 0x0505 okReply s) := by
  refine congrArg Host.Outcome.next ((runCommand_eff takes (by simp [there])).trans ?_)
  exact if_pos ⟨idle, quiet⟩

theorem exec_disarm_waits {h : CmdHdr} {u : Nat} {s : State} (takes : Accepts h 0x0505 s) (there : u ≤ 7)
    (still : (unitAt s u).state ≠ .capturing) (busy : ¬ ((unitAt s u).state = .idle ∧ (unitAt s u).wait = none)) :
    exec (.disarm h u) s = .next (dueAtBoundary h 0x0505 (putUnit u { unitAt s u with wait := some false } s)) := by
  refine congrArg Host.Outcome.next ((runCommand_eff takes (by simp [there])).trans ?_)
  exact (if_neg busy).trans (if_neg still)

theorem exec_disarm_capturing {h : CmdHdr} {u : Nat} {k : Capture} {s : State} (takes : Accepts h 0x0505 s) (there : u ≤ 7)
    (capturing : (unitAt s u).state = .capturing) (runs : (unitAt s u).cap = some k) :
    exec (.disarm h u) s = .next (dueAtBoundary h 0x0505 (putUnit u (cutUnit u k s) s)) := by
  have busy : ¬ ((unitAt s u).state = .idle ∧ (unitAt s u).wait = none) := by simp [capturing]
  refine congrArg Host.Outcome.next ((runCommand_eff takes (by simp [there])).trans ?_)
  rw [← cutCapture_of_running runs]
  exact (if_neg busy).trans (if_pos capturing)

theorem exec_captureRelease {h : CmdHdr} {u : Nat} {before after : List Capo} {k : Capo} {s : State} (takes : Accepts h 0x0507 s)
    (there : u ≤ 7) (holds : (unitAt s u).capos = before ++ k :: after) (first : ∀ x ∈ before, x.no ≠ k.no) (closed : k.filling = false)
    (delivered : capoDelivered s k = true) : exec (.captureRelease h u k.no) s =
      .next (finish h 0x0507 okReply (putUnit u { unitAt s u with capos := before ++ after } s)) := by
  have good : releaseCheck u k.no s = none := by simp [releaseCheck, there, holds, find_capo first, closed, delivered]
  refine congrArg Host.Outcome.next ((runCommand_eff takes good).trans ?_)
  simp only [holds, takeWhile_capo first]
  simp

theorem exec_captureTrigger_unit {h : CmdHdr} {u sec ns : Nat} {s : State} (takes : Accepts h 0x0506 s) (there : u ≤ 7)
    (proper : ns < 1000000000) :
    exec (.captureTrigger h { target := 0, index := u, hasTime := 1, sec := sec, ns := ns }) s =
      .next (finish h 0x0506 okReply (unitTrigger u (commandTrigger (sec * 1000000000 + ns) s) s)) :=
  congrArg Host.Outcome.next (runCommand_eff takes (by simp [capTrigCheck, there, proper]))

theorem exec_captureTrigger_group {h : CmdHdr} {g sec ns : Nat} {s : State} (takes : Accepts h 0x0506 s) (there : g ≤ 15)
    (proper : ns < 1000000000) :
    exec (.captureTrigger h { target := 1, index := g, hasTime := 1, sec := sec, ns := ns }) s =
      .next (finish h 0x0506 okReply (sendGroup g (sec * 1000000000 + ns) 0 0xFFFF 0xFF 0 true s)) :=
  congrArg Host.Outcome.next (runCommand_eff takes (by simp [capTrigCheck, there, proper]))

/-- Apart from messages and triggers, a command that changed a unit is answered as if it had not. -/
theorem finish_putUnit_silent (h : CmdHdr) (op : Nat) (r : Reply) (u : Nat) (x : UnitRun) (s : State) :
    silent { finish h op r (putUnit u x s) with trig := s.trig } = silent (answered h op r s) := by
  have trig : (silent (answered h op r s)).trig = s.trig := by simp [silent, answered]
  calc silent { finish h op r (putUnit u x s) with trig := s.trig }
      = withTrig s.trig (silent (finish h op r (putUnit u x s))) := rfl
    _ = withTrig s.trig (silent (answered h op r (withTrig (putUnit u x s).trig s))) := by rw [finish_silent]; rfl
    _ = withTrig (silent (answered h op r s)).trig (silent (answered h op r s)) := by rw [answered_withTrig, trig]; rfl

/-! ### The statement -/

/-- Settles O30: each command that Clesin accepts, and whose own check passes, writes its unit, and is answered or due at the boundary. -/
theorem captureCommands : Obligations.CaptureCommands := by
  refine ⟨fun h p s takes good => ?_, fun h u s takes there idle fits => exec_arm_idle takes there idle fits,
    fun h u s takes there busy => does_of (exec_arm_other takes there busy) (finish_silent ..),
    fun h u s takes there idle quiet => does_of (exec_disarm_idle takes there idle quiet) (finish_silent ..),
    fun h u s takes there still busy => exec_disarm_waits takes there still busy, fun h u k s takes there capturing runs => ?_,
    fun h u before after k s takes there holds first closed delivered =>
      does_of (exec_captureRelease takes there holds first closed delivered) (finish_silent ..),
    fun h u sec ns s takes there proper armed on => ?_,
    fun h g sec ns s takes there proper => does_of (exec_captureTrigger_group takes there proper) (finish_silent ..)⟩
  · exact ⟨_, exec_unitSet takes good, tget_tput_same .., fun u _ other => tget_tput_other _ _ _ _ _ other, rfl, rfl⟩
  · refine ⟨_, exec_disarm_capturing takes there capturing runs, ?_, ?_, fun v _ other => ?_, rfl⟩
    · simp [cutUnit]
    · simp [cutUnit]
    · simp [other]
  · obtain ⟨x, starts, state, trigger⟩ := unitTrigger_of_armed (commandTrigger (sec * 1000000000 + ns) s) armed on
    refine ⟨_, exec_captureTrigger_unit takes there proper, ?_⟩
    rw [starts, unitAt_finish, unitAt_putUnit]
    exact ⟨state, trigger, fun v _ other => by simp [other], finish_putUnit_silent ..⟩

end Sys2Proof.Machine
end

section
/-! Conditions, combinations and sympathetic groups as their commands set them (R235 to R241, R256). -/

namespace Sys2Proof.Machine

/-! ### A table after the numbered entries of a write -/

section
variable {α β : Type} [DecidableEq α] (d : α) (f : β → α) {k : Nat}

theorem tget_foldl_tput_of_notMem : ∀ {l : List (Nat × β)} (t : Table α), k ∉ l.map (·.1) →
    tget d (l.foldl (fun t e => tput d t e.1 (f e.2)) t) k = tget d t k
  | [], _, _ => rfl
  | e :: l, t, absent => by
    obtain ⟨other, rest⟩ : k ≠ e.1 ∧ k ∉ l.map (·.1) := by simpa only [List.map_cons, List.mem_cons, not_or] using absent
    rw [List.foldl_cons, tget_foldl_tput_of_notMem _ rest, tget_tput_other _ _ _ _ _ other]

theorem tget_foldl_tput_of_mem {b : β} : ∀ {l : List (Nat × β)} (t : Table α), (l.map (·.1)).Nodup → (k, b) ∈ l →
    tget d (l.foldl (fun t e => tput d t e.1 (f e.2)) t) k = f b
  | e :: l, t, once, listed => by
    obtain ⟨new, rest⟩ := List.nodup_cons.mp once
    rcases List.mem_cons.mp listed with rfl | later
    · rw [List.foldl_cons, tget_foldl_tput_of_notMem d f _ new, tget_tput_same]
    · rw [List.foldl_cons, tget_foldl_tput_of_mem _ rest later]

end

theorem mem_foldl_distinct (n : Nat) (ns acc : List Nat) :
    n ∈ ns.foldl (fun acc n => if acc.contains n then acc else acc ++ [n]) acc ↔ n ∈ acc ∨ n ∈ ns := by
  induction ns generalizing acc with
  | nil => simp
  | cons m ns ih =>
    rw [List.foldl_cons, ih]
    by_cases there : m ∈ acc
    · have again : n = m → n ∈ acc := fun same => same ▸ there
      rw [if_pos (List.contains_iff_mem.mpr there), List.mem_cons]
      exact ⟨Or.imp_right Or.inr, fun listed => listed.elim Or.inl (Or.imp_left again)⟩
    · rw [if_neg (mt List.contains_iff_mem.mp there), List.mem_append, List.mem_singleton, List.mem_cons, or_assoc]

@[simp] theorem mem_distinct (n : Nat) (ns : List Nat) : n ∈ distinct ns ↔ n ∈ ns := by
  rw [distinct, mem_foldl_distinct]
  simp

/-! ### COND_WRITE -/

theorem condItems_numbers (first : Nat) (es : List CondP) :
    (condItems first es).map (·.1) = (List.range es.length).map (first + ·) := by
  simp [condItems, List.map_fst_zip]

theorem condItems_nodup (first : Nat) (es : List CondP) : ((condItems first es).map (·.1)).Nodup := by
  rw [condItems_numbers]
  exact List.pairwise_map.mpr (List.nodup_range.imp fun other same => other (Nat.add_left_cancel same))

theorem mem_condItems {first i : Nat} {es : List CondP} {e : CondP} (there : es[i]? = some e) : (first + i, e) ∈ condItems first es := by
  obtain ⟨inside, rfl⟩ := List.getElem?_eq_some_iff.mp there
  exact List.mem_of_getElem? (i := i) (by simp [condItems, inside])

theorem condSetAt_condConfig_named {first i : Nat} {es : List CondP} {e : CondP} (g : Settings) (there : es[i]? = some e) :
    condSetAt (condConfig first es g) (first + i) = condNew e :=
  tget_foldl_tput_of_mem condSet0 condNew _ (condItems_nodup first es) (mem_condItems there)

theorem condSetAt_condConfig_other {first i : Nat} {es : List CondP} (g : Settings) (outside : i < first ∨ first + es.length ≤ i) :
    condSetAt (condConfig first es g) i = condSetAt g i := by
  refine tget_foldl_tput_of_notMem condSet0 condNew _ ?_
  rw [condItems_numbers]
  simp only [List.mem_map, List.mem_range, not_exists, not_and]
  omega

/-- What COND_WRITE leaves: its settings accepted, its entries marked as written, and its completion due at the boundary. -/
def condWritten (h : CmdHdr) (first : Nat) (es : List CondP) (s : State) : State :=
  dueAtBoundary h 0x0501 { accept (condConfig first es) s with
    trig.written := distinct (s.trig.written ++ (condItems first es).map (·.1)) }

theorem exec_condWrite {h : CmdHdr} {first : Nat} {es : List CondP} {s : State} (takes : Accepts h 0x0501 s)
    (good : condCheck first es s = none) : exec (.condWrite h first es) s = .next (condWritten h first es s) :=
  congrArg Host.Outcome.next (runCommand_eff takes good)

theorem condWritten_written {first i : Nat} {es : List CondP} (h : CmdHdr) (s : State) (named : i < es.length) :
    first + i ∈ (condWritten h first es s).trig.written := by
  refine (mem_distinct ..).mpr (List.mem_append_right _ ?_)
  rw [condItems_numbers]
  exact List.mem_map_of_mem (List.mem_range.mpr named)

/-! ### COMB_SET and SYMP_GROUP_SET -/

theorem exec_combSet {h : CmdHdr} {p : CombP} {s : State} (takes : Accepts h 0x0502 s) (good : combCheck p = none) :
    exec (.combSet h p) s = .next (dueAtBoundary h 0x0502 (accept (combConfig p) s)) :=
  congrArg Host.Outcome.next (runCommand_eff takes good)

/-- The settings with those of group `g`. -/
def groupConfig (g : Nat) (x : GroupSet) (c : Settings) : Settings := { c with groups := tput groupSet0 c.groups g x }

theorem exec_sympGroupSet {h : CmdHdr} {g mode wG : Nat} {s : State} (takes : Accepts h 0x0508 s) (there : g ≤ 15) (known : mode ≤ 1)
    (short : wG ≤ 10000) : exec (.sympGroupSet h g mode wG) s =
      .next (dueAtBoundary h 0x0508 (accept (groupConfig g { arbitrated := decide (mode = 1), wG := wG }) s)) :=
  congrArg Host.Outcome.next (runCommand_eff takes (by simp [there, known, short]))

/-! ### The statement -/

/-- Settles O31: each command that Clesin accepts, and whose own check passes, writes the entries it names in the accepted settings
and leaves its completion to the boundary. -/
theorem triggerSettings : Obligations.TriggerSettings := by
  refine ⟨fun h first es s takes good => ?_, fun h p s takes good => ?_, fun h g mode wG s takes there known short => ?_⟩
  · refine ⟨_, exec_condWrite takes good, fun i named => ?_, fun i _ outside => condSetAt_condConfig_other s.cfg outside, rfl,
      fun i named => condWritten_written h s named, rfl⟩
    have there : es[i]? = some es[i] := List.getElem?_eq_getElem named
    rw [there]
    exact congrArg some (condSetAt_condConfig_named s.cfg there).symm
  · exact ⟨_, exec_combSet takes good, tget_tput_same .., fun c _ other => tget_tput_other _ _ _ _ _ other, rfl, rfl⟩
  · exact ⟨_, exec_sympGroupSet takes there known short, tget_tput_same .., fun k _ other => tget_tput_other _ _ _ _ _ other, rfl, rfl⟩

end Sys2Proof.Machine
end

section
/-! Words and edges at the trigger unit, and firings passed on (R232 to R241). -/

namespace Sys2Proof.Machine

/-! ### What a firing passed on leaves as it is -/

/-- The parts that units, groups, events and outputs leave as they are when a firing reaches them. -/
structure Unfired where
  time : TimeUnit
  cfg : Settings
  live : Settings
  streams : Table StreamCtx
  boot : Boot
  gpio : Nat
  flight : List TrigWord
  conds : Table CondRun
  combs : Table CombRun

def unfired (s : State) : Unfired :=
  { time := s.time, cfg := s.cfg, live := s.live, streams := s.streams, boot := s.boot, gpio := s.loc.gpio, flight := s.trig.flight
    conds := s.trig.conds, combs := s.trig.combs }

theorem unfired_foldl {α : Type} (g : State → α → State) (keeps : ∀ t x, unfired (g t x) = unfired t) :
    ∀ (l : List α) (s : State), unfired (l.foldl g s) = unfired s
  | [], _ => rfl
  | x :: l, s => by rw [List.foldl_cons, unfired_foldl g keeps l, keeps]

@[simp] theorem putUnit_unfired (u : Nat) (x : UnitRun) (s : State) : unfired (putUnit u x s) = unfired s := rfl
@[simp] theorem missTrigger_unfired (u : Nat) (t : Trigger) (s : State) : unfired (missTrigger u t s) = unfired s := rfl
@[simp] theorem startCapture_unfired (u : Nat) (t : Trigger) (s : State) : unfired (startCapture u t s) = unfired s := rfl
@[simp] theorem setLast_unfired (u last : Nat) (k : Capture) (s : State) : unfired (setLast u last k s) = unfired s := rfl

@[simp] theorem extendCapture_unfired (u : Nat) (t : Trigger) (k : Capture) (s : State) :
    unfired (extendCapture u t k s) = unfired s := by
  simp only [extendCapture]
  (repeat' split) <;> simp

@[simp] theorem policyTrigger_unfired (u : Nat) (t : Trigger) (s : State) : unfired (policyTrigger u t s) = unfired s := by
  simp only [policyTrigger]
  (repeat' split) <;> simp

@[simp] theorem replaceCapture_unfired (u : Nat) (t : Trigger) (k : Capture) (s : State) :
    unfired (replaceCapture u t k s) = unfired s := by
  simp only [replaceCapture]
  split <;> simp

@[simp] theorem unitTrigger_unfired (u : Nat) (t : Trigger) (s : State) : unfired (unitTrigger u t s) = unfired s := by
  simp only [unitTrigger]
  (repeat' split) <;> simp

@[simp] theorem toUnits_unfired (source : Nat) (t : Trigger) (s : State) : unfired (toUnits source t s) = unfired s := by
  refine unfired_foldl _ (fun v u => ?_) _ _
  split <;> simp

@[simp] theorem eventAt_unfired (code source stamp : Nat) (args : List Byte) (s : State) :
    unfired (eventAt code source stamp args s) = unfired s := by
  simp [unfired]

@[simp] theorem sendSymp_unfired (lat : Nat) (payload : List Byte) (s : State) : unfired (sendSymp lat payload s) = unfired s := by
  unfold sendSymp
  split <;> simp [unfired]

@[simp] theorem takeRequest_unfired (group lat : Nat) (q : Merge) (s : State) : unfired (takeRequest group lat q s) = unfired s := by
  unfold takeRequest
  split <;> rfl

@[simp] theorem sendGroup_unfired (group time sub cond comb lat : Nat) (command : Bool) (s : State) :
    unfired (sendGroup group time sub cond comb lat command s) = unfired s := by
  unfold sendGroup
  extract_lets hub unlocked arb t _ u own taken _ v
  have sent : unfired t = unfired s := sendSymp_unfired ..
  have numbered : unfired u = unfired s := by
    rw [← sent]
    simp only [u]
    split <;> rfl
  have asked : unfired v = unfired s := numbered
  (repeat' split) <;> simp [numbered, asked]

@[simp] theorem tripOutput_unfired (lat : Nat) (s : State) (n : Nat) : unfired (tripOutput lat s n) = unfired s := by
  simp only [tripOutput]
  split
  · exact eventAt_unfired ..
  · rfl

@[simp] theorem tripOutputs_unfired (comb lat : Nat) (s : State) : unfired (tripOutputs comb lat s) = unfired s := by
  unfold tripOutputs
  split
  · rfl
  · exact unfired_foldl _ (fun t n => tripOutput_unfired lat t n) _ _

/-- A firing passed on is noted at its combination, and leaves those parts as they are otherwise (R241). -/
theorem passOn_unfired (c cond time sub lat : Nat) (s : State) :
    unfired (passOn c cond time sub lat s) = unfired (putComb c { combAt s c with lastFire := some time, heldSince := 0 } s) := by
  unfold passOn
  extract_lets k r s1 s2 s3
  have units : unfired s1 = unfired (putComb c { combAt s c with lastFire := some time, heldSince := 0 } s) := toUnits_unfired ..
  have events : unfired s2 = unfired s1 := by
    simp only [s2]
    split <;> simp
  have groups : unfired s3 = unfired s2 := by
    simp only [s3]
    split <;> simp
  rw [tripOutputs_unfired, groups, events, units]

/-! ### Combinations -/

@[simp] theorem combAt_putComb (c : Nat) (r : CombRun) (s : State) : combAt (putComb c r s) c = r := by simp [combAt, putComb]

@[simp] theorem combAt_putComb_other {c d : Nat} (r : CombRun) (s : State) (other : d ≠ c) :
    combAt (putComb c r s) d = combAt s d := by simp [combAt, putComb, other]

@[simp] theorem putComb_putComb (c : Nat) (r q : CombRun) (s : State) : putComb c q (putComb c r s) = putComb c q s := by
  simp [putComb]

@[simp] theorem condAt_putCond (i : Nat) (r : CondRun) (s : State) : condAt (putCond i r s) i = r := by simp [condAt, putCond]

/-- The one term that counts is the one the combination takes (R240). -/
theorem anchorTerm_counted_singleton (k : CombSet) (t : Nat) (x : Term) : anchorTerm k x (counted k t [x]) = x := by
  by_cases near : (stampDiff (stampOf x.time) (stampOf t)).natAbs ≤ 1000 * k.w <;> simp [counted, anchorTerm, near]

/-- A combination in mode ANY, without holdoff and with nothing stored (R240, R241). -/
structure FiresAtOnce (c : Nat) (s : State) : Prop where
  any : (combSetAt s.live c).mode = 0
  noHoldoff : (combSetAt s.live c).holdoff = 0
  noTerms : (combAt s c).terms = []

theorem fireComb_of_no_holdoff {c : Nat} (cond lat : Nat) (x : Term) {s : State} (noHoldoff : (combSetAt s.live c).holdoff = 0) :
    fireComb c cond lat x s = passOn c cond x.time x.sub lat (putComb c { combAt s c with terms := [] } s) := by
  unfold fireComb
  cases fired : (combAt s c).lastFire <;> simp [fired, noHoldoff]

/-- An activation fires such a combination at once, at the activation's time. -/
theorem activate_fires {i c : Nat} (time sub lat : Nat) {s : State} (own : (condSetAt s.live i).comb = c) (ready : FiresAtOnce c s) :
    activate i time sub lat s = passOn c i time sub lat (putComb c { combAt s c with terms := [] } s) := by
  obtain ⟨any, noHoldoff, noTerms⟩ := ready
  have live (r : CombRun) : (putComb c r s).live = s.live := rfl
  simp only [activate, own, noTerms, List.filter_nil, List.nil_append, anchorTerm_counted_singleton]
  rw [if_pos (by simp [combFires, any]), fireComb_of_no_holdoff _ _ _ (by rw [live, noHoldoff])]
  simp

theorem activate_unfired {i c : Nat} (time sub lat : Nat) {s : State} (own : (condSetAt s.live i).comb = c) (ready : FiresAtOnce c s) :
    unfired (activate i time sub lat s) =
      unfired (putComb c { combAt s c with terms := [], lastFire := some time, heldSince := 0 } s) := by
  rw [activate_fires time sub lat own ready, passOn_unfired]
  simp

theorem condAt_congr {s t : State} (h : t.trig.conds = s.trig.conds) (i : Nat) : condAt t i = condAt s i := by rw [condAt, condAt, h]

theorem combAt_congr {s t : State} (h : t.trig.combs = s.trig.combs) (c : Nat) : combAt t c = combAt s c := by rw [combAt, combAt, h]

theorem FiresAtOnce.congr {c : Nat} {s t : State} (ready : FiresAtOnce c s) (live : t.live = s.live) (combs : t.trig.combs = s.trig.combs) :
    FiresAtOnce c t :=
  ⟨by rw [live, ready.any], by rw [live, ready.noHoldoff], by rw [combAt_congr combs, ready.noTerms]⟩

/-- An entry that activates with its memory as `r`, where its combination fires at once: the combination has fired at the activation's
time and stores nothing, the entry holds `r`, and nothing else of these parts has changed. -/
theorem activate_putCond {i c time sub lat : Nat} {r : CondRun} {s t : State} (is : activate i time sub lat (putCond i r s) = t)
    (own : (condSetAt s.live i).comb = c) (ready : FiresAtOnce c s) :
      (combAt t c).lastFire = some time ∧ (combAt t c).terms = [] ∧ condAt t i = r ∧ t.time = s.time ∧ t.loc.gpio = s.loc.gpio ∧
      t.trig.flight = s.trig.flight ∧ t.cfg = s.cfg ∧ t.live = s.live ∧ t.streams = s.streams ∧ t.boot = s.boot := by
  subst is
  have same := activate_unfired time sub lat (s := putCond i r s) own (ready.congr rfl rfl)
  refine ⟨?_, ?_, ?_, congrArg Unfired.time same, congrArg Unfired.gpio same, congrArg Unfired.flight same, congrArg Unfired.cfg same,
    congrArg Unfired.live same, congrArg Unfired.streams same, congrArg Unfired.boot same⟩
  · rw [combAt_congr (congrArg Unfired.combs same), combAt_putComb]
  · rw [combAt_congr (congrArg Unfired.combs same), combAt_putComb]
  · exact (condAt_congr (congrArg Unfired.conds same) i).trans (condAt_putCond i r s)

/-! ### Words -/

theorem watching_congr {s t : State} (h : t.live = s.live) (src : Chan) : watching t src = watching s src := by
  rw [watching, watching, h]

/-- The state in which the first word on its way has arrived. -/
def wordArrived (w : TrigWord) (s : State) : State := toInstant w.arrive { s with trig.flight := dropWord w s.trig.flight }

theorem exec_triggerWordArrival {w : TrigWord} {s : State} (first : firstWord s.trig.flight = some w) :
    exec .triggerWordArrival s = .next ((watching s w.src).foldl (takeWord w) (wordArrived w s)) := by
  have watched : watching (wordArrived w s) w.src = watching s w.src := watching_congr (by simp [wordArrived]) _
  refine congrArg Host.Outcome.next ?_
  rw [← watched]
  simp only [onWord, first]
  rfl

@[simp] theorem wordArrived_rest (w : TrigWord) (s : State) :
    (wordArrived w s).cfg = s.cfg ∧ (wordArrived w s).live = s.live ∧ (wordArrived w s).streams = s.streams ∧
    (wordArrived w s).boot = s.boot ∧ (wordArrived w s).trig = { s.trig with flight := dropWord w s.trig.flight } := by
  simp [wordArrived]

theorem wordArrived_time (w : TrigWord) (s : State) : (wordArrived w s).time = (toInstant w.arrive s).time := by
  unfold wordArrived toInstant
  split <;> rfl

/-- A valid word that crosses the bound of an armed RISE entry activates it at the crossing, and disarms it (R234, R236, R238). -/
theorem evalWord_rise {e : CondSet} {r : CondRun} {w : TrigWord} {xa : Int} {ta : Nat} (kind : e.kind = 1) (armed : r.riseArmed = true)
    (before : r.prev = some (xa, ta)) (valid : bitOf w.tags tagValid = true) (settled : bitOf w.tags tagSettling = false)
    (below : xa < e.a) (reached : e.a ≤ w.x) : evalWord e r w =
      ({ r with riseArmed := false, prev := some (w.x, w.inst) }, some (crossing e.a xa w.x ta w.inst)) := by
  simp [evalWord, mainHalf, riseHalf, nextArmed, halfTime, kind, armed, before, valid, settled, below, reached]

theorem takeWord_fires {e : CondSet} {i : Nat} {act : Nat × Nat} {r : CondRun} {w : TrigWord} {s : State}
    (fires : evalWord e (condAt s i) w = (r, some act)) : takeWord w s (i, e) = activate i act.1 act.2 9 (putCond i r s) := by
  simp only [takeWord, fires]

/-! ### Edges -/

/-- The state with an input's level as the edge leaves it. -/
def edgeSeen (pin : Nat) (level : Bool) (s : State) : State := { s with loc.gpio := putBit s.loc.gpio pin level }

theorem exec_gpioEdge_ignored {pin : Nat} {level : Bool} {s : State}
    (still : bitOf s.loc.gpio pin = level ∨ bitOf s.live.gpio.dir pin = true) :
    exec (.gpioEdge pin level) s = .next (edgeSeen pin level s) :=
  congrArg Host.Outcome.next (if_pos still)

theorem exec_gpioEdge_input {pin : Nat} {level : Bool} {s : State} (turns : bitOf s.loc.gpio pin = !level)
    (input : bitOf s.live.gpio.dir pin = false) : exec (.gpioEdge pin level) s =
      .next (((watching s ⟨.gpio, pin⟩).filter (fun e => decide (e.2.kind = 8))).foldl (takeEdge level) (edgeSeen pin level s)) :=
  congrArg Host.Outcome.next (if_neg (by simp [turns, input]))

/-- The edge that an armed EDGE entry selects activates it at once, and disarms it (R236). -/
theorem takeEdge_fires {e : CondSet} {i : Nat} {level : Bool} {s : State} (selected : e.a % 2 = (b2n (!level) : Int))
    (armed : (condAt s i).riseArmed = true) :
    takeEdge level s (i, e) = activate i (nowNs s) 0 11 (putCond i { condAt s i with riseArmed := false } s) := by
  simp only [takeEdge, selected, armed, decide_true, if_true]

/-! ### Terms that leave -/

/-- The time of the oldest of several terms. -/
def oldestTime (x : Term) (xs : List Term) : Nat := xs.foldl (fun m y => min m y.time) x.time

theorem oldestTime_spec (x : Term) (xs : List Term) :
    (∃ z ∈ x :: xs, z.time = oldestTime x xs) ∧ ∀ y ∈ x :: xs, oldestTime x xs ≤ y.time := by
  have least : ((x :: xs).map (·.time)).min? = some (oldestTime x xs) := by
    rw [List.map_cons, List.min?_cons', List.foldl_map, oldestTime]
  obtain ⟨listed, below⟩ := List.min?_eq_some_iff.mp least
  exact ⟨List.mem_map.mp listed, fun y there => below _ (List.mem_map_of_mem there)⟩

/-- The state 2 s after the oldest of a combination's terms. -/
def termsAged (x : Term) (xs : List Term) (s : State) : State := toInstant (2 * (oldestTime x xs + 2000000000)) s

/-- A combination without the terms that are 2 s old (R240). -/
def dropOldTerms (c : Nat) (s : State) : State :=
  putComb c { combAt s c with terms := (combAt s c).terms.filter (fun y => decide (nowNs s < y.time + 2000000000)) } s

@[simp] theorem dropOldTerms_rest (c : Nat) (s : State) :
    (dropOldTerms c s).time = s.time ∧ (dropOldTerms c s).cfg = s.cfg ∧ (dropOldTerms c s).live = s.live ∧
    (dropOldTerms c s).streams = s.streams ∧ (dropOldTerms c s).boot = s.boot := by
  simp [dropOldTerms, putComb]

theorem combAt_dropOldTerms (c : Nat) (s : State) : (combAt (dropOldTerms c s) c).terms =
    (combAt s c).terms.filter (fun y => decide (nowNs (dropOldTerms c s) < y.time + 2000000000)) := by
  have now : nowNs (dropOldTerms c s) = nowNs s := by simp [nowNs]
  rw [now, dropOldTerms, combAt_putComb]

theorem combAt_dropOldTerms_other {c d : Nat} (s : State) (other : d ≠ c) : combAt (dropOldTerms c s) d = combAt s d :=
  combAt_putComb_other _ _ other

theorem exec_termExpiry {c : Nat} {x : Term} {xs : List Term} {s : State} (held : (combAt s c).terms = x :: xs) :
    exec (.termExpiry c) s = .next (dropOldTerms c (termsAged x xs s)) := by
  refine congrArg Host.Outcome.next ?_
  simp only [onTermExpiry, held]
  rfl

/-! ### The statement -/

/-- Settles O32: an activation of an entry whose combination has nothing to wait for fires it at once, and what follows the firing
leaves time, settings, entries and combinations as they are. -/
theorem triggerUnitFires : Obligations.TriggerUnitFires := by
  refine ⟨fun w s first unwatched => ?_,
    fun w i ta xa e s first watched entry kind armed before valid settled below reached any noHoldoff noTerms => ?_,
    fun pin level s still => exec_gpioEdge_ignored still,
    fun pin i level e s turns input watched entry kind selected armed any noHoldoff noTerms => ?_, fun c x xs s held => ?_⟩
  · rw [exec_triggerWordArrival first, unwatched]
    rfl
  · have fires := evalWord_rise kind armed before valid settled below reached
    have conds : condAt (wordArrived w s) i = condAt s i := condAt_congr (by simp) i
    have ready : FiresAtOnce e.comb (wordArrived w s) := FiresAtOnce.congr ⟨any, noHoldoff, noTerms⟩ (by simp) (by simp)
    refine ⟨_, exec_triggerWordArrival first, ?_⟩
    rw [watched, List.foldl_cons, List.foldl_nil, takeWord_fires (conds ▸ fires)]
    obtain ⟨fired, stored, memory, time, -, flight, cfg, live, streams, boot⟩ := activate_putCond (i := i) rfl (by simp [entry]) ready
    exact ⟨fired, stored, memory.trans (by rw [conds]), time.trans (wordArrived_time w s), flight.trans (by simp), cfg.trans (by simp),
      live.trans (by simp), streams.trans (by simp), boot.trans (by simp)⟩
  · have only : (watching s ⟨.gpio, pin⟩).filter (fun e => decide (e.2.kind = 8)) = [(i, e)] := by simp [watched, kind]
    have ready : FiresAtOnce e.comb (edgeSeen pin level s) := FiresAtOnce.congr ⟨any, noHoldoff, noTerms⟩ rfl rfl
    refine ⟨_, exec_gpioEdge_input turns input, ?_⟩
    rw [only, List.foldl_cons, List.foldl_nil, takeEdge_fires (s := edgeSeen pin level s) selected armed]
    obtain ⟨fired, -, memory, time, gpio, -, cfg, live, streams, boot⟩ :=
      activate_putCond (s := edgeSeen pin level s) rfl (congrArg CondSet.comb entry) ready
    exact ⟨fired, congrArg CondRun.riseArmed memory, gpio, time, cfg, live, streams, boot⟩
  · have trig : (termsAged x xs s).trig = s.trig := by simp [termsAged]
    have terms : combAt (termsAged x xs s) c = combAt s c := combAt_congr (by rw [trig]) c
    obtain ⟨⟨z, listed, oldest⟩, least⟩ := oldestTime_spec x xs
    refine ⟨_, exec_termExpiry held, ?_, fun y there => ?_, fun d _ other => ?_, ?_⟩
    · rw [combAt_dropOldTerms, terms, held]
    · rcases Nat.eq_or_lt_of_le (least y there) with same | older
      · exact .inl (by simp [termsAged, same])
      · exact .inr ⟨z, listed, oldest ▸ older⟩
    · rw [combAt_dropOldTerms_other _ other]
      exact combAt_congr (by rw [trig]) d
    · simp [termsAged]

end Sys2Proof.Machine
end

section
/-! A merge window's end of a group that does not exist. The statement bounds the group of a received TRIGGER but not that of a merge
window; there are sixteen groups (R242), and the SOURCE code that a group 16 would have, 0x20, is that of CHAIN. Units of that code take
hand-offs (R253), so one of them can have started on another trigger by the time the window's TRIGGER reaches it. -/

namespace Sys2Proof.Machine

/-- A combiner's trigger of 2 ns, which reaches its unit in the CCLK in which a merge window that ends now sends its TRIGGER. -/
def rivalTrigger : Trigger :=
  { time := 2, sub := 0, src := 0, status := 0, origin := 0, cond := 0, comb := 0, merged := 1, reach := 56 }

/-- Unit 0 captures on the rival trigger under POLICY 2 and hands off to unit 1, which is ARMED; both have SOURCE CHAIN. The arbiter's
merge window of group 16 ends, led by a request of 1 ns. -/
def chainedAtMergeEnd : State :=
  { State.reset with
    ring.arbiter.held := true
    fret.acquiring := true
    live.units := [(0, { unitSet0 with source := 0x20, policy := 2, chainMask := 2 }), (1, { unitSet0 with source := 0x20 })]
    trig.units := [(0, { unitRun0 with
        state := .capturing
        cap := some { trig := rivalTrigger, first := 0, last := 0, lead := 0, bf := 0, status := 0, cut := none, endNs := 0, era := 0 } }),
      (1, { unitRun0 with state := .armed })]
    trig.merges := [(16, some { endAt := 0, time := 1, sub := 0, hub := 0, comb := 0, count := 1, seq := 0, unlocked := false
                                command := false })] }

/-- The TRIGGER, the earlier of the two that reach unit 0 in one CCLK, takes that unit; the rival is handed off to unit 1, which stays with
it when the TRIGGER reaches it (R253). -/
theorem mergeEnd_unit1_takes_rival :
    (unitAt (onMergeEnd 16 chainedAtMergeEnd) 1).cap.map (fun k => (k.trig.time, k.trig.merged)) = some (2, 1) := by decide +kernel

/-- Refutes O33: at the end of a merge window of group 16, an ARMED unit of SOURCE 0x20 starts on a trigger handed off to it, of 2 ns, and
not on the leading request's, of 1 ns. -/
theorem not_sympatheticTriggers : ¬ Obligations.SympatheticTriggers := by
  unfold Obligations.SympatheticTriggers
  rintro ⟨-, -, -, mergeEnds, -⟩
  obtain ⟨t, run, -, -, starts, -⟩ := mergeEnds 16 _ chainedAtMergeEnd rfl rfl
  cases run
  obtain ⟨-, leading⟩ := starts 1 (by decide) ⟨rfl, rfl, rfl⟩
  exact absurd (mergeEnd_unit1_takes_rival.symm.trans leading) (by decide)

end Sys2Proof.Machine
end

section
/-! Closing a record of a stream (R81, R203, R222, R296, R325): what its page, its delivery and its frames leave as it is, and the number
it takes. -/

namespace Sys2Proof.Machine

/-- The parts that writing and delivering a record leave as they are, with the number that each stream's next record takes. -/
structure Unclosed where
  time : TimeUnit
  cfg : Settings
  live : Settings
  fret : FretMachine
  trig : Triggers
  red : Reduction
  boot : Boot
  numbers : Nat → Nat

def unclosed (s : State) : Unclosed :=
  { time := s.time, cfg := s.cfg, live := s.live, fret := s.fret, trig := s.trig, red := s.red, boot := s.boot
    numbers := fun n => (streamAt s n).nextSeq }

/-- The numbers with that of stream `n` as `k`. -/
def withNumber (n k : Nat) (f : Nat → Nat) : Nat → Nat := fun m => if m = n then k else f m

theorem withNumber_self (n : Nat) (f : Nat → Nat) : withNumber n (f n) f = f := by
  funext m
  by_cases same : m = n
  · rw [withNumber, if_pos same, same]
  · rw [withNumber, if_neg same]

/-- Stream `n` has given the next number to a record. -/
def Unclosed.numbered (n : Nat) (x : Unclosed) : Unclosed := { x with numbers := withNumber n (x.numbers n + 1) x.numbers }

theorem putStream_unclosed (n : Nat) (c : StreamCtx) (s : State) : unclosed (putStream n c s) =
    { unclosed s with numbers := withNumber n c.nextSeq (unclosed s).numbers } := by
  have numbers : (unclosed (putStream n c s)).numbers = withNumber n c.nextSeq (unclosed s).numbers := by
    funext m
    by_cases same : m = n
    · rw [withNumber, if_pos same, same]
      exact congrArg StreamCtx.nextSeq (tget_tput_same ..)
    · rw [withNumber, if_neg same]
      exact congrArg StreamCtx.nextSeq (tget_tput_other _ _ _ _ _ same)
  rw [← numbers]
  rfl

theorem putStream_unclosed_same {n : Nat} {c : StreamCtx} {s : State} (keeps : c.nextSeq = (streamAt s n).nextSeq) :
    unclosed (putStream n c s) = unclosed s := by
  rw [putStream_unclosed, keeps]
  exact congrArg (fun f => { unclosed s with numbers := f }) (withNumber_self n (unclosed s).numbers)

theorem nextSeq_congr {s t : State} (same : unclosed t = unclosed s) (n : Nat) : (streamAt t n).nextSeq = (streamAt s n).nextSeq :=
  congrFun (congrArg Unclosed.numbers same) n

/-! ### Pages -/

theorem nextSeq_map {f : StreamCtx → StreamCtx} (keeps : ∀ c, (f c).nextSeq = c.nextSeq) (n : Nat) : ∀ t : Table StreamCtx,
    (tget streamCtx0 (t.map (fun e => (e.1, f e.2))) n).nextSeq = (tget streamCtx0 t n).nextSeq
  | [] => rfl
  | e :: t => by
    by_cases found : e.1 = n
    · simp [tget, found, keeps]
    · simpa [tget, found] using nextSeq_map keeps n t

theorem passGone_nextSeq (c : StreamCtx) : (passGone c).nextSeq = c.nextSeq := by
  unfold passGone
  (repeat' split) <;> rfl

theorem passGoneRing_nextSeq (c : StreamCtx) : (passGoneRing c).nextSeq = c.nextSeq := by
  unfold passGoneRing
  (repeat' split) <;> rfl

theorem dropPage_nextSeq (no : Nat) (c : StreamCtx) : (dropPage no c).nextSeq = c.nextSeq :=
  (passGoneRing_nextSeq _).trans (passGone_nextSeq _)

@[simp] theorem freePage_unclosed (p : Page) (s : State) : unclosed (freePage p s) = unclosed s := by
  simp [unclosed, freePage, streamAt, nextSeq_map (dropPage_nextSeq p.no)]

@[simp] theorem makeRoom_unclosed (s : State) : unclosed (makeRoom s) = unclosed s := by
  unfold makeRoom
  (repeat' split) <;> simp

@[simp] theorem writeSlice_unclosed (lane fret era n : Nat) (s : State) :
    unclosed (writeSlice lane fret era n s).1 = unclosed s := by
  cases opened : openPage s lane fret era n with
  | some p => simp only [writeSlice, opened]; rfl
  | none =>
    simp only [writeSlice, opened]
    exact makeRoom_unclosed s

@[simp] theorem writeRecord_unclosed (fret : Nat) (sizes : List Nat) (s : State) :
    unclosed (writeRecord fret sizes s).1 = unclosed s := by
  have writes (l : List Nat) (acc : State × List Slice) : unclosed (l.foldl (fun acc n =>
      let w := writeSlice laneStream fret acc.1.hist.era n acc.1; (w.1, acc.2 ++ [w.2])) acc).1 = unclosed acc.1 := by
    induction l generalizing acc with
    | nil => rfl
    | cons n l ih => rw [List.foldl_cons, ih, writeSlice_unclosed]
  exact writes sizes (s, [])

/-! ### Delivery -/

@[simp] theorem ringWrite_unclosed (r n : Nat) (item : RingItem) (s : State) : unclosed (ringWrite r n item s) = unclosed s := by
  simp [unclosed, streamAt]

theorem hostDeliver_unclosed (n : Nat) : ∀ (fuel : Nat) (s : State), unclosed (hostDeliver n fuel s) = unclosed s
  | 0, _ => rfl
  | fuel + 1, s => by
    simp only [hostDeliver]
    split
    · rename_i ring x _ _
      split
      · rfl
      · split
        · have written := ringWrite_unclosed ring (recordLen x.rcd) (.record (recordBytes x.rcd)) s
          exact (hostDeliver_unclosed n fuel _).trans ((putStream_unclosed_same (by exact (nextSeq_congr written n).symm)).trans
            written)
        · exact (putStream_unclosed_same (by rfl)).trans (by rfl)
    · rfl

@[simp] theorem sendJorva_unclosed (cls p delay : Nat) (dst : Option Nat) (frag : Nat) (last : Bool) (msg : WireMsg) (s : State) :
    unclosed (sendJorva cls p delay dst frag last msg s) = unclosed s := by
  simp [unclosed, streamAt]

@[simp] theorem sendFrags_unclosed (cls : Nat) (dst : Option Nat) (held : Bool) (delay : Nat) (r : Record) :
    ∀ (bs : List (List Byte)) (i : Nat) (s : State), unclosed (sendFrags cls dst held delay r i bs s) = unclosed s
  | [], _, _ => rfl
  | b :: bs, i, s => by rw [sendFrags, sendFrags_unclosed cls dst held delay r bs, sendJorva_unclosed]

@[simp] theorem sendRing_unclosed (c : StreamCtx) (r : Record) (s : State) : unclosed (sendRing c r s) = unclosed s := by
  unfold sendRing
  split
  · rfl
  · exact sendFrags_unclosed ..

@[simp] theorem settleRing_unclosed (n : Nat) (s : State) : unclosed (settleRing n s) = unclosed s := by
  simp only [settleRing]
  split
  · exact putStream_unclosed_same (by rfl)
  · rfl

theorem ringDeliver_unclosed (n : Nat) : ∀ (fuel : Nat) (s : State), unclosed (ringDeliver n fuel s) = unclosed s
  | 0, _ => rfl
  | fuel + 1, s => by
    simp only [ringDeliver]
    split
    · split
      · rfl
      · split
        · exact (ringDeliver_unclosed n fuel _).trans ((settleRing_unclosed ..).trans
            ((putStream_unclosed_same (by rfl)).trans (sendRing_unclosed ..)))
        · exact (putStream_unclosed_same (by rfl)).trans (sendRing_unclosed ..)
    · rfl

@[simp] theorem keepAndDeliver_unclosed (n : Nat) (x : Stored) (s : State) : unclosed (keepAndDeliver n x s) = unclosed s := by
  simp only [keepAndDeliver, deliver]
  rw [ringDeliver_unclosed, hostDeliver_unclosed]
  exact putStream_unclosed_same (by rfl)

/-! ### Closes -/

theorem putStream_numbered {n : Nat} {c : StreamCtx} {s : State} (next : c.nextSeq = (streamAt s n).nextSeq + 1) :
    unclosed (putStream n c s) = (unclosed s).numbered n := by
  rw [putStream_unclosed, next]
  rfl

theorem closeWhole_unclosed (n type stamp fret flags : Nat) (blocks : List Block) (s : State) :
    unclosed (closeWhole n type stamp fret flags blocks s) = (unclosed s).numbered n := by
  simp only [closeWhole, closeInto]
  rw [keepAndDeliver_unclosed, writeRecord_unclosed]
  exact putStream_numbered (by rfl)

@[simp] theorem markPoisoned_unclosed (addr : Nat) (s : State) : unclosed (markPoisoned addr s) = unclosed s := by
  simp only [markPoisoned]
  (repeat' split) <;> simp [unclosed, streamAt]

@[simp] theorem ueRead_unclosed (req addr syndrome : Nat) (s : State) : unclosed (ueRead req addr syndrome s) = unclosed s := by
  unfold ueRead
  split
  · rfl
  · rw [markPoisoned_unclosed]
    simp [unclosed, streamAt]

/-- A derived record, or the LOST_RANGE in its place, takes the next number of a stream that has started; no other stream numbers one
(R219, R225). -/
theorem closeDerived_unclosed (ue : Option Nat) (n type stamp fret : Nat) (blocks : List Block) (s : State) :
    unclosed (closeDerived ue n type stamp fret blocks s) =
      if (streamAt s n).started then (unclosed s).numbered n else unclosed s := by
  cases started : (streamAt s n).started with
  | false => simp [closeDerived, started]
  | true =>
    simp only [closeDerived, started, Bool.not_true, Bool.false_eq_true, if_false, if_true]
    split
    · exact closeWhole_unclosed ..
    · rw [keepAndDeliver_unclosed, writeRecord_unclosed]
      exact (putStream_numbered (by rfl)).trans (congrArg (Unclosed.numbered n) (ueRead_unclosed ..))

end Sys2Proof.Machine
end

section
/-! Records of the reduction engine, and its self-test (R268 to R289). -/

namespace Sys2Proof.Machine

/-! ### Sets, written and read -/

@[simp] theorem statsAt_putStats (n : Nat) (r : StatsRun) (s : State) : statsAt (putStats n r s) n = r := by simp [statsAt, putStats]

@[simp] theorem statsAt_putStats_other {n k : Nat} (r : StatsRun) (s : State) (other : k ≠ n) :
    statsAt (putStats n r s) k = statsAt s k := by simp [statsAt, putStats, other]

@[simp] theorem rainAt_putRain (n : Nat) (r : RainSetRun) (s : State) : rainAt (putRain n r s) n = r := by simp [rainAt, putRain]

@[simp] theorem rainAt_putRain_other {n k : Nat} (r : RainSetRun) (s : State) (other : k ≠ n) :
    rainAt (putRain n r s) k = rainAt s k := by simp [rainAt, putRain, other]

@[simp] theorem specAt_putSpec (n : Nat) (r : SpecRun) (s : State) : specAt (putSpec n r s) n = r := by simp [specAt, putSpec]

@[simp] theorem specAt_putSpec_other {n k : Nat} (r : SpecRun) (s : State) (other : k ≠ n) :
    specAt (putSpec n r s) k = specAt s k := by simp [specAt, putSpec, other]

/-- Sets read the same in states that hold the same reductions. -/
theorem statsAt_congr {s t : State} (h : t.red = s.red) (n : Nat) : statsAt t n = statsAt s n := by rw [statsAt, statsAt, h]

theorem rainAt_congr {s t : State} (h : t.red = s.red) (n : Nat) : rainAt t n = rainAt s n := by rw [rainAt, rainAt, h]

theorem specAt_congr {s t : State} (h : t.red = s.red) (n : Nat) : specAt t n = specAt s n := by rw [specAt, specAt, h]

/-! ### Closes of a set's interval -/

/-- `u` differs from `s` in none of what the close of a record leaves as it is, nor in its streams. -/
structure Stands (s u : State) : Prop where
  streams : u.streams = s.streams
  cfg : u.cfg = s.cfg
  live : u.live = s.live
  fret : u.fret = s.fret
  trig : u.trig = s.trig
  boot : u.boot = s.boot

theorem Stands.withRed {s u : State} (stands : Stands s u) (x : Reduction) : Stands s { u with red := x } :=
  ⟨stands.streams, stands.cfg, stands.live, stands.fret, stands.trig, stands.boot⟩

/-- Where a record is due, time has passed and nothing else has happened (R288). -/
theorem derivedDue_rest {delay : Nat} {e : Ending} {s v : State} (due : derivedDue delay e s = some v) :
    v.red = s.red ∧ Stands s v := by
  unfold derivedDue at due
  (repeat' split at due) <;> cases due <;> refine ⟨?_, ?_, ?_, ?_, ?_, ?_, ?_⟩ <;> simp

/-- `t` is `u` after the close of a set's record into stream `k`: where the stream carries the set, and has started, the record takes its
next number. -/
def ClosedInto (type set k : Nat) (u t : State) : Prop :=
  unclosed t = if redStream u type set k && (streamAt u k).started then (unclosed u).numbered k else unclosed u

theorem closedInto_closeDerived {type set k : Nat} (ue : Option Nat) (stamp fret : Nat) (blocks : List Block) (u : State) :
    ClosedInto type set k u (if redStream u type set k then closeDerived ue k type stamp fret blocks u else u) := by
  unfold ClosedInto
  cases carries : redStream u type set k with
  | false => rfl
  | true => exact closeDerived_unclosed ..

/-- The close of a record moves neither time nor a set. -/
theorem ClosedInto.rest {type set k : Nat} {u t : State} (closed : ClosedInto type set k u t) :
    t.time = u.time ∧ t.red = u.red ∧ t.cfg = u.cfg ∧ t.live = u.live ∧ t.fret = u.fret ∧ t.trig = u.trig ∧
    t.boot = u.boot := by
  have part {α : Type} (f : Unclosed → α) (same : f ((unclosed u).numbered k) = f (unclosed u)) :
      f (unclosed t) = f (unclosed u) := by
    rw [closed]
    split
    · exact same
    · rfl
  exact ⟨part Unclosed.time rfl, part Unclosed.red rfl, part Unclosed.cfg rfl, part Unclosed.live rfl, part Unclosed.fret rfl,
    part Unclosed.trig rfl, part Unclosed.boot rfl⟩

theorem ClosedInto.nextSeq {type set k : Nat} {u t : State} (closed : ClosedInto type set k u t)
    (carries : redStream u type set k = true) (started : (streamAt u k).started = true) :
    (streamAt t k).nextSeq = (streamAt u k).nextSeq + 1 := by
  have numbers := congrFun (congrArg Unclosed.numbers closed) k
  rw [carries, started] at numbers
  exact numbers.trans (if_pos rfl)

/-- What the close of a record does to its stream, and leaves of `s`, where the state before it stands as `s`. -/
theorem ClosedInto.of_stands {type set k : Nat} {s u t : State} (closed : ClosedInto type set k u t) (stands : Stands s u) :
    (redStream s type set k = true → (streamAt s k).started = true → (streamAt t k).nextSeq = (streamAt s k).nextSeq + 1) ∧
      t.cfg = s.cfg ∧ t.live = s.live ∧ t.fret = s.fret ∧ t.trig = s.trig ∧ t.boot = s.boot := by
  obtain ⟨streams, cfg', live', fret', trig', boot'⟩ := stands
  obtain ⟨-, -, cfg, live, fret, trig, boot⟩ := closed.rest
  have stream : streamAt u k = streamAt s k := by rw [streamAt, streamAt, streams]
  refine ⟨fun carries started => ?_, cfg.trans cfg', live.trans live', fret.trans fret', trig.trans trig', boot.trans boot'⟩
  rw [← stream]
  exact closed.nextSeq (by rw [redStream, stream]; exact carries) (by rw [stream]; exact started)

/-- The oldest interval of a statistics set, when it is due (R271). -/
theorem onStatsClose_closed {n : Nat} {o : StatsOpen} {rest : List StatsOpen} {s v : State} (ue : Option Nat)
    (opened : (statsAt s n).opened = o :: rest) (due : derivedDue 1 o.ending s = some v) :
    ClosedInto tyStats n o.set.stream (putStats n { statsAt v n with opened := rest } v) (onStatsClose n ue s) := by
  simp only [onStatsClose, opened, due]
  exact closedInto_closeDerived ..

theorem atPos_sets (i : Nat) (f : RainChanP → RainRun → RainAcc → RainRun × RainAcc) (q : RainSetRun) (o : RainOpen) :
    (atPos i f q o).1.opened = q.opened ∧ (atPos i f q o).1.set = q.set := by
  unfold atPos
  split <;> exact ⟨rfl, rfl⟩

/-- The end of an interval's channels changes their memories alone. -/
theorem sealAll_sets (q : RainSetRun) (o : RainOpen) : (sealAll q o).1.opened = q.opened ∧ (sealAll q o).1.set = q.set := by
  have seals (l : List Nat) (a : RainSetRun × RainOpen) :
      (l.foldl (fun a i => atPos i sealRain a.1 a.2) a).1.opened = a.1.opened ∧
      (l.foldl (fun a i => atPos i sealRain a.1 a.2) a).1.set = a.1.set := by
    induction l generalizing a with
    | nil => exact ⟨rfl, rfl⟩
    | cons i l ih =>
      obtain ⟨opened, set⟩ := atPos_sets i sealRain a.1 a.2
      exact ⟨(ih _).1.trans opened, (ih _).2.trans set⟩
  exact seals _ (q, o)

/-- A rainflow set as its oldest interval leaves it, and the interval as its record reports it (R274, R289). -/
def rainClosed (n : Nat) (o : RainOpen) (rest : List RainOpen) (v : State) : RainSetRun × RainOpen :=
  unlessFailed v (sealAll { rainAt v n with opened := rest } o) ({ rainAt v n with opened := rest }, { o with acc := [] })

theorem rainClosed_sets (n : Nat) (o : RainOpen) (rest : List RainOpen) (v : State) :
    (rainClosed n o rest v).1.opened = rest ∧ (rainClosed n o rest v).1.set = (rainAt v n).set := by
  unfold rainClosed unlessFailed
  split
  · exact ⟨rfl, rfl⟩
  · exact sealAll_sets ..

/-- The oldest interval of a rainflow set, when it is due (R275). -/
theorem onRainClose_closed {n : Nat} {o : RainOpen} {rest : List RainOpen} {s v : State} (ue : Option Nat)
    (opened : (rainAt s n).opened = o :: rest) (due : derivedDue (rainDelay s.live o.set) o.ending s = some v) :
    ClosedInto tyRain n o.set.stream (putRain n (rainClosed n o rest v).1 v) (onRainClose n ue s) := by
  simp only [onRainClose, opened, due]
  exact closedInto_closeDerived ..

/-- The oldest average of a spectral set, when it is due (R280). -/
theorem onSpecClose_closed {n : Nat} {o : SpecOpen} {rest : List SpecOpen} {s v : State} (ue : Option Nat)
    (opened : (specAt s n).opened = o :: rest) (due : derivedDue (specDelay s.live) o.ending s = some v) :
    ClosedInto tySpec n o.set.stream (putSpec n { specAt v n with opened := rest } v) (onSpecClose n ue s) := by
  simp only [onSpecClose, opened, due]
  unfold ClosedInto
  cases carries : redStream (putSpec n { specAt v n with opened := rest } v) tySpec n o.set.stream with
  | false => rfl
  | true => exact closeDerived_unclosed ..

/-! ### The self-test -/

/-- Alarms other than those of a full egress reserve, which a completion that leaves by the ring can raise (R323, R336). -/
def ownAlarms (s : State) : List (Nat × Nat) := s.host.alarms.filter (fun a => decide (a.1 ≠ 0x0505))

theorem mem_ownAlarms {code source : Nat} {s : State} (own : code ≠ 0x0505) :
    (code, source) ∈ ownAlarms s ↔ (code, source) ∈ s.host.alarms := by
  simp [ownAlarms, own]

theorem ownAlarms_congr {s t : State} (h : t.host.alarms = s.host.alarms) : ownAlarms t = ownAlarms s := by rw [ownAlarms, ownAlarms, h]

theorem alarms_raiseAlarm (code source : Nat) (args : List Byte) (s : State) : (raiseAlarm code source args s).host.alarms =
    if s.host.alarms.contains (code, source) then s.host.alarms else s.host.alarms ++ [(code, source)] := by
  unfold raiseAlarm raiseAs
  extract_lets t
  have before : t.host.alarms = s.host.alarms := by
    simp only [t]
    split <;> simp
  rw [← before]
  rfl

theorem alarms_endAlarm (code source : Nat) (args : List Byte) (s : State) : (endAlarm code source args s).host.alarms =
    s.host.alarms.filter (fun a => decide (a ≠ (code, source))) := by
  unfold endAlarm endAs
  split
  · simp [alarmPin]
  · rename_i absent
    refine (List.filter_eq_self.mpr fun a listed => ?_).symm
    have other : a ≠ (code, source) := fun same => absent (List.contains_iff_mem.mpr (same ▸ listed))
    exact decide_eq_true other

theorem ownAlarms_fullReserve (port : Nat) (args : List Byte) (s : State) : ownAlarms (raiseAlarm 0x0505 port args s) = ownAlarms s := by
  unfold ownAlarms
  rw [alarms_raiseAlarm]
  split <;> simp

@[simp] theorem egressPut_ownAlarms (p : Port) (w : Waiting) (s : State) : ownAlarms (egressPut p w s) = ownAlarms s := by
  have full (q : Port) (source : Nat) :
      ownAlarms (raiseAlarm 0x0505 source [BitVec.ofNat 8 w.cls] (countFull q w.cls s)) = ownAlarms s := by
    rw [ownAlarms_fullReserve]
    cases q <;> rfl
  have put (q : Port) (source : Nat) (up fits : Prop) [Decidable up] [Decidable fits] {t : State} (queued : ownAlarms t = ownAlarms s) :
      ownAlarms (if up then if fits then t else raiseAlarm 0x0505 source [BitVec.ofNat 8 w.cls] (countFull q w.cls s) else s) =
        ownAlarms s := by
    split
    · split
      · exact queued
      · exact full q source
    · rfl
  cases p with
  | a => exact put .a 0 _ _ rfl
  | b => exact put .b 1 _ _ rfl

@[simp] theorem sendJorva_ownAlarms (cls p delay : Nat) (dst : Option Nat) (frag : Nat) (last : Bool) (msg : WireMsg) (s : State) :
    ownAlarms (sendJorva cls p delay dst frag last msg s) = ownAlarms s :=
  (egressPut_ownAlarms ..).trans (egressPut_ownAlarms ..)

@[simp] theorem sendControl_ownAlarms (p : Nat) (dst : Option Nat) (msg : WireMsg) (s : State) :
    ownAlarms (sendControl p dst msg s) = ownAlarms s := by
  have sends (f : Nat → Nat) (g : Nat → Bool) (l : List Nat) (s : State) :
      ownAlarms (l.foldl (fun t i => controlFrame (f i) dst i (g i) msg t) s) = ownAlarms s := by
    induction l generalizing s with
    | nil => rfl
    | cons i l ih => exact (ih _).trans (sendJorva_ownAlarms ..)
  exact sends ..

@[simp] theorem deliverCompletion_ownAlarms (h : CmdHdr) (c : Completion) (s : State) :
    ownAlarms (deliverCompletion h c s) = ownAlarms s := by
  unfold deliverCompletion
  extract_lets t
  split
  · rfl
  · split
    · exact sendControl_ownAlarms ..
    · rfl

@[simp] theorem finish_ownAlarms (h : CmdHdr) (op : Nat) (s : State) : ownAlarms (finish h op okReply s) = ownAlarms s := by
  refine (ownAlarms_congr ?_).trans (deliverCompletion_ownAlarms h (completionOf h op okReply 0xFFFFFFFF s) s)
  simp [finish, finishAt, okReply]

/-- The commands that asked for a self-test are answered, in order (R289). -/
def answerTests (hs : List CmdHdr) (s : State) : State := hs.foldl (fun w h => finish h 0x0604 okReply w) s

@[simp] theorem answerTests_rest (hs : List CmdHdr) (s : State) :
    (answerTests hs s).red = s.red ∧ (answerTests hs s).time = s.time ∧ (answerTests hs s).cfg = s.cfg ∧
    (answerTests hs s).live = s.live ∧ (answerTests hs s).streams = s.streams ∧ (answerTests hs s).boot = s.boot ∧
    ownAlarms (answerTests hs s) = ownAlarms s := by
  unfold answerTests
  induction hs generalizing s with
  | nil => simp
  | cons h hs ih => simp [ih]

/-- A command with a ring of this hub, and no completion of an earlier pair, is answered there (R392, R407). -/
theorem finish_waiting {h : CmdHdr} {op : Nat} {s : State} (own : h.gateway = none) (current : orphanKey h ∉ s.host.orphans) :
    (finish h op okReply s).host.waiting = s.host.waiting ++ [completionOf h op okReply 0xFFFFFFFF s] := by
  simp [finish, finishAt, okReply, deliverCompletion, own, current]

/-- The engine as a self-test that ends at `e` ns judges it, at that instant (R289). -/
def redJudged (pass : Bool) (e : Nat) (s : State) : State :=
  { toInstant (2 * e) s with red := { s.red with
      testEnd := none, testHdrs := [], failed := !pass, pauses := s.red.pauses.map (testedPause pass e (toInstant (2 * e) s)) } }

/-- The engine judged, and its alarm raised or ended. -/
def redTested (pass : Bool) (e : Nat) (s : State) : State :=
  if pass then endAlarm 0x0701 0 [] (redJudged pass e s) else raiseAlarm 0x0701 0 [] (redJudged pass e s)

theorem exec_redSelftestEnd {e : Nat} {s : State} (pass : Bool) (runs : s.red.testEnd = some e) :
    exec (.redSelftestEnd pass) s = .next (answerTests s.red.testHdrs (redTested pass e s)) := by
  have red : (toInstant (2 * e) s).red = s.red := by simp
  refine congrArg Host.Outcome.next ?_
  simp only [onRedTest, runs, red]
  rfl

@[simp] theorem redTested_rest (pass : Bool) (e : Nat) (s : State) :
    (redTested pass e s).time = (toInstant (2 * e) s).time ∧ (redTested pass e s).red = (redJudged pass e s).red ∧
    (redTested pass e s).cfg = s.cfg ∧ (redTested pass e s).live = s.live ∧ (redTested pass e s).streams = s.streams ∧
    (redTested pass e s).boot = s.boot ∧ (redTested pass e s).host.waiting = s.host.waiting ∧
    (redTested pass e s).host.orphans = s.host.orphans := by
  cases pass <;> simp [redTested, redJudged]

/-! ### The statement -/

/-- Settles O34: a record's close changes, apart from what its delivery changes, its set and the next number of its stream alone; a
self-test's end leaves the engine as it was judged, whatever answers its commands. -/
theorem reductionRecordsClose : Obligations.ReductionRecordsClose := by
  refine ⟨fun n ue o rest s v opened due => ?_, fun n ue o rest s v opened due => ?_, fun n ue o rest s v opened due => ?_,
    fun e pass s runs => ?_, fun e pass h s runs asked own current => ?_⟩
  · obtain ⟨same, stands⟩ := derivedDue_rest due
    have closed := onStatsClose_closed ue opened due
    obtain ⟨time, red, -⟩ := closed.rest
    refine ⟨_, rfl, ?_, time, fun k _ other => ?_, closed.of_stands (stands.withRed _)⟩
    · rw [statsAt_congr red, statsAt_putStats, statsAt_congr same]
    · rw [statsAt_congr red, statsAt_putStats_other _ _ other, statsAt_congr same]
  · obtain ⟨same, stands⟩ := derivedDue_rest due
    have closed := onRainClose_closed ue opened due
    obtain ⟨time, red, -⟩ := closed.rest
    obtain ⟨left, set⟩ := rainClosed_sets n o rest v
    refine ⟨_, rfl, ?_, ?_, time, fun k _ other => ?_, closed.of_stands (stands.withRed _)⟩
    · rw [rainAt_congr red, rainAt_putRain, left]
    · rw [rainAt_congr red, rainAt_putRain, set, rainAt_congr same]
    · rw [rainAt_congr red, rainAt_putRain_other _ _ other, rainAt_congr same]
  · obtain ⟨same, stands⟩ := derivedDue_rest due
    have closed := onSpecClose_closed ue opened due
    obtain ⟨time, red, -⟩ := closed.rest
    refine ⟨_, rfl, ?_, time, fun k _ other => ?_, closed.of_stands (stands.withRed _)⟩
    · rw [specAt_congr red, specAt_putSpec, specAt_congr same]
    · rw [specAt_congr red, specAt_putSpec_other _ _ other, specAt_congr same]
  · obtain ⟨red, time, cfg, live, streams, boot, alarms⟩ := answerTests_rest s.red.testHdrs (redTested pass e s)
    obtain ⟨time', red', cfg', live', streams', boot', -⟩ := redTested_rest pass e s
    have judged := red.trans red'
    have alarm : (0x0701, 0) ∈ (answerTests s.red.testHdrs (redTested pass e s)).host.alarms ↔
        (0x0701, 0) ∈ (redTested pass e s).host.alarms := by
      rw [← mem_ownAlarms (by decide), alarms, mem_ownAlarms (by decide)]
    refine ⟨_, exec_redSelftestEnd pass runs, by rw [judged]; rfl, by rw [judged]; rfl, by rw [judged]; rfl, time.trans time',
      fun fails => ?_, fun passes => ?_, cfg.trans cfg', live.trans live', streams.trans streams', boot.trans boot'⟩
    · rw [alarm, fails]
      exact mem_alarms_raiseAlarm ..
    · rw [alarm, passes, redTested, if_pos rfl, alarms_endAlarm]
      simp
  · refine ⟨_, exec_redSelftestEnd pass runs, ?_⟩
    have current' : orphanKey h ∉ (redTested pass e s).host.orphans := by simpa using current
    rw [asked, answerTests, List.foldl_cons, List.foldl_nil, finish_waiting own current', List.map_append]
    simp [completionOf, okReply]

end Sys2Proof.Machine
end

section
/-! Reduction sets and self-tests as their commands set them (R268, R272, R276, R289). -/

namespace Sys2Proof.Machine

/-- Without grants there is nothing to return. -/
theorem returnGrants_of_nil {c : Settings} {ss : Table StreamCtx} {s : State} (noGrants : s.ring.grants = []) :
    returnGrants c ss s = s := by
  simp [returnGrants, noGrants]

/-- A command that needs no grant, of a hub that holds none, sets what it sets and is answered (R330). -/
theorem withGrants_accepts {h : CmdHdr} {op : Nat} {cmd : Instr} {f : Settings → Settings} {s : State}
    (needs : needGrants (f s.cfg) s.streams s = []) (noGrants : s.ring.grants = []) :
    withGrants h op cmd (f s.cfg) s.streams (fun u => finish h op okReply (accept f u)) s = finish h op okReply (accept f s) := by
  unfold withGrants
  rw [needs]
  exact returnGrants_of_nil (by simpa using noGrants)

theorem exec_statsSet {h : CmdHdr} {n interval stream : Nat} {es : List Chan} {s : State} (takes : Accepts h 0x0601 s)
    (good : statsCheck n interval stream es s = none) (needs : needGrants (statsConfig n interval stream es s.cfg) s.streams s = [])
    (noGrants : s.ring.grants = []) : exec (.statsSet h n interval stream es) s =
      .next (finish h 0x0601 okReply (accept (statsConfig n interval stream es) s)) :=
  congrArg Host.Outcome.next ((runCommand_eff takes good).trans (withGrants_accepts needs noGrants))

theorem exec_rainflowSet {h : CmdHdr} {n interval stream : Nat} {cs : List RainChanP} {s : State} (takes : Accepts h 0x0602 s)
    (good : rainCheck n interval stream cs s = none) (needs : needGrants (rainConfig n interval stream cs s.cfg) s.streams s = [])
    (noGrants : s.ring.grants = []) : exec (.rainflowSet h n interval stream cs) s =
      .next (finish h 0x0602 okReply (accept (rainConfig n interval stream cs) s)) :=
  congrArg Host.Outcome.next ((runCommand_eff takes good).trans (withGrants_accepts needs noGrants))

theorem exec_spectralSet {h : CmdHdr} {p : SpectralP} {s : State} (takes : Accepts h 0x0603 s) (good : specCheck p s = none)
    (needs : needGrants (specConfig p s.cfg) s.streams s = []) (noGrants : s.ring.grants = []) :
    exec (.spectralSet h p) s = .next (finish h 0x0603 okReply (accept (specConfig p) s)) :=
  congrArg Host.Outcome.next ((runCommand_eff takes good).trans (withGrants_accepts needs noGrants))

/-- A self-test runs: the command that asks for one waits for its end (R289). -/
theorem exec_redSelftest_joins {h : CmdHdr} {s : State} (takes : Accepts h 0x0604 s) (runs : s.red.testEnd ≠ none) :
    exec (.redSelftest h) s = .next { s with red.testHdrs := s.red.testHdrs ++ [h] } :=
  congrArg Host.Outcome.next ((runCommand_eff takes rfl).trans (if_pos (Option.isSome_iff_ne_none.mpr runs)))

/-- The state in which a self-test has been asked for: 10 ms from the next boundary, with the engine's pause where it has not stopped. -/
def testBegun (h : CmdHdr) (pauses : List RedPause) (s : State) : State :=
  { s with
    red.testHdrs := s.red.testHdrs ++ [h]
    red.testEnd := some (boundaryAfter 0 s / 2 + 10000000)
    red.pauses := s.red.pauses ++ pauses }

theorem exec_redSelftest_starts {h : CmdHdr} {s : State} (takes : Accepts h 0x0604 s) (idle : s.red.testEnd = none) :
    exec (.redSelftest h) s = .next (testBegun h (if s.red.failed then [] else
      [{ start := boundaryAfter 0 s / 2, stop := some (boundaryAfter 0 s / 2 + 10000000), era := eraNow s }]) s) := by
  refine congrArg Host.Outcome.next ((runCommand_eff takes rfl).trans ?_)
  cases failed : s.red.failed <;> simp [testBegun, idle, failed]

/-- Settles O35: each set command that Clesin accepts, and whose own check passes, writes its set in the accepted settings and is
answered; a self-test starts where none runs, and pauses an engine that has not stopped. -/
theorem reductionSettings : Obligations.ReductionSettings := by
  refine ⟨
    fun h n interval stream es s takes good needs noGrants => does_of (exec_statsSet takes good needs noGrants) (finish_silent ..),
    fun h n interval stream cs s takes good needs noGrants => does_of (exec_rainflowSet takes good needs noGrants) (finish_silent ..),
    fun h p s takes good needs noGrants => does_of (exec_spectralSet takes good needs noGrants) (finish_silent ..),
    fun h s takes idle works => ?_, fun h s takes runs => exec_redSelftest_joins takes runs, fun h s takes idle failed => ?_⟩
  · rw [exec_redSelftest_starts takes idle, works]
    rfl
  · rw [exec_redSelftest_starts takes idle, failed, if_pos rfl, testBegun, List.append_nil]

end Sys2Proof.Machine
end

section
/-! Scrub, parity, refresh, retraining, the division of the DRAM and staged events (R294, R304 to R309, R329, R421). -/

namespace Sys2Proof.Machine

/-! ### Apart from messages -/

/-- A log entry is a message. -/
theorem logEntry_silent (code : Nat) (args : List Byte) (s : State) : silent (logEntry code args s) = silent s := by
  simp [silent]

theorem silent_fret_congr {s t : State} (same : t.fret = s.fret) : (silent t).fret = (silent s).fret := by simp [silent, same]

/-- States that agree apart from messages agree in what no message is written to. -/
theorem parts_of_silent {t u : State} (same : silent t = silent u) :
    t.time = u.time ∧ t.cfg = u.cfg ∧ t.live = u.live ∧ t.streams = u.streams ∧ t.dram = u.dram ∧ t.trig = u.trig ∧
    t.boot = u.boot :=
  ⟨(congrArg State.time same :), (congrArg State.cfg same :), (congrArg State.live same :), (congrArg State.streams same :),
    (congrArg State.dram same :), (congrArg State.trig same :), (congrArg State.boot same :)⟩

/-! ### Poisoned bursts -/

theorem mem_insertNat {m n : Nat} : ∀ {l : List Nat}, m ∈ insertNat n l ↔ m = n ∨ m ∈ l
  | [] => by simp [insertNat]
  | k :: l => by
    unfold insertNat
    split
    · simp
    · rw [List.mem_cons, mem_insertNat, List.mem_cons]
      exact or_left_comm

@[simp] theorem markPoisoned_rest (addr : Nat) (s : State) :
    (markPoisoned addr s).time = s.time ∧ (markPoisoned addr s).fret = s.fret ∧ (markPoisoned addr s).trig = s.trig ∧
    (markPoisoned addr s).cfg = s.cfg ∧ (markPoisoned addr s).live = s.live ∧ (markPoisoned addr s).streams = s.streams ∧
    (markPoisoned addr s).boot = s.boot := by
  simp only [markPoisoned]
  (repeat' split) <;> simp

/-- A burst that is not listed joins a list that has room; nothing else of the DRAM changes (R309). -/
theorem markPoisoned_dram {addr : Nat} {s : State} (room : s.dram.poisoned.length < 256) (new : addr / 64 * 64 ∉ s.dram.poisoned) :
    (markPoisoned addr s).dram = { s.dram with poisoned := insertNat (addr / 64 * 64) s.dram.poisoned } := by
  simp only [markPoisoned]
  rw [if_neg (by simp [new, room])]
  split <;> simp

/-- A burst that is listed stays so. -/
theorem markPoisoned_listed {addr : Nat} {s : State} (listed : addr / 64 * 64 ∈ s.dram.poisoned) : markPoisoned addr s = s := by
  simp [markPoisoned, listed]

@[simp] theorem ueRead_rest (req addr syndrome : Nat) (s : State) :
    (ueRead req addr syndrome s).time = s.time ∧ (ueRead req addr syndrome s).fret = s.fret ∧
    (ueRead req addr syndrome s).trig = s.trig ∧ (ueRead req addr syndrome s).cfg = s.cfg ∧
    (ueRead req addr syndrome s).live = s.live ∧ (ueRead req addr syndrome s).streams = s.streams ∧
    (ueRead req addr syndrome s).boot = s.boot := by
  unfold ueRead
  split <;> simp

theorem ueRead_dram {addr : Nat} (req syndrome : Nat) {s : State} (room : s.dram.poisoned.length < 256)
    (new : addr / 64 * 64 ∉ s.dram.poisoned) :
    (ueRead req addr syndrome s).dram = { s.dram with poisoned := insertNat (addr / 64 * 64) s.dram.poisoned } := by
  unfold ueRead
  rw [if_neg (by simpa using new), markPoisoned_dram (by simpa using room) (by simpa using new)]
  simp

/-! ### Corrected errors -/

@[simp] theorem logCorrected_rest (req addr syndrome : Nat) (s : State) :
    (logCorrected req addr syndrome s).time = s.time ∧ (logCorrected req addr syndrome s).fret = s.fret ∧
    (logCorrected req addr syndrome s).trig = s.trig ∧ (logCorrected req addr syndrome s).cfg = s.cfg ∧
    (logCorrected req addr syndrome s).live = s.live ∧ (logCorrected req addr syndrome s).streams = s.streams ∧
    (logCorrected req addr syndrome s).boot = s.boot ∧ (logCorrected req addr syndrome s).dram = s.dram := by
  simp only [logCorrected]
  split <;> simp

@[simp] theorem countCorrected_rest (s : State) :
    (countCorrected s).time = s.time ∧ (countCorrected s).fret = s.fret ∧ (countCorrected s).trig = s.trig ∧
    (countCorrected s).cfg = s.cfg ∧ (countCorrected s).live = s.live ∧ (countCorrected s).streams = s.streams ∧
    (countCorrected s).boot = s.boot ∧ (countCorrected s).dram.poisoned = s.dram.poisoned ∧
    (countCorrected s).dram.scrub = s.dram.scrub ∧ (countCorrected s).dram.scrubDue = s.dram.scrubDue := by
  simp only [countCorrected]
  (repeat' split) <;> simp

theorem mem_ceLog_countCorrected (s : State) : s.time.cclk ∈ (countCorrected s).dram.ceLog := by
  simp only [countCorrected]
  (repeat' split) <;> simp

@[simp] theorem countPasses_rest (addr : Nat) (s : State) :
    (countPasses addr s).time = s.time ∧ (countPasses addr s).trig = s.trig ∧ (countPasses addr s).cfg = s.cfg ∧
    (countPasses addr s).live = s.live ∧ (countPasses addr s).streams = s.streams ∧ (countPasses addr s).boot = s.boot ∧
    (countPasses addr s).dram.poisoned = s.dram.poisoned ∧ (countPasses addr s).dram.ceLog = s.dram.ceLog ∧
    (countPasses addr s).dram.scrub = s.dram.scrub ∧ (countPasses addr s).dram.scrubDue = s.dram.scrubDue := by
  simp only [countPasses]
  (repeat' split) <;> simp

@[simp] theorem correctedRead_rest (req addr syndrome : Nat) (s : State) :
    (correctedRead req addr syndrome s).time = s.time ∧ (correctedRead req addr syndrome s).fret = s.fret ∧
    (correctedRead req addr syndrome s).trig = s.trig ∧ (correctedRead req addr syndrome s).cfg = s.cfg ∧
    (correctedRead req addr syndrome s).live = s.live ∧ (correctedRead req addr syndrome s).streams = s.streams ∧
    (correctedRead req addr syndrome s).boot = s.boot ∧ (correctedRead req addr syndrome s).dram.poisoned = s.dram.poisoned ∧
    (correctedRead req addr syndrome s).dram.scrub = s.dram.scrub ∧
    (correctedRead req addr syndrome s).dram.scrubDue = s.dram.scrubDue := by
  simp [correctedRead]

/-- A corrected error is listed with its time (R306). -/
theorem mem_ceLog_correctedRead (req addr syndrome : Nat) (s : State) :
    s.time.cclk ∈ (correctedRead req addr syndrome s).dram.ceLog := by
  have counted := mem_ceLog_countCorrected (logCorrected req addr syndrome s)
  rwa [(logCorrected_rest req addr syndrome s).1] at counted

/-- The event of a third pass waits with its fret, and is a message (R306, R218). -/
theorem countPasses_silent_fret (addr : Nat) (s : State) : (silent (countPasses addr s)).fret = (silent s).fret := by
  unfold countPasses
  extract_lets n t
  split
  · rw [event_silent]
    rfl
  · rfl

/-! ### Scrub -/

/-- The state in which the scrub read that is due is made, past any pause (R305, R308). -/
def scrubReadAt (s : State) : State :=
  let u := toCclk (max s.dram.scrubDue s.dram.pauseEnd) s
  { u with dram.scrubDue := s.dram.scrubDue + scrubCclk s, hist.fretRead := u.hist.fretRead + 64 }

/-- The scrub at the next burst, in a new pass after the last (R308). -/
def scrubAdvanced (s : State) : State :=
  if dramBytes s ≤ s.dram.scrub + 64 then { s with dram.scrub := 0, dram.pass := s.dram.pass + 1 }
  else { s with dram.scrub := s.dram.scrub + 64 }

/-- The scrub on pass `pass`. -/
def onPass (pass : Nat) (s : State) : State := { s with dram.pass := pass }

@[simp] theorem onPass_rest (pass : Nat) (s : State) :
    (onPass pass s).time = s.time ∧ (onPass pass s).fret = s.fret ∧ (onPass pass s).trig = s.trig ∧ (onPass pass s).cfg = s.cfg ∧
    (onPass pass s).live = s.live ∧ (onPass pass s).streams = s.streams ∧ (onPass pass s).boot = s.boot ∧
    (onPass pass s).dram.poisoned = s.dram.poisoned ∧ (onPass pass s).dram.ceLog = s.dram.ceLog ∧
    (onPass pass s).dram.scrub = s.dram.scrub ∧ (onPass pass s).dram.scrubDue = s.dram.scrubDue := by
  simp [onPass]

/-- What a scrub read of burst `a` on pass `pass` found has its effect (R306, R309). -/
def scrubFound (found : BurstOutcome) (a pass : Nat) (t : State) : State :=
  match found with
  | .clean => { t with dram.ceRuns := t.dram.ceRuns.filter (fun e => decide (e.1 ≠ a)) }
  | .corrected syn => onPass t.dram.pass (countPasses a (onPass pass (correctedRead 7 a syn t)))
  | .uncorrectable syn => ueRead 7 a syn t

@[simp] theorem scrubAdvanced_rest (s : State) :
    (scrubAdvanced s).time = s.time ∧ (scrubAdvanced s).fret = s.fret ∧ (scrubAdvanced s).trig = s.trig ∧
    (scrubAdvanced s).cfg = s.cfg ∧ (scrubAdvanced s).live = s.live ∧ (scrubAdvanced s).streams = s.streams ∧
    (scrubAdvanced s).boot = s.boot ∧ (scrubAdvanced s).dram.poisoned = s.dram.poisoned ∧
    (scrubAdvanced s).dram.scrubDue = s.dram.scrubDue ∧
    (scrubAdvanced s).dram.scrub = (if dramBytes s ≤ s.dram.scrub + 64 then 0 else s.dram.scrub + 64) := by
  unfold scrubAdvanced
  split <;> simp

@[simp] theorem scrubReadAt_rest (s : State) :
    (scrubReadAt s).time = (toCclk (max s.dram.scrubDue s.dram.pauseEnd) s).time ∧ (scrubReadAt s).fret = s.fret ∧
    (scrubReadAt s).trig = s.trig ∧ (scrubReadAt s).cfg = s.cfg ∧ (scrubReadAt s).live = s.live ∧
    (scrubReadAt s).streams = s.streams ∧ (scrubReadAt s).boot = s.boot ∧ (scrubReadAt s).dram.poisoned = s.dram.poisoned ∧
    (scrubReadAt s).dram.scrubDue = s.dram.scrubDue + scrubCclk s ∧ (scrubReadAt s).dram.scrub = s.dram.scrub ∧
    (scrubReadAt s).dram.pass = s.dram.pass ∧ dramBytes (scrubReadAt s) = dramBytes s := by
  simp [scrubReadAt, dramBytes]

/-- What a scrub read does once the DRAM is trained and the list has room: a burst that is listed is passed over (R308, R309). -/
theorem onScrub_reads {s : State} (found : BurstOutcome) (trained : s.dram.trained = true) (room : s.dram.poisoned.length < 256) :
    onScrub found s = if (scrubReadAt s).dram.poisoned.contains (scrubReadAt s).dram.scrub then scrubAdvanced (scrubReadAt s)
      else scrubFound found (scrubReadAt s).dram.scrub (scrubReadAt s).dram.pass (scrubAdvanced (scrubReadAt s)) := by
  unfold onScrub
  rw [if_pos (by simp [trained, room])]
  extract_lets due u hist dram r burst before t
  have made : r = scrubReadAt s := rfl
  have advanced : t = scrubAdvanced r := rfl
  clear_value t r
  rw [← made, ← advanced]
  cases found <;> rfl

/-- A scrub read of a burst that is not poisoned. -/
theorem exec_scrubRead {s : State} (found : BurstOutcome) (trained : s.dram.trained = true) (room : s.dram.poisoned.length < 256)
    (sound : s.dram.scrub ∉ s.dram.poisoned) :
    exec (.scrubRead found) s = .next (scrubFound found s.dram.scrub s.dram.pass (scrubAdvanced (scrubReadAt s))) := by
  have reads := onScrub_reads found trained room
  rw [if_neg (by simpa using sound)] at reads
  simp only [scrubReadAt_rest] at reads
  exact congrArg Host.Outcome.next reads

@[simp] theorem scrubFound_corrected_rest (syn a pass : Nat) (t : State) :
    (scrubFound (.corrected syn) a pass t).time = t.time ∧ (scrubFound (.corrected syn) a pass t).trig = t.trig ∧
    (scrubFound (.corrected syn) a pass t).cfg = t.cfg ∧ (scrubFound (.corrected syn) a pass t).live = t.live ∧
    (scrubFound (.corrected syn) a pass t).streams = t.streams ∧ (scrubFound (.corrected syn) a pass t).boot = t.boot ∧
    (scrubFound (.corrected syn) a pass t).dram.poisoned = t.dram.poisoned ∧
    (scrubFound (.corrected syn) a pass t).dram.scrub = t.dram.scrub ∧
    (scrubFound (.corrected syn) a pass t).dram.scrubDue = t.dram.scrubDue := by
  simp [scrubFound]

theorem mem_ceLog_scrubFound_corrected (syn a pass : Nat) (t : State) :
    t.time.cclk ∈ (scrubFound (.corrected syn) a pass t).dram.ceLog := by
  simpa [scrubFound] using mem_ceLog_correctedRead 7 a syn t

theorem scrubFound_corrected_silent_fret (syn a pass : Nat) (t : State) :
    (silent (scrubFound (.corrected syn) a pass t)).fret = (silent t).fret :=
  (silent_fret_congr (onPass_rest ..).2.1).trans ((countPasses_silent_fret ..).trans (silent_fret_congr (by simp)))

/-- A read that cannot be corrected marks the burst, and leaves those marked before (R309). -/
theorem scrubFound_uncorrectable_dram (syn pass : Nat) {t : State} {a : Nat} (room : t.dram.poisoned.length < 256)
    (sound : a ∉ t.dram.poisoned) (aligned : a % 64 = 0) :
    (scrubFound (.uncorrectable syn) a pass t).dram = { t.dram with poisoned := insertNat a t.dram.poisoned } := by
  have burst : a / 64 * 64 = a := by omega
  have marked := ueRead_dram (addr := a) 7 syn room (burst.symm ▸ sound)
  rwa [burst] at marked

@[simp] theorem scrubFound_uncorrectable_rest (syn a pass : Nat) (t : State) :
    (scrubFound (.uncorrectable syn) a pass t).time = t.time ∧ (scrubFound (.uncorrectable syn) a pass t).fret = t.fret ∧
    (scrubFound (.uncorrectable syn) a pass t).trig = t.trig ∧ (scrubFound (.uncorrectable syn) a pass t).cfg = t.cfg ∧
    (scrubFound (.uncorrectable syn) a pass t).live = t.live ∧ (scrubFound (.uncorrectable syn) a pass t).streams = t.streams ∧
    (scrubFound (.uncorrectable syn) a pass t).boot = t.boot :=
  ueRead_rest ..

/-- A read within the memory that finds nothing ends the burst's run of corrected passes (R306). -/
theorem exec_scrubRead_clean {s : State} (trained : s.dram.trained = true) (room : s.dram.poisoned.length < 256)
    (sound : s.dram.scrub ∉ s.dram.poisoned) (within : s.dram.scrub + 64 < dramBytes s) :
    exec (.scrubRead .clean) s = .next { scrubReadAt s with
      dram.scrub := s.dram.scrub + 64, dram.ceRuns := s.dram.ceRuns.filter (fun e => decide (e.1 ≠ s.dram.scrub)) } := by
  have advanced : scrubAdvanced (scrubReadAt s) = { scrubReadAt s with dram.scrub := s.dram.scrub + 64 } :=
    if_neg (Nat.not_le.mpr within)
  rw [exec_scrubRead _ trained room sound, advanced]
  rfl

/-! ### Parity -/

/-- A parity error that the third retry does not clear marks its burst, whether or not it was marked before; no other part of the
DRAM's state changes (R307, R309). -/
theorem onParity_fails {failures : Nat} (addr req : Nat) {s : State} (stays : 3 ≤ failures) (room : s.dram.poisoned.length < 256) :
    ∃ l, addr / 64 * 64 ∈ l ∧ (onParity addr req failures s).dram = { s.dram with poisoned := l } := by
  have burst : addr / 64 * 64 / 64 * 64 = addr / 64 * 64 := by omega
  simp only [onParity, if_neg (Nat.not_lt.mpr stays), raiseUncoded_rest, List.contains_iff_mem]
  by_cases listed : addr / 64 * 64 ∈ s.dram.poisoned
  · refine ⟨_, listed, ?_⟩
    rw [if_pos listed, markPoisoned_listed (burst.symm ▸ listed)]
  · refine ⟨_, (mem_insertNat (l := s.dram.poisoned)).mpr (.inl burst.symm), ?_⟩
    rw [if_neg listed, markPoisoned_dram (by simpa using room) (by simpa [burst] using listed)]
    simp

theorem onParity_rest (addr req failures : Nat) (s : State) :
    (onParity addr req failures s).fret = s.fret ∧ (onParity addr req failures s).trig = s.trig ∧
    (onParity addr req failures s).cfg = s.cfg ∧ (onParity addr req failures s).live = s.live ∧
    (onParity addr req failures s).streams = s.streams ∧ (onParity addr req failures s).boot = s.boot := by
  simp only [onParity]
  (repeat' split) <;> simp

/-! ### Refresh -/

/-- Of the refreshes that are due every `c`, as many are made as leave fewer than 9 intervals since the last: one alone unless more
than 8 stay postponed (R304). -/
theorem refreshes_bound {last c now : Nat} (pos : 0 < c) (due : last + c ≤ now) :
    now < last + max 1 ((now - last) / c - 8) * c + 9 * c ∧ (now ≤ last + 9 * c → max 1 ((now - last) / c - 8) = 1) := by
  constructor
  · have quotient : now - last < ((now - last) / c + 1) * c := by
      rw [Nat.mul_comm]
      exact Nat.lt_mul_div_succ _ pos
    have enough : ((now - last) / c + 1) * c ≤ (max 1 ((now - last) / c - 8) + 9) * c := Nat.mul_le_mul_right c (by omega)
    rw [Nat.add_mul (max 1 _)] at enough
    omega
  · intro soon
    have few : (now - last) / c ≤ 9 := Nat.div_le_of_le_mul (by rw [Nat.mul_comm]; omega)
    omega

theorem toCclk_cclk (c : Nat) (s : State) : (toCclk c s).time.cclk = max s.time.cclk c := by
  simp only [toCclk, passCclk]
  omega

theorem refreshCclk_pos {s : State} (ranks : s.dram.ranks ≤ 2) : 0 < refreshCclk s := by
  have one : max 1 s.dram.ranks ≤ 780 := by omega
  unfold refreshCclk
  split <;> exact Nat.div_pos (by omega) (by omega)

/-! ### Retraining -/

/-- The state in which a retraining pause begins and moves a tap, before any event (R305). -/
def retrained (above85 : Bool) (move : Int) (s : State) : State :=
  let t := toInstant (nextPause s) s
  { t with
    dram.hot := above85
    dram.retrainNext := t.dram.retrainNext + 1
    dram.pauseEnd := t.time.cclk + 800
    dram.taps := tmod 0 t.dram.taps (t.dram.retrainNext % (18 * max 1 t.dram.ranks)) (fun v => v + max (-1) (min 1 move)) }

/-- An edge that is near is logged and raised as an event, and neither is more than a message (R305). -/
theorem exec_retrainPause (above85 : Bool) (move : Int) (near : Bool) {s : State} (trained : s.dram.trained = true) :
    ∃ t, exec (.retrainPause above85 move near) s = .next t ∧ silent t = silent (retrained above85 move s) := by
  refine ⟨_, congrArg Host.Outcome.next (if_pos trained), ?_⟩
  cases near
  · rfl
  · exact (event_silent ..).trans (logEntry_silent ..)

@[simp] theorem retrained_rest (above85 : Bool) (move : Int) (s : State) :
    (retrained above85 move s).time = (toInstant (nextPause s) s).time ∧ (retrained above85 move s).fret = s.fret ∧
    (retrained above85 move s).trig = s.trig ∧ (retrained above85 move s).cfg = s.cfg ∧ (retrained above85 move s).live = s.live ∧
    (retrained above85 move s).streams = s.streams ∧ (retrained above85 move s).boot = s.boot ∧
    (retrained above85 move s).dram.hot = above85 ∧
    (retrained above85 move s).dram.retrainNext = s.dram.retrainNext + 1 ∧
    (retrained above85 move s).dram.pauseEnd = (toInstant (nextPause s) s).time.cclk + 800 := by
  simp [retrained]

/-- One tap moves, by at most one (R305). -/
theorem retrained_taps (above85 : Bool) (move : Int) (s : State) (i : Nat) :
    tget 0 (retrained above85 move s).dram.taps i = if i = s.dram.retrainNext % (18 * max 1 s.dram.ranks)
      then tget 0 s.dram.taps i + (if move < 0 then -1 else if 0 < move then 1 else 0) else tget 0 s.dram.taps i := by
  have sign : max (-1) (min 1 move) = if move < 0 then -1 else if 0 < move then 1 else 0 := by
    (repeat' split) <;> omega
  simp only [retrained, tmod, toInstant_rest, sign]
  by_cases turn : i = s.dram.retrainNext % (18 * max 1 s.dram.ranks)
  · rw [if_pos turn, turn, tget_tput_same]
  · rw [if_neg turn, tget_tput_other _ _ _ _ _ turn]

/-! ### The partition -/

/-- A table whose entries are all changed by a function that keeps the default. -/
theorem tget_map {α : Type} {d : α} {f : α → α} (fixed : f d = d) (n : Nat) : ∀ t : Table α,
    tget d (t.map (fun e => (e.1, f e.2))) n = f (tget d t n)
  | [] => fixed.symm
  | e :: t => by
    by_cases found : e.1 = n
    · simp [tget, found]
    · simpa [tget, found] using tget_map fixed n t

/-- A stream with nothing of the history. -/
def emptied (c : StreamCtx) : StreamCtx := { c with stored := [], notices := [], gone := [] }

/-- No stream has a record of a history that has been discarded (R294). -/
theorem streamAt_discardHistory (n : Nat) (s : State) : streamAt (discardHistory s) n = emptied (streamAt s n) :=
  tget_map (f := emptied) rfl n s.streams

theorem exec_memPartition {h : CmdHdr} {hist capo : Nat} {s : State} (takes : Accepts h 0x0701 s) (good : memCheck hist capo s = none) :
    exec (.memPartition h hist capo) s =
      .next (finishAtBoundary h 0x0701 (discardHistory (accept (memConfig hist capo) s))) :=
  congrArg Host.Outcome.next (runCommand_eff takes good)

/-! ### Staged events -/

/-- A record takes the next number of its stream, coded or not (R203). -/
theorem closeRecord_seq (n type stamp fret flags aux : Nat) (blocks : List Block) (s : State) :
    (closeRecord n type stamp fret flags aux blocks s).1.seq = (streamAt s n).nextSeq := by
  simp only [closeRecord]
  (repeat' split) <;> rfl

/-- The record of a posted event as the staging buffer keeps it: it has no slice of the history yet (R421). -/
def stagedRecord (n : Nat) (m : Event) (s : State) : Stored :=
  { rcd := (closeRecord n tyEvent m.stamp s.fret.idx 0 0 [mkBlock 5 0 0 0 (eventPayload m)] s).1
    slices := [], closedAt := s.time.cclk, failover := false, coder := none }

/-- The stream once event `m` has been posted to it. -/
def staged (n : Nat) (m : Event) (s : State) : StreamCtx :=
  { takeEvent m s (streamAt s n) with
    nextSeq := (streamAt s n).nextSeq + 1, stored := (streamAt s n).stored ++ [stagedRecord n m s] }

@[simp] theorem streamAt_putStream (n : Nat) (c : StreamCtx) (s : State) : streamAt (putStream n c s) n = c := tget_tput_same ..

section
variable {n : Nat} {e : Event} {rest : List (Nat × Event)} {s : State} (waits : s.pairs.waitingEvents = (n, e) :: rest)
  (up : pairActive s = true) (room : s.pairs.staging.length < 64)
include waits up room

/-- An event within the allowance is staged, and its record takes its number (R218, R421). -/
theorem postStaged_posts (opened : (streamAt s n).isOpen = true) (started : (streamAt s n).started = true)
    (within : inAllowance (eventWire (mergedEvent e (streamAt s n).heldEvents)) (streamAt s n) s = true) :
    postStaged s = putStream n (staged n (mergedEvent e (streamAt s n).heldEvents) s)
        { s with pairs.waitingEvents := rest, pairs.staging := s.pairs.staging ++ [(n, (streamAt s n).nextSeq)] } := by
  simp [postStaged, waits, up, room, opened, started, within, staged, stagedRecord]

theorem postStaged_holds (opened : (streamAt s n).isOpen = true) (started : (streamAt s n).started = true)
    (beyond : inAllowance (eventWire (mergedEvent e (streamAt s n).heldEvents)) (streamAt s n) s = false) :
    postStaged s = putStream n (holdEvent e (streamAt s n)) { s with pairs.waitingEvents := rest } := by
  simp [postStaged, waits, up, room, opened, started, beyond]

theorem postStaged_drops (other : ((streamAt s n).isOpen && (streamAt s n).started) = false) :
    postStaged s = { s with pairs.waitingEvents := rest } := by
  simp [postStaged, waits, up, room, other]

end

/-! ### The statement -/

/-- Settles O38: a scrub read is taken apart into when it is made, where the scrub goes and what it found; each other event, and the
command, answers a state whose parts the lemmas above give. -/
theorem memoryEventsAndPartition : Obligations.MemoryEventsAndPartition := by
  refine ⟨?_, ?_, ?_, ?_, ?_, ?_, ?_, ?_, ?_, ?_, ?_⟩
  · rintro s u trained room sound within rfl
    exact exec_scrubRead_clean trained room sound within
  · intro syn s trained room sound aligned
    have dram := scrubFound_uncorrectable_dram syn s.dram.pass (t := scrubAdvanced (scrubReadAt s)) (by simpa using room)
      (by simpa using sound) aligned
    refine ⟨_, exec_scrubRead _ trained room sound, ?_⟩
    rw [dram]
    simp +contextual [mem_insertNat]
  · intro syn s trained room sound
    have listed := mem_ceLog_scrubFound_corrected syn s.dram.scrub s.dram.pass (scrubAdvanced (scrubReadAt s))
    have fret := scrubFound_corrected_silent_fret syn s.dram.scrub s.dram.pass (scrubAdvanced (scrubReadAt s))
    rw [silent_fret_congr (t := scrubAdvanced (scrubReadAt s)) (s := s) (by simp)] at fret
    refine ⟨_, exec_scrubRead _ trained room sound, by simp, ?_, by simp, by simp, by simp, fret, by simp⟩
    rwa [(scrubFound_corrected_rest ..).1]
  · intro addr req failures s cleared
    exact does_of rfl ((congrArg silent (if_pos cleared)).trans (logEntry_silent ..))
  · intro addr req failures s stays room
    obtain ⟨l, listed, dram⟩ := onParity_fails addr req stays room
    obtain ⟨fret, trig, cfg, live, streams, boot⟩ := onParity_rest addr req failures s
    refine ⟨_, rfl, ?_, ?_, fret, trig, cfg, live, streams, boot⟩
    · rwa [dram]
    · rw [dram]
  · rintro c s trained rfl ranks
    have due : s.dram.lastRefresh + refreshCclk s ≤ (toCclk (s.dram.lastRefresh + refreshCclk s) s).time.cclk := by
      rw [toCclk_cclk]
      exact Nat.le_max_right ..
    obtain ⟨fewer, alone⟩ := refreshes_bound (refreshCclk_pos ranks) due
    exact ⟨_, _, congrArg Host.Outcome.next (if_pos trained), Nat.le_max_left .., rfl, rfl, rfl, fewer, alone,
      rfl, rfl, rfl, rfl, rfl, rfl, rfl⟩
  · intro above near move s trained
    obtain ⟨t, run, same⟩ := exec_retrainPause above move near trained
    obtain ⟨time, cfg, live, streams, dram, trig, boot⟩ := parts_of_silent same
    have fret : (silent t).fret = (silent s).fret :=
      (congrArg State.fret same).trans (silent_fret_congr (retrained_rest above move s).2.1)
    refine ⟨t, run, ?_⟩
    rw [time, cfg, live, streams, dram, trig, boot]
    simp [fret, retrained_taps]
  · intro h hist capo s takes good
    exact ⟨_, exec_memPartition takes good, rfl, rfl, rfl, rfl, fun n _ => streamAt_discardHistory n _, rfl, rfl, rfl⟩
  · rintro n e m rest s waits up room opened started rfl within
    refine ⟨_, congrArg Host.Outcome.next (postStaged_posts waits up room opened started within), rfl, rfl, ?_⟩
    rw [streamAt_putStream]
    refine ⟨rfl, rfl, ?_, rfl⟩
    rw [staged, List.map_append, List.map_singleton, stagedRecord, closeRecord_seq]
  · rintro n e m rest s waits up room opened started rfl beyond
    exact ⟨_, congrArg Host.Outcome.next (postStaged_holds waits up room opened started beyond), rfl, streamAt_putStream .., rfl⟩
  · intro n e rest s waits up room other
    exact congrArg Host.Outcome.next (postStaged_drops waits up room other)

end Sys2Proof.Machine
end
